-- ==== Sys2Proof/Word.lean ====
section
/-! DEFINITION. The word types of the device: 32-bit register words (R299) and bytes (R5). -/
namespace Sys2Proof

/-- A register word: every access of the direct window is one 32-bit word (R299). -/
abbrev Word := BitVec 32

/-- A byte of SRAM or MRAM. -/
abbrev Byte := BitVec 8

end Sys2Proof
end

