-- ==== Sys2Proof/Syntax.lean ====
section
/-! DEFINITION. The commands of the block: one constructor per row of spec/opcode_table.json, with the
operands the row's rule gives it. A command with an Ivken opcode carries its command entry (R212); a register
command carries the data written; an event carries what the outside world supplies with it. -/
namespace Sys2Proof

/-- The register-bus requesters, highest rank first (R301, Table 10.1). -/
inductive Requester where
  | cyclic | usb | strobes | ap | fusion
deriving DecidableEq, Repr

/-- A command entry (R212, Table 7.3) without its opcode, which the constructor names, and with the pair that
carries it and its command-ring index (Table 7.4 INDEX). -/
structure Entry where
  pair : Fin 8
  index : BitVec 32
  tag : Byte
  flags : Byte
  wait : BitVec 16
  onOk : BitVec 16
  waitTmo : BitVec 16
  user : Word
  params : BitVec 384
deriving DecidableEq, Repr

/-- The straps sampled at the release of DEVRST (R589). -/
structure Straps where
  usbEn : Bool
  bootsel : Bool
  vddioBHi : Bool
deriving DecidableEq, Repr

/-- What raises DEVRST (R353, Table 11.5; R330). -/
inductive ResetCause where
  | rstN | deviceReset | test | coreBrownOut | ioBrownOut | clkFail | watchdog
deriving DecidableEq, Repr

/-- What the known-answer tests of a boot find (R571), one bit per failed unit. -/
structure BootReport where
  failedEngines : BitVec 68
  failedLanes : BitVec 8
  failedTiles : BitVec 16
deriving DecidableEq, Repr

/-- Which supplies are below their warning thresholds (R355). -/
inductive WarnSupply where
  | vddioA | vddMram | both
deriving DecidableEq, Repr

/-- The SCK edges a request received (R254): none, all while SRDY was high, or some while it was low. -/
inductive SckEdges where
  | none | ready | early
deriving DecidableEq, Repr

/-- SCK as a request received it (R254): when its edges came, and the bits that it clocked. -/
structure SckPulses where
  edges : SckEdges
  bits : BitVec 14
deriving DecidableEq, Repr

/-- The USB line as remote wake meets it (R292): J through LISTEN; J through LISTEN and a resume of the host's own that
begins while the device drives; or K seen during LISTEN. -/
inductive WakeLine where
  | quiet | met | sawK
deriving DecidableEq, Repr

/-- Whether the phases below and above the chosen one passed (R188). -/
structure Neighbours where
  below : Bool
  above : Bool
deriving DecidableEq, Repr

/-- Supplies with a reset threshold (R355). -/
inductive ResetSupply where
  | vddCore | vddioA
deriving DecidableEq, Repr

/-- The USB IN endpoints whose packets the host acknowledges (R282). -/
inductive InEndpoint where
  | ep1 | ep2 | ep3
deriving DecidableEq, Repr

/-- A long packet of a camera (R390): virtual channel, data type and the pixels of one line. -/
structure LinePacket where
  vc : BitVec 2
  dt : BitVec 6
  pixels : List (BitVec 12)
deriving DecidableEq, Repr

/-- What a camera sent between frame start and frame end (R390 to R394): headers corrected by ECC, packets with an
uncorrectable ECC or a CRC error, and the long packets in order. -/
structure FrameReport where
  corrected : BitVec 16
  errors : BitVec 16
  packets : List LinePacket
deriving DecidableEq, Repr

/-- A detection as the container puts it out (R417), in pixels of its input level. -/
structure Detection where
  cls : Byte
  score : BitVec 16
  x0 : BitVec 16
  y0 : BitVec 16
  x1 : BitVec 16
  y1 : BitVec 16
deriving DecidableEq, Repr

/-- What a neural job computed (R410 publishes no container format, so the outputs come with the event), and the
tiles whose check mismatched on a work unit, one entry a unit (R421). -/
structure JobReport where
  detections : List Detection
  scores : List (BitVec 16)
  tensor : List Byte
  mismatch : List (Fin 16)
deriving DecidableEq, Repr

/-- The outcome of a long command's internal work (R226): whether it succeeded, and the bytes or units it found. -/
structure LongOutcome where
  ok : Bool
  units : BitVec 128
  values : List (BitVec 32)
deriving DecidableEq, Repr

/-- The commands of the block, one per row of spec/opcode_table.json. -/
inductive Instr where
  /-- REGISTER_WRITE (R6): A write to a direct-window register that has no row of its own takes effect according to each field's access code, including W1C clears and refused WD writes. -/
  | registerWrite (addr : BitVec 32) (data : Word)
  /-- BIT_ALIAS_WRITE (R327): A write to the bit-alias region acts atomically on one target bit according to that field's access code. -/
  | bitAliasWrite (addr : BitVec 32) (data : Word)
  /-- LATCHED_LOW_WORD_READ (R309): A read of the _L word of a latched wide value latches its other words from the same copy for the reading requester. -/
  | latchedLowWordRead (req : Requester) (addr : BitVec 32)
  /-- DOORBELL (R208): A DOORBELL write advances the producer or consumer index of a ring, or is rejected with DB_REJECT. -/
  | doorbell (data : Word)
  /-- UPDATE (R316): A write to UPDATE raises the strobes of the named groups, which stage the shadows of every block of those groups. -/
  | update (data : Word)
  /-- ARB_CLR (R19): Writing 1 to ARB_CLR clears all SRAM arbitration counters. -/
  | arbClr (data : Word)
  /-- RING_ENABLE (R209): Setting a ring's EN either enables it with zeroed indices or refuses it with CFG_REJECT. -/
  | ringEnable (r : Fin 256) (data : Word)
  /-- TL_CTRL_EN_WRITE (R313): A write of TL_CTRL.EN starts the tile link from DOWN, or stops it as TILE_REINIT does when EN is cleared. -/
  | tlCtrlEnWrite (t : Fin 16) (data : Word)
  /-- CYC_REINIT (R268): Writing 1 to CYC_CTRL.REINIT restarts the cyclic port after the commit that carries the write. -/
  | cycReinit (data : Word)
  /-- CYC_ENABLE (R270): Setting CYC_CTRL.EN restarts the cyclic port, or is refused with CFG_REJECT when the live block does not fit. -/
  | cycEnable (data : Word)
  /-- USB_REINIT (R297): Writing 1 to USB_CTRL.REINIT detaches the USB port for 20 ms and then re-attaches it. -/
  | usbReinit (data : Word)
  /-- SOFT_DETACH_WRITE (R274): A write of SOFT_DETACH releases or re-applies the D+ pull-up. -/
  | softDetachWrite (data : Word)
  /-- USB_STREAM_ENABLE (R286): Setting SEN of a stream slot starts streaming its ring, or is refused with STRM_REJECT. -/
  | usbStreamEnable (k : Fin 8) (data : Word)
  /-- SCAN_ENABLE (R368): Setting SCAN_EN starts the slow-converter scan after 64 CD15 periods; clearing it abandons the entry in conversion. -/
  | scanEnable (data : Word)
  /-- REFBUF_ENABLE (R369): Setting REFBUF_EN starts the reference buffer; clearing it clears REF_READY at once. -/
  | refbufEnable (data : Word)
  /-- CAM_ENABLE (R426): Setting CAM_CTRL.EN enables a camera receiver, or is refused with CFG_REJECT on a bad size or address. -/
  | camEnable (c : Fin 2) (data : Word)
  /-- NE_ENABLE (R427): Setting NE_CTRL.EN enables the neural engine, or is refused when NE_WORK_SIZE is 0. -/
  | neEnable (data : Word)
  /-- BM_ENABLE (R408): Setting BM_CTRL.EN enables the block matcher, whose first frame yields only a NO_REF header. -/
  | bmEnable (data : Word)
  /-- CD_ENABLE (R402): Setting CD_CFGk.EN enables a corner detector. -/
  | cdEnable (k : Fin 2) (data : Word)
  /-- AUD_ENABLE (R433): Setting AUD_EN starts the PDM clocks, the mix, the pre-roll and the voice-activity detector. -/
  | audEnable (data : Word)
  /-- KWS_ENABLE (R450): Setting KWS_EN enables spotting and configures RG118 and RG119, or is refused with CFG_REJECT. -/
  | kwsEnable (data : Word)
  /-- CLIP_EN_CHANGE (R445): A change of CLIP_EN takes effect and appends a CLIP_EN entry to the inspection record. -/
  | clipEnChange (data : Word)
  /-- FUS_ENABLE (R468): Setting FUS_CTRL.EN starts fusion, or is refused with CFG_REJECT when its rings or ports are unfit. -/
  | fusEnable (data : Word)
  /-- ADV_ENABLE (R466): Setting ADV_CFGd.EN enables an advisory channel, which writes its target scale in the first cycle after. -/
  | advEnable (c : Fin 8) (data : Word)
  /-- FAN_ENABLE (R488): Setting FAN_CTRL.EN starts a fan with its kick sequence; clearing it turns the fan OFF. -/
  | fanEnable (f : Fin 6) (data : Word)
  /-- CHECKER_ENABLE (R561): A write of CHK_CTRL.EN switches the checker's rotation on or off. -/
  | checkerEnable (data : Word)
  /-- SDI_ENABLE (R81): A write of SDI_CFGm.EN starts or freezes counting of a step/direction input. -/
  | sdiEnable (m : Fin 16) (data : Word)
  /-- QE_ENABLE (R84): A write of QE_CFGk.EN starts or freezes decoding of an encoder input. -/
  | qeEnable (k : Fin 8) (data : Word)
  /-- SPM_ENABLE (R108): Setting SPM_CTRLp.EN enables an SPI master port and repeats the 20 µs address-word check. -/
  | spmEnable (p : Fin 4) (data : Word)
  /-- BM_HINT_WRITE (R406): A write of BM_HINTc sets the block-matcher hint of a camera and records its PTIME. -/
  | bmHintWrite (c : Fin 2) (data : Word)
  /-- WAKE_REASON_CLEAR (R353): Writing 1 to a WAKE_REASON latch clears it together with its PEND and DONE bits in USB_RWAKE. -/
  | wakeReasonClear (data : Word)
  /-- GPIO_OE_WRITE (R591): A GPIO_OE write makes GPIOs outputs, except bits naming mapped GPIOs, which stay 0 and set GPIO_CONFLICT. -/
  | gpioOeWrite (high : Bool) (data : Word)
  /-- SYS_IDENT (R237): Returns the device identity, mode, image versions, power mode and boot slot. -/
  | sysIdent (e : Entry)
  /-- ECHO (R237): Returns its 20 data bytes unchanged. -/
  | echo (e : Entry)
  /-- CANCEL (R228): Cancels a task named by tag or position, completing it CANCELLED or taking it to its safe point. -/
  | cancel (e : Entry)
  /-- TAG_QUERY (R237): Returns the mask and count of tags in flight. -/
  | tagQuery (e : Entry)
  /-- LOST_TAGS (R235): Returns the LOST or LOST_IDEM mask, and optionally clears both. -/
  | lostTags (e : Entry)
  /-- DEVICE_RESET (R237): Asserts DEVRST in the pass after it is taken, unless refused BUSY_MOVING without FORCE. -/
  | deviceReset (e : Entry)
  /-- FLAG_SET (R237): Sets and clears task flags FLG192–FLG255 in one pass. -/
  | flagSet (e : Entry)
  /-- TIME_QUERY (R237): Returns the loop-period count and grain count from one loop-period boundary. -/
  | timeQuery (e : Entry)
  /-- MODE_SET (R342): Moves the device to a target power mode step by step, refused, deferred or abandoned as the conditions state. -/
  | modeSet (e : Entry)
  /-- MODE_QUERY (R358): Returns the power mode, deferral state, clock status, wake reasons and brown-out state. -/
  | modeQuery (e : Entry)
  /-- CHAIN_START (R42): Places a move in the axis ring, where it starts when it reaches the head and the axis is AT_REST. -/
  | chainStart (e : Entry)
  /-- STOP (R49): Enters the stop chain of each masked moving axis and, with FLUSH, cancels their waiting entries. -/
  | stop (e : Entry)
  /-- SCALE_SET (R68): Writes the SCALE shadows of the masked axes. -/
  | scaleSet (e : Entry)
  /-- CHAIN_LOAD (R68): Copies links from SRAM into chain memory, refused BUSY_MOVING if the chain is locked. -/
  | chainLoad (e : Entry)
  /-- CHAIN_CHECK (R39): Validates a chain against an axis's parameters and reports the first offending link and reason. -/
  | chainCheck (e : Entry)
  /-- AXIS_QUERY (R68): Returns an axis's position, state, link, velocity, scale and angle from one tick boundary. -/
  | axisQuery (e : Entry)
  /-- AXIS_ENABLE (R48): Enables or disables the masked axes, refused when one moves or its stop chain is invalid. -/
  | axisEnable (e : Entry)
  /-- FOLLOW_ENTER (R100): Switches an AT_REST axis to follow mode at a tick boundary, latching BASE and C0. -/
  | followEnter (e : Entry)
  /-- FOLLOW_LEAVE (R102): Raises a leave request that takes the axis out of FOLLOW once the input is idle. -/
  | followLeave (e : Entry)
  /-- MT_LOAD (R89): Copies a microstep table from SRAM into MT1–MT7 unless an enabled axis names it. -/
  | mtLoad (e : Entry)
  /-- PENDING_CLEAR (R112): Returns and clears FOLLOW_PENDING of an axis not in FOLLOW. -/
  | pendingClear (e : Entry)
  /-- CUR_POLICY_SET (R144): Writes the FLOOR, CEIL, LEAN_EN and POLICY shadows of the masked axes. -/
  | curPolicySet (e : Entry)
  /-- CUR_QUERY (R144): Returns an axis's demand, lean value, ceilings, load angle, flags and currents from one loop period. -/
  | curQuery (e : Entry)
  /-- LEDGER_READ (R142): Returns the energy ledgers of an axis, or the controller ledger, from one snapshot. -/
  | ledgerRead (e : Entry)
  /-- LEDGER_CLEAR (R143): Zeroes the masked ledgers, and optionally CE, at one loop-period boundary. -/
  | ledgerClear (e : Entry)
  /-- MOTOR_IDENT (R145): Measures coil resistance and inductance at rest and writes the MOTOR shadows. -/
  | motorIdent (e : Entry)
  /-- HOME_START (R157): Runs the configured homing method and redefines the position at its capture. -/
  | homeStart (e : Entry)
  /-- HOME_VERIFY (R164): Runs the homing method up to capture and judges the position VALID or LOST without redefining it. -/
  | homeVerify (e : Entry)
  /-- POS_INVALIDATE (R168): Sets POS_STATE of the masked axes to LOST at the next tick boundary. -/
  | posInvalidate (e : Entry)
  /-- TILE_START (R201): Enables the masked tile links and completes when each is UP or FAILED. -/
  | tileStart (e : Entry)
  /-- TILE_STOP (R201): Takes the masked links through STOPPING to DOWN unless an axis moves. -/
  | tileStop (e : Entry)
  /-- TILE_REINIT (R202): Resets the masked tile blocks and starts their links again. -/
  | tileReinit (e : Entry)
  /-- FILTER_SYNC (R198): Requests a synchronising reset of the filters of the masked UP links. -/
  | filterSync (e : Entry)
  /-- TILE_QUERY (R201): Returns a link's state, phase, round trip, status, counters and identity from one frame. -/
  | tileQuery (e : Entry)
  /-- ADC_URGENT (R381): Converts one channel ahead of the scan and returns the result in the completion. -/
  | adcUrgent (e : Entry)
  /-- BUSHEL_READ (R386): Returns a channel's bushel and span, and optionally clears them at one CD15 boundary. -/
  | bushelRead (e : Entry)
  /-- BUSHEL_CLEAR (R386): Clears the bushels and spans of the masked channels at one CD15 boundary. -/
  | bushelClear (e : Entry)
  /-- ADC_REINIT (R385): Applies the FUNC reset of the slow converter, ending scans and urgent requests. -/
  | adcReinit (e : Entry)
  /-- NE_LOAD (R410): Verifies a model container in place and binds it to a handle. -/
  | neLoad (e : Entry)
  /-- NE_UNLOAD (R425): Empties a handle unless an entry names it. -/
  | neUnload (e : Entry)
  /-- NE_FLUSH (R419): Completes every entry of the named job queues CANCELLED. -/
  | neFlush (e : Entry)
  /-- PERC_QUERY (R425): Returns the lanes, tiles, handles, running job, PTIME and frame sequences. -/
  | percQuery (e : Entry)
  /-- CAM_REINIT (R425): Applies the FUNC reset of the named camera receivers and frees their slots' flags. -/
  | camReinit (e : Entry)
  /-- BM_REINIT (R423): Resets the block matcher and re-admits retired lanes that pass the known-answer test. -/
  | bmReinit (e : Entry)
  /-- NE_REINIT (R423): Resets the neural engine, ends its jobs and re-admits retired tiles that pass the test. -/
  | neReinit (e : Entry)
  /-- AUD_QUERY (R449): Returns the audio state, levels, segment count, last verdict and spotter data. -/
  | audQuery (e : Entry)
  /-- KWS_ABORT (R447): Ends the phrase being analysed with verdict KWS_ABORTED. -/
  | kwsAbort (e : Entry)
  /-- AUD_REINIT (R449): Applies the FUNC reset of the audio block and restarts the pre-roll at index 0. -/
  | audReinit (e : Entry)
  /-- FUS_QUERY (R470): Returns the fusion cycle time, ego velocities and track masks. -/
  | fusQuery (e : Entry)
  /-- STREAM_AGES (R470): Returns the ages of the fusion streams from one cycle. -/
  | streamAges (e : Entry)
  /-- TRACK_CLEAR (R470): Frees the masked track slots at the next fusion cycle start. -/
  | trackClear (e : Entry)
  /-- FUS_REINIT (R470): Applies the FUNC reset of fusion, freeing tracks and resetting ego-motion. -/
  | fusReinit (e : Entry)
  /-- THERM_QUERY (R495): Returns a sensor's reading, outputs and hover states. -/
  | thermQuery (e : Entry)
  /-- FAN_QUERY (R495): Returns a fan's state, class, duty, speed, target, current and kick attempt. -/
  | fanQuery (e : Entry)
  /-- FAN_RESTART (R488): Clears the class and stall scruple of the masked fans and starts them. -/
  | fanRestart (e : Entry)
  /-- FAN_MAP_CLEAR (R487): Clears the learned speed maps of the masked fans. -/
  | fanMapClear (e : Entry)
  /-- THERM_REINIT (R495): Resets the tile and external sensors, whose outputs take their raw state at the next sample. -/
  | thermReinit (e : Entry)
  /-- FAN_MAP_READ (R495): Returns the nine learned map entries of a fan. -/
  | fanMapRead (e : Entry)
  /-- STORE (R502): Captures the parameters or calibration and writes them to the inactive bank, commit record last. -/
  | store (e : Entry)
  /-- STORE_QUERY (R516): Returns the active bank, valid banks, sequence numbers, length and interface revision of a store kind. -/
  | storeQuery (e : Entry)
  /-- PARAM_RECALL (R516): Copies the active parameter user area to its USER_DST. -/
  | paramRecall (e : Entry)
  /-- STORE_INVALIDATE (R516): Zeroes both commit lines of a store kind and appends a STORE_INVALIDATED entry. -/
  | storeInvalidate (e : Entry)
  /-- RECORD_NOTE (R510): Appends a NOTE entry carrying 16 bytes to the inspection record. -/
  | recordNote (e : Entry)
  /-- RECORD_EXPORT (R514): Signs a statement over a range of record entries and appends an EXPORTED entry. -/
  | recordExport (e : Entry)
  /-- RECORD_RELEASE (R515): Raises RELEASED so exported entries may be reused, and appends a RELEASED entry. -/
  | recordRelease (e : Entry)
  /-- IMG_QUERY (R545): Returns a slot's activation state and image versions, or the anti-rollback counters. -/
  | imgQuery (e : Entry)
  /-- IMG_WRITE (R535): Writes image lines into the slot that is not running, reading each back. -/
  | imgWrite (e : Entry)
  /-- IMG_COPY (R535): Copies an image area of the running slot into the other slot. -/
  | imgCopy (e : Entry)
  /-- IMG_VERIFY (R545): Checks an image of the inactive slot and appends an IMAGE entry on success. -/
  | imgVerify (e : Entry)
  /-- IMG_ACTIVATE (R537): Checks both images of the inactive slot in full and writes a TRIAL activation record. -/
  | imgActivate (e : Entry)
  /-- IMG_CONFIRM (R538): Confirms a trial boot and raises the anti-rollback counters and revocations. -/
  | imgConfirm (e : Entry)
  /-- SEC_CERT (R540): Writes the device certificate and its CA certificate to SRAM. -/
  | secCert (e : Entry)
  /-- EVT_QUERY (R574): Returns the event latches of a group and EV_SUM. -/
  | evtQuery (e : Entry)
  /-- EVT_CLEAR (R574): Clears masked event latches of a group as a W1C write. -/
  | evtClear (e : Entry)
  /-- EVT_ROUTE (R551): Writes a routing byte into a range of events, skipping reserved events. -/
  | evtRoute (e : Entry)
  /-- SCRUPLE_SET (R560): Sets N and W of a fault class's scruple. -/
  | scrupleSet (e : Entry)
  /-- AXIS_REINIT (R572): Applies the FUNC reset of the masked axes, keeping position, and may assign an engine. -/
  | axisReinit (e : Entry)
  /-- ENGINE_REINIT (R574): Tests retired engines and re-admits those that pass as idle spares. -/
  | engineReinit (e : Entry)
  /-- CHECKER_REINIT (R574): Tests the checker and, on a pass, clears class 0x01 and resumes rotation at A00. -/
  | checkerReinit (e : Entry)
  /-- FAULT_QUERY (R574): Returns a fault class's latch mask, scruple and active unit count. -/
  | faultQuery (e : Entry)
  /-- FAULT_ACK (R558): Clears the masked lasting latches whose lasting effects are no longer in force. -/
  | faultAck (e : Entry)
  /-- DISPATCH_PASS (R219): Every 10 µs, or 160 µs in DOZE, the scheduler applies cancels and flags, readies tasks, writes held completions, takes entries and starts tasks. -/
  | dispatchPass
  /-- WAIT_EXPIRED (R222): A task whose WAIT condition has not held within WAIT_TMO completes EXPIRED. -/
  | waitExpired (tag : Fin 128)
  /-- HELD_COMPLETION_WRITE (R232): Held completions are written with LATE once the completion ring has room. -/
  | heldCompletionWrite (q : Fin 8)
  /-- RING_HEAD_TAKE (R43): An axis engine takes the entry at its ring head once the axis is AT_REST, or arms a SYNC start. -/
  | ringHeadTake (n : Fin 64)
  /-- TRAJECTORY_TICK (R55): Every 100 µs each engine advances chain time by the scale, evaluates its link and hands the difference to the rate multiplier. -/
  | trajectoryTick (mismatch : Bool)
  /-- CHAIN_END (R45): A finite chain ends at velocity zero and the axis enters SETTLING. -/
  | chainEnd (n : Fin 64)
  /-- STOP_CHAIN_END (R53): A stop chain ends and the axis goes to SETTLING, or to OFF after SSTOP_N. -/
  | stopChainEnd (n : Fin 64)
  /-- SETTLE_DONE (R45): The SETTLE count is reached, the axis becomes AT_REST, takes its standstill mode and its move completes. -/
  | settleDone (n : Fin 64)
  /-- STROBE_APPLY (R317): A staged set applies at the next tick boundary, or next bus cycle for other blocks, and armed SYNC starts are revalidated and started. -/
  | strobeApply
  /-- AUTO_STROBE (R320): The device raises the strobe of an automatic group 10 µs before every tick boundary. -/
  | autoStrobe
  /-- LOOP_PERIOD (R117): Every 25 µs each energised axis arbitrates its demand, runs its current loop, observer, lean rule, ledgers, follow interpolator and outputs. -/
  | loopPeriod
  /-- STALL_DETECTED (R137): STALL_N consecutive valid periods beyond STALL_ANG set STALL and act by STALL_ACT. -/
  | stallDetected (n : Fin 64)
  /-- HOLD_DWELL_EXPIRED (R134): After HOLD_DWELL ticks at rest with HOLD_LEAN set, the hold demand falls toward FLOOR. -/
  | holdDwellExpired (n : Fin 64)
  /-- ENERGISE_RAMP_END (R167): The 800-period re-energisation ramp ends and the axis starts counting SETTLE. -/
  | energiseRampEnd (n : Fin 64)
  /-- POSITION_REDEFINE (R158): At the tick boundary after a capture the position and ANGLE_OFS are redefined and POS_STATE becomes VALID. -/
  | positionRedefine (n : Fin 64)
  /-- HOME_MAXDIST (R162): A SEEK or LATCH phase that travels MAXDIST counts fails with FAIL 0x1. -/
  | homeMaxdist (n : Fin 64)
  /-- FOLLOW_IDLE_EXIT (R101): With a leave request active, the axis leaves FOLLOW once the input has been idle 2 ms and u is 0. -/
  | followIdleExit (n : Fin 64)
  /-- FOLLOW_IDLE_PRESET (R92): After 2 ms without an input edge P_EST is preset to 400,000 and the history cleared. -/
  | followIdlePreset (n : Fin 64)
  /-- SDI_STEP_EDGE (R79): An accepted active STEP edge changes SDI_CNTm by ±1 and latches its timestamp. -/
  | sdiStepEdge (m : Fin 16) (dir : Bool) (delay : BitVec 32)
  /-- QE_COUNT_STEP (R82): An accepted quadrature state change updates QE_CNTk or sets PHASE_ERR. -/
  | qeCountStep (k : Fin 8) (a b i : Bool)
  /-- INDEX_EDGE (R83): An accepted gated index edge copies the count into QE_IDXk, counts it and optionally clears the count. -/
  | indexEdge (k : Fin 8) (a b : Bool)
  /-- LIMIT_INPUT (R152): An accepted active hard-limit level in the direction of motion sets HARD_LIMIT and enters the stop chain. -/
  | limitInput (g : Fin 48) (level : Bool)
  /-- SSTOP_N_CHANGE (R587): SSTOP_N accepted low enters every moving axis's stop chain; each change sets its cause and a record entry. -/
  | sstopNChange (level : Bool)
  /-- RST_N_LOW (R586): RST_N low for 2 µs asserts DEVRST while it stays low. -/
  | rstNLow (level : Bool)
  /-- TEST_HIGH (R588): TEST high holds DEVRST. -/
  | testHigh (level : Bool)
  /-- POR_RELEASE (R613): POR is released 1.0 ms after VBAT_GRAIN rises above 1.75 V. -/
  | porRelease
  /-- DEVRST_RELEASE (R613): DEVRST is released 100 µs after its conditions hold and the straps are sampled. -/
  | devrstRelease (straps : Straps)
  /-- DEVRST_ASSERT (R330): DEVRST resets every register outside the grain domain and captures tags in flight into LOST. -/
  | devrstAssert (cause : ResetCause)
  /-- BOOT (R527): The boot ROM selects, checks and starts a slot, loads banks, appends BOOT and sets MB_READY. -/
  | boot (report : BootReport)
  /-- BROWN_OUT_WARN (R355): VDDIO_A or VDD_MRAM below its warning threshold ends a store at its safe point and refuses MRAM writes.
  `low` names the supplies that are below it now. -/
  | brownOutWarn (low : WarnSupply)
  /-- BROWN_OUT_RESET (R355): VDD_CORE or VDDIO_A below its reset threshold holds DEVRST and latches its wake reason. -/
  | brownOutReset (supply : ResetSupply)
  /-- VBAT_LOW (R355): VBAT_GRAIN below 1.70 V holds POR. -/
  | vbatLow
  /-- VDDA_LOW (R372): VDDA below its threshold flags slow-converter results. -/
  | vddaLow (low : Bool)
  /-- REFCLK_FAIL (R338): REFCLK without an edge for 10 µs asserts DEVRST and latches CLK_FAIL. -/
  | refclkFail
  /-- GRAIN_CLOCK_SUBSTITUTE (R339): After 4 ms without a grain edge the device substitutes CD59 / 32 and sets GRAIN_CLK_SUBST. -/
  | grainClockSubstitute
  /-- GRAIN_CRYSTAL_LOCK (R607): After 4096 grain crystal edges the grain domain changes from the substitute to the crystal. -/
  | grainCrystalLock
  /-- GRAIN_CRYSTAL_TIMEOUT (R608): Without 4096 edges 2.0 s after POR the device sets GRAIN_CLK_SUBST and latches CLK_FAIL. -/
  | grainCrystalTimeout
  /-- AP_WATCHDOG_EXPIRY (R340): The AP watchdog expires and asserts DEVRST, latching WATCHDOG. -/
  | apWatchdogExpiry
  /-- GC_RESTART (R353): The grain image is restarted by its own watchdog and GC_RESTART is latched. -/
  | gcRestart
  /-- WAKE_SOURCE (R349): A latched enabled wake source raises the device to its mode, or abandons an entry before the commit point. -/
  | wakeSource (source : Fin 16)
  /-- GRAIN_ALARM (R353): GRAIN_CNT reaching GRAIN_ALARM with ALARM_EN latches the ALARM wake reason. -/
  | grainAlarm
  /-- QE_WAKE_COUNT (R354): QE_THR counts of motion on QE_SEL below RUN latch the QE wake reason. -/
  | qeWakeCount
  /-- MODE_STEP_DONE (R347): An upward or downward mode step completes and the next chained step or completion follows. -/
  | modeStepDone (micros : BitVec 32)
  /-- MODE_DEFERRAL_END (R343): When the last deferral condition ends, the refusal conditions are rechecked and the step is made or aborted. -/
  | modeDeferralEnd
  /-- GRAIN_COMMIT_POINT (R344): The core power switches open and GRAIN entry can no longer be abandoned. -/
  | grainCommitPoint
  /-- GRAIN_EXIT (R348): On leaving GRAIN the cyclic port restarts, rings are zeroed and the MODE_SET completion is written. -/
  | grainExit
  /-- EXCURSION_RETURN (R350): After a NO_HIT in a VAD excursion the device returns to the mode it left. -/
  | excursionReturn
  /-- REPLY_FREEZE (R248): At SCS_N assertion the device freezes the next reply and raises SRDY. -/
  | replyFreeze
  /-- CYCLIC_FRAME (R254): At SCS_N release the request is judged whole and, if accepted, committed. -/
  | cyclicFrame (sck : SckPulses) (frame : List Word)
  /-- MASTER_LOST (R265): LOSS_TMO ms without an accepted frame sets MASTER_LOST and applies LOSS_ACT. -/
  | masterLost
  /-- USB_OUT_TRANSFER (R279): An EP1 OUT transfer is judged whole and committed or refused. -/
  | usbOutTransfer (bytes : List Byte)
  /-- USB_IN_ACK (R282): The USB host's acknowledgement of an IN packet advances the consumer index past the completions or entries it carried. -/
  | usbInAck (ep : InEndpoint)
  /-- EP2_POLL (R284): An EP2 poll is answered with an event report after a change, or NAK. -/
  | ep2Poll
  /-- EP3_BURST (R285): A stream slot's turn sends a burst of ring entries on EP3. -/
  | ep3Burst
  /-- EP0_REQUEST (R276): EP0 answers a standard request and stalls class and vendor requests. -/
  | ep0Request (setup : BitVec 64)
  /-- USB_BUS_RESET (R287): A bus reset or VBUS loss returns the port to its default state and discards an OUT transfer in progress. -/
  | usbBusReset (highSpeed : Bool)
  /-- USB_VBUS_CHANGE (R274): USB_VBUS becoming valid or invalid applies or releases the D+ pull-up. -/
  | usbVbusChange (valid : Bool)
  /-- USB_SUSPEND (R288): After 3 ms of bus idle the port is suspended. -/
  | usbSuspend
  /-- USB_RESUME (R289): A host resume ends suspend at its end-of-resume EOP. -/
  | usbResume
  /-- REMOTE_WAKE_START (R290): With its conditions met the device starts remote-wake signalling and sets DONE. -/
  | remoteWakeStart
  /-- REMOTE_WAKE_LISTEN_END (R292): After LISTEN the device drives K, or treats its wake as delivered if it saw K. -/
  | remoteWakeListenEnd (line : WakeLine)
  /-- REMOTE_WAKE_DRIVE_END (R291): After 2.0 ms of K the device releases the line. -/
  | remoteWakeDriveEnd
  /-- REMOTE_WAKE_NO_ANSWER (R293): No resume within 100 ms of releasing sets RWAKE_NO_ANSWER. -/
  | remoteWakeNoAnswer
  /-- CONSOLE_REQUEST (R295): A console line is answered with its request's text or with ?. -/
  | consoleRequest (line : List Byte)
  /-- RETURN_FRAME (R181): A tile return frame is accepted or judged bad, giving filter words, status and identity. -/
  | returnFrame (t : Fin 16) (frame : BitVec 3000)
  /-- OUTBOUND_FRAME (R178): Each 25 µs the device sends an outbound frame with duties, bridge modes and any KILL words. -/
  | outboundFrame (t : Fin 16)
  /-- LINK_WAKE_END (R184): After 8 frames in WAKE the link enters TRAIN. -/
  | linkWakeEnd (t : Fin 16)
  /-- TRAIN_SWEEP_END (R185): After testing the eight phases the link chooses a phase and enters CHECK, or repeats.
  `order` names the phases in the order in which they were tested. -/
  | trainSweepEnd (t : Fin 16) (order : List (Fin 8))
  /-- LINK_CHECK_END (R186): CHECK ends in UP with a filter reset, or returns to TRAIN. -/
  | linkCheckEnd (t : Fin 16) (rtt : BitVec 10)
  /-- LINK_STOPPING_END (R184): After 4 frames in STOPPING the link goes DOWN. -/
  | linkStoppingEnd (t : Fin 16)
  /-- START_TIMEOUT (R187): A link not UP within START_TMO goes to FAILED with START_FAIL. -/
  | startTimeout (t : Fin 16)
  /-- HOLD_MAX_REACHED (R190): HELD_RUN reaching HOLD_MAX takes the link down and every axis of the tile to a hard fault. -/
  | holdMaxReached (t : Fin 16)
  /-- PHASE_TRACK (R188): Every 64 frames the monitor sampler moves the chosen phase toward the passing run's centre. -/
  | phaseTrack (t : Fin 16) (passing : Neighbours)
  /-- TILE_INHIBIT_CLEAR (R193): After INH_CLR clear frames the device sends ENERGISE 1 and axes re-energise. -/
  | tileInhibitClear (t : Fin 16)
  /-- TELEMETRY_ENTRY (R200): Every 2^DEC loop periods the device writes a telemetry entry to the tile's ring. -/
  | telemetryEntry (t : Fin 16)
  /-- SPI_TRANSFER (R111): A transfer entry of a port runs in a loop-period gap and its completion is written. -/
  | spiTransfer (p : Fin 4) (received : List Byte)
  /-- ADC_ENTRY_DONE (R364): A converter entry delivers its settled word to a ring or a bushel, the limits, fans and thermal sensors. `input` is the voltage at the converter, signed, in 1.25 V / 2^31; `sub` the CD15 periods from the last grain edge. -/
  | adcEntryDone (input : BitVec 40) (sub : Fin 32)
  /-- ADC_ROUND_DUE (R366): A scan round falls due and starts, or is skipped as an overrun. -/
  | adcRoundDue
  /-- REF_READY_SET (R369): REF_READY sets 162 grain periods after the write that set REFBUF_EN. -/
  | refReadySet
  /-- CSI_FRAME_START (R392): At a frame-start packet the receiver claims the next free slot or drops the frame. -/
  | csiFrameStart (c : Fin 2)
  /-- CSI_FRAME_END (R394): At frame end the receiver publishes the frame flag and writes the frame event. -/
  | csiFrameEnd (c : Fin 2) (frame : FrameReport)
  /-- PYRAMID_START (R401): The idle pyramid builder starts on a published frame and claims its pyramid flag. -/
  | pyramidStart
  /-- PYRAMID_DONE (R401): The pyramid builder finishes, forwards the frame flag and publishes the pyramid flag. -/
  | pyramidDone
  /-- CORNER_LIST_DONE (R403): A corner detector finishes a frame, writes its list and releases its flag. -/
  | cornerListDone (k : Fin 2)
  /-- BM_FIELD_DONE (R409): The block matcher finishes a frame, writes its vector field and releases the previous frame. `mismatch` names the blocks whose lane check failed (R421). -/
  | bmFieldDone (mismatch : List (BitVec 14))
  /-- NE_JOB_START (R415): The idle neural engine checks and starts the ready queue head of highest priority. -/
  | neJobStart
  /-- NE_JOB_DONE (R418): A neural job ends, writes its output and its completion. -/
  | neJobDone (job : JobReport)
  /-- VAD_FRAME (R436): Every 10 ms the detector computes the frame level, updates the floor and may trigger or end voice. `mics` holds the 160 decimated samples of each microphone before its gain (R431). -/
  | vadFrame (mics : List (List (BitVec 16)))
  /-- KWS_JOB_DUE (R440): Each HOP of buffered segment audio places a spotter job in JQ3. -/
  | kwsJobDue
  /-- SEGMENT_COPY (R438): On reaching FULL the segment is copied from the pre-roll into the segment buffer. -/
  | segmentCopy
  /-- KWS_VERDICT (R441): A spotter job result gives the verdict HIT or NO_HIT and the verdict entry is written. -/
  | kwsVerdict
  /-- KWS_DEFERRAL_TIMEOUT (R447): A phrase deferring a mode step for 2.5 s ends KWS_ABORTED. -/
  | kwsDeferralTimeout
  /-- MIC_STUCK (R432): A microphone constant for 100 ms is left out of the mix and MIC_STUCK is latched. -/
  | micStuck (m : Fin 4)
  /-- FUSION_CYCLE (R452): Every 1 ms fusion samples streams, updates ego-motion, associates tracks, evaluates advisories and writes the report. -/
  | fusionCycle
  /-- ADVISORY_HOLD_EXPIRY (R465): A lower LEVEL found for HOLD_MS takes effect. -/
  | advisoryHoldExpiry (c : Fin 8)
  /-- STREAM_AGE_LIMIT (R456): A stream older than AGE_LIM raises AGE_LIM. -/
  | streamAgeLimit (k : Fin 8)
  /-- DIE_TEMP_SAMPLE (R473): Every 328 grain periods the die monitor is sampled and its thresholds evaluated. -/
  | dieTempSample (reading : BitVec 16)
  /-- TILE_TEMP_SAMPLE (R474): Every 400 loop periods a tile sensor takes the mean of its valid temperature words. -/
  | tileTempSample (t : Fin 16)
  /-- THRESHOLD_DWELL_DONE (R477): A raw state that has differed for DWELL changes the threshold output, with its effects on axes. -/
  | thresholdDwellDone (x : Fin 25) (k : Fin 3)
  /-- HOVER_QUIET_WINDOW (R478): A full scruple window without crossings releases a hover-forced output to its raw state. -/
  | hoverQuietWindow (x : Fin 25) (k : Fin 3)
  /-- FAN_UPDATE (R486): Every 500 ms a fan's speed is measured and its duty and learned map updated. -/
  | fanUpdate (f : Fin 6) (edges : BitVec 16)
  /-- FAN_KICK_END (R488): A 1.5 s kick ends in RUN, in WAIT, or after the fourth in FAILED with a class. -/
  | fanKickEnd (f : Fin 6) (edges : BitVec 16)
  /-- FAN_WAIT_END (R488): After 5 s at duty 0 the fan kicks again. -/
  | fanWaitEnd (f : Fin 6)
  /-- FAN_TACH_SILENT (R491): No tach edge for 1 s in RUN gives TACH_LOST or FAN_STALLED by the fan current. -/
  | fanTachSilent (f : Fin 6)
  /-- MRAM_LINE_DONE (R499): A 200 µs MRAM line write completes and the next line of a store, append or image write follows. -/
  | mramLineDone (ok : Bool)
  /-- RECORD_APPEND (R511): A queued cause is appended to the inspection record as a hash-chained entry. -/
  | recordAppend
  /-- STORE_SAFE_POINT (R505): At BO_WARN or cancel a store stops at the end of its line without a commit. -/
  | storeSafePoint
  /-- CHECKER_SELF_TEST (R564): A suspect checker runs its known-answer test in place of the next check. -/
  | checkerSelfTest (pass : Bool)
  /-- SCRUPLE_LASTING (R556): An occurrence that brings a unit's count to N applies the lasting effect, sets the latch and queues a LASTING entry. -/
  | scrupleLasting (cls : Fin 25) (unit : Fin 68)
  /-- FOLLOW_LEAVE_TIMEOUT (R102): A FOLLOW_LEAVE whose axis has not left FOLLOW within TIMEOUT ms completes BUSY_MOVING, and its leave request is withdrawn. -/
  | followLeaveTimeout (n : Fin 64)
  /-- CPL_STALLED (R297): RG003 has held completions for 1 s while EP1 IN has not been polled, so CPL_STALLED is set. -/
  | cplStalled
  /-- BO_CLEAR (R355): VDDIO_A and VDD_MRAM rise back above their warning thresholds. BO_WARN clears, MRAM writes are allowed again, a pending STORE_INTERRUPTED entry or a waiting boot proceeds (R505, R611), and BO_CLEAR is latched. -/
  | boClear
  /-- USB_REATTACH (R297): 20 ms after a write to USB_CTRL.REINIT detached the port, the device re-attaches it and applies the D+ pull-up again. -/
  | usbReattach
  /-- INT_PULSE_END (R552): In PULSE mode, a 1.0 µs INTn pulse or its 1.0 µs inactive time ends; the output changes level, and a counted pending latching gives the next pulse. -/
  | intPulseEnd (n : Fin 4)
  /-- GRAIN_CLOCK_EDGE (R6): On each rising edge of the grain clock, the RC copies are refreshed under their crossing classes and GRAIN_CNT advances. -/
  | grainClockEdge
  /-- LONG_COMMAND_DONE (R226): A long command whose effect takes internal time completes when that work ends. This covers container verification of NE_LOAD, signing of RECORD_EXPORT, the known-answer tests of ENGINE_REINIT, CHECKER_REINIT, BM_REINIT and NE_REINIT, CAM_REINIT, image checks, and the fuse blowing of IMG_CONFIRM. -/
  | longCommandDone (tag : Fin 128) (outcome : LongOutcome)
deriving DecidableEq, Repr

end Sys2Proof
end

