-- ==== Sys2Proof/WellFormed.lean ====
section
/-! DEFINITION. Which commands the outside world can give: the checks on operands whose types allow more than the
interface carries. -/
namespace Sys2Proof

/-- A word address of the address map: register window, bit-alias region, SRAM, MRAM (R299, R629, R632). -/
def wordAddress (a : Nat) : Bool :=
  a % 4 == 0 && (decide (a < 0x10000) || (decide (0x100000 ≤ a) && decide (a < 0x900000))
    || (decide (0x10000000 ≤ a) && decide (a < 0x11000000)) || (decide (0x20000000 ≤ a) && decide (a < 0x20800000)))

/-- A word address of the bit-alias region (R327). -/
def aliasAddress (a : Nat) : Bool := a % 4 == 0 && decide (0x100000 ≤ a) && decide (a < 0x900000)

/-- The units of fault class `c` (Table 19.2). -/
def classUnits (c : Nat) : Nat :=
  [68, 1, 64, 64, 16, 16, 16, 64, 16, 1, 1, 2, 8, 16, 1, 4, 25, 25, 25, 25, 6, 6, 6, 1, 1].getD c 0

/-- The operands of a command are such as its interface can carry. -/
def Instr.wellFormed : Instr → Bool
  | .bmFieldDone _ => true
  | .registerWrite addr _ => wordAddress addr.toNat
  | .bitAliasWrite addr _ => aliasAddress addr.toNat
  | .latchedLowWordRead _ addr => wordAddress addr.toNat
  | .cyclicFrame sck frame => frame.length == (sck.bits.toNat + 31) / 32 && (sck.edges != .none || sck.bits == 0)
  | .trainSweepEnd _ order => order.length == 8 && decide order.Nodup
  | .vadFrame mics => mics.length == 4 && mics.all (fun m => m.length == 160)
  | .scrupleLasting cls unit => decide (unit.val < classUnits cls.val)
  | .doorbell _ | .update _ | .arbClr _ | .ringEnable _ _ | .tlCtrlEnWrite _ _ | .cycReinit _ | .cycEnable _
  | .usbReinit _ | .softDetachWrite _ | .usbStreamEnable _ _ | .scanEnable _ | .refbufEnable _ | .camEnable _ _
  | .neEnable _ | .bmEnable _ | .cdEnable _ _ | .audEnable _ | .kwsEnable _ | .clipEnChange _ | .fusEnable _
  | .advEnable _ _ | .fanEnable _ _ | .checkerEnable _ | .sdiEnable _ _ | .qeEnable _ _ | .spmEnable _ _
  | .bmHintWrite _ _ | .wakeReasonClear _ | .gpioOeWrite _ _ | .sysIdent _ | .echo _ | .cancel _ | .tagQuery _
  | .lostTags _ | .deviceReset _ | .flagSet _ | .timeQuery _ | .modeSet _ | .modeQuery _ | .chainStart _ | .stop _
  | .scaleSet _ | .chainLoad _ | .chainCheck _ | .axisQuery _ | .axisEnable _ | .followEnter _ | .followLeave _
  | .mtLoad _ | .pendingClear _ | .curPolicySet _ | .curQuery _ | .ledgerRead _ | .ledgerClear _ | .motorIdent _
  | .homeStart _ | .homeVerify _ | .posInvalidate _ | .tileStart _ | .tileStop _ | .tileReinit _ | .filterSync _
  | .tileQuery _ | .adcUrgent _ | .bushelRead _ | .bushelClear _ | .adcReinit _ | .neLoad _ | .neUnload _
  | .neFlush _ | .percQuery _ | .camReinit _ | .bmReinit _ | .neReinit _ | .audQuery _ | .kwsAbort _ | .audReinit _
  | .fusQuery _ | .streamAges _ | .trackClear _ | .fusReinit _ | .thermQuery _ | .fanQuery _ | .fanRestart _
  | .fanMapClear _ | .thermReinit _ | .fanMapRead _ | .store _ | .storeQuery _ | .paramRecall _
  | .storeInvalidate _ | .recordNote _ | .recordExport _ | .recordRelease _ | .imgQuery _ | .imgWrite _
  | .imgCopy _ | .imgVerify _ | .imgActivate _ | .imgConfirm _ | .secCert _ | .evtQuery _ | .evtClear _
  | .evtRoute _ | .scrupleSet _ | .axisReinit _ | .engineReinit _ | .checkerReinit _ | .faultQuery _ | .faultAck _
  | .dispatchPass | .waitExpired _ | .heldCompletionWrite _ | .ringHeadTake _ | .trajectoryTick _ | .chainEnd _
  | .stopChainEnd _ | .settleDone _ | .strobeApply | .autoStrobe | .loopPeriod | .stallDetected _
  | .holdDwellExpired _ | .energiseRampEnd _ | .positionRedefine _ | .homeMaxdist _ | .followIdleExit _
  | .followIdlePreset _ | .sdiStepEdge _ _ _ | .qeCountStep _ _ _ _ | .indexEdge _ _ _ | .limitInput _ _
  | .sstopNChange _ | .rstNLow _ | .testHigh _ | .porRelease | .devrstRelease _ | .devrstAssert _ | .boot _
  | .brownOutWarn _ | .brownOutReset _ | .vbatLow | .vddaLow _ | .refclkFail | .grainClockSubstitute
  | .grainCrystalLock | .grainCrystalTimeout | .apWatchdogExpiry | .gcRestart | .wakeSource _ | .grainAlarm
  | .qeWakeCount | .modeStepDone _ | .modeDeferralEnd | .grainCommitPoint | .grainExit | .excursionReturn
  | .replyFreeze | .masterLost | .usbOutTransfer _ | .usbInAck _ | .ep2Poll | .ep3Burst | .ep0Request _
  | .usbBusReset _ | .usbVbusChange _ | .usbSuspend | .usbResume | .remoteWakeStart | .remoteWakeListenEnd _
  | .remoteWakeDriveEnd | .remoteWakeNoAnswer | .consoleRequest _ | .returnFrame _ _ | .outboundFrame _
  | .linkWakeEnd _ | .linkCheckEnd _ _ | .linkStoppingEnd _ | .startTimeout _
  | .holdMaxReached _ | .phaseTrack _ _ | .tileInhibitClear _ | .telemetryEntry _ | .spiTransfer _ _
  | .adcEntryDone _ _ | .adcRoundDue | .refReadySet | .csiFrameStart _ | .csiFrameEnd _ _ | .pyramidStart
  | .pyramidDone | .cornerListDone _ | .neJobStart | .neJobDone _ | .kwsJobDue | .segmentCopy | .kwsVerdict
  | .kwsDeferralTimeout | .micStuck _ | .fusionCycle | .advisoryHoldExpiry _ | .streamAgeLimit _ | .dieTempSample _
  | .tileTempSample _ | .thresholdDwellDone _ _ | .hoverQuietWindow _ _ | .fanUpdate _ _ | .fanKickEnd _ _
  | .fanWaitEnd _ | .fanTachSilent _ | .mramLineDone _ | .recordAppend | .storeSafePoint | .checkerSelfTest _
  | .followLeaveTimeout _ | .cplStalled | .boClear | .usbReattach | .intPulseEnd _ | .grainClockEdge
  | .longCommandDone _ _ => true

end Sys2Proof
end

