-- ==== Sys2Proof/Decode.lean ====
section
/-! DEFINITION. The words of spec/opcode_table.json: its rows give no bits, so no word spells a command. -/
namespace Sys2Proof

/-- The command that a word of the table spells. No row of the table gives bits: none. -/
def decodeTableWord (_nbits _w : Nat) : Option Instr := none

end Sys2Proof
end

