-- ==== Sys2Proof/Config.lean ====
section
/-! DEFINITION. What one device fixes and what the spec leaves open: constants without a body, so that no proof
can know their value. Values drawn afresh are applied to the counter `Device.free`; the others to the operands
they depend on. Each is named in the assumption log. -/
namespace Sys2Proof.Config

/-- What the rounding of the observed rotor angle adds to the whole counts below its terms, from the back-EMF estimates of
phases A and B and VEL; no rounding is stated (R120). -/
opaque angleCarry : Int → Int → Int → Fin 3
/-- atan2(0, 0) in counts (R120 states none). -/
opaque angleOfZero : BitVec 12
/-- The die's supply energy of one loop period in nJ (R141): the combination of the supply monitors is not given. -/
opaque supplyEnergy : Nat → Nat
/-- The cause byte of a HARD_FAULT record entry for which Table 17.6 gives no code (a stall that faults, a forced
reset of a moving axis): a free value. -/
opaque faultCause : Nat → Nat
/-- Whether the k-th measured quotient of MOTOR_IDENT that is not whole is rounded up (R145 states no rounding). -/
opaque identUp : Nat → Bool
/-- The winding resistance MOTOR_IDENT finds (R145), in mΩ, where no current flowed or it exceeds its 16 bits. -/
opaque identR : Nat → BitVec 16
/-- The winding inductance MOTOR_IDENT finds (R145), in µH, where the current did not change or it exceeds its 16 bits. -/
opaque identL : Nat → BitVec 16
/-- The 64-bit unique number of this device (R540, R546). -/
opaque deviceUid : BitVec 64
/-- The ECDSA P-256 signature of a digest under the device key, 64 bytes as a number; the k-th one made (R540). -/
opaque signature : Nat → BitVec 256 → BitVec 512
/-- Whether an ECDSA P-256 signature (r, s) of a digest verifies under a public key (X, Y) (R524). -/
opaque verifies (key : BitVec 512) (digest : BitVec 256) (signature : BitVec 512) : Bool
/-- The boot ROM's SHA-256 of the public key of image key slot `k` (R524). -/
opaque keyHash : Fin 4 → BitVec 256
/-- What tells the slot booted where the boot ROM serves and none is (R532): IMG_STAT.SLOT and byte +17 of the BOOT entry. -/
opaque slotUnbooted : BitVec 8
/-- The word that the k-th read of a reserved address of retention SRAM returns (R346: the device defines none). -/
opaque reservedWord : Nat → Nat → BitVec 32
/-- Whether byte `k` of the n-th line that a reset cuts short, or that fails its read-back, holds its new content
(R505, R513: "partly written"). -/
opaque lineLanded (n k : Nat) : Bool
/-- The hash before the oldest entry kept, after a boot: the record that held it has been overwritten and no rule says
where the device finds it (R514). The k-th such value. -/
opaque lostAnchor : Nat → BitVec 256
/-- The wording of a console line: the request it answers, none for a message of the device's own, the facts it tells,
and k for the k-th line (R294 to R296 give no wording). -/
opaque consoleText : List (BitVec 8) → List Nat → Nat → List (BitVec 8)
/-- REASON of an image or security command that completes BAD_PARAM for what no code of Table 18.7 names (R545), from its
opcode and parameters. -/
opaque imageReason : Nat → BitVec 384 → BitVec 8
/-- The device certificate (R540): its bytes, its length being the byte count. -/
opaque deviceCert : List (BitVec 8)
/-- The CA certificate (R540). -/
opaque caCert : List (BitVec 8)
/-- Whether a quotient num / den that is not whole is rounded up: the spec states no rounding for the fan curve, the learned
map and its averaging (R485, R487, R492), for the mean of P_EST (R92) and for FOL_LAG in counts (Table 3.5). -/
opaque roundsUp : Int → Nat → Bool
/-- READING of an external sensor whose sample lies outside the 16-bit format (R475 states no result there). -/
opaque wideReading : Int → BitVec 16
/-- RPM of a fan whose measured speed lies outside the 16-bit format (R484 states no result there). -/
opaque wideRpm : Nat → BitVec 16
/-- Vector, SAD and MARGIN of a block for which every candidate reaches outside the previous frame: R405 evaluates
none and R407 states no choice. 48 bits: DX, DY, SAD, MARGIN. -/
opaque blindBlock : Nat → BitVec 48
/-- DX or DY of a vector outside the signed byte of Table 13.5. -/
opaque wideVector : Int → BitVec 8
/-- Version of the spotter container of the host image (R439). -/
opaque spotterVersion : BitVec 16
/-- Where the help-phrase function places its k-th ring and how large it makes it: R439 gives neither. -/
opaque kwsRing : Nat → BitVec 18 × Fin 13
/-- WORK_BYTES of the spotter container (R439). -/
opaque spotterWorkBytes : BitVec 32
/-- The k-th mix frame, sample i, when no microphone is left in the mix: R432 divides by their number. -/
opaque emptyMix : Nat → Nat → BitVec 16
/-- The k-th ego velocity that falls outside the signed 32 bits of V_EGO (R458 states no result there). -/
opaque wideVel : Nat → BitVec 32
/-- The k-th velocity of a track whose list carries the frame end of its last update: R462 divides by dt = 0. -/
opaque zeroDtVelocity : Nat → BitVec 16
/-- The k-th value of an IMU stream whose OFS names bytes beyond the 24 that a transfer receives (R453). -/
opaque imuBeyond : Nat → BitVec 16
/-- Whether CD14 and CD17 are requested when the clock controller reports for the k-th time (R336: nothing says when the
console and MRAM raise their requests); bit d for CDd. -/
opaque clkRequests : Nat → BitVec 60

/-- Whether the k-th freeze of a cyclic reply took longer than 0.5 µs (R248 gives only an upper bound). -/
opaque freezeLong : Nat → Bool
/-- SEQ of the first event report on EP2 (R284 gives no start). -/
opaque firstReport : BitVec 8
/-- Bytes of USB descriptors that the spec does not give: 0 and 1 bcdUSB, 2 to 4 the string indices of the device
descriptor, 5 and 6 those of configuration and interface (R276). -/
opaque usbNumber : Nat → BitVec 8
/-- String descriptor of an index other than the serial number's (R276). -/
opaque usbString : Nat → List (BitVec 8)
/-- The serial number spells its hexadecimal digits in lower case. -/
opaque serialLower : Bool
/-- Bytes the console has sent by its k-th line since the line before it (R294: time is not modelled). -/
opaque consoleSent : Nat → Nat

end Sys2Proof.Config
end

