-- ==== Sys2Proof/Machine/Crc.lean ====
section
/-! DEFINITION. CRC-32C over bits and over bytes (R177, R499), and bit lists of frames sent most significant bit
first (R175). -/
namespace Sys2Proof.Machine

/-- One bit of the CRC register (R177). -/
def crcBit (crc : Nat) (b : Bool) : Nat :=
  if crc.testBit 0 != b then (crc >>> 1) ^^^ 0x82F63B78 else crc >>> 1

/-- CRC-32C over bits in transmission order (R177). -/
def crcBits (bs : List Bool) : Nat := (bs.foldl crcBit 0xFFFFFFFF) ^^^ 0xFFFFFFFF

/-- The bits of a byte, least significant first. -/
def byteBits (b : Byte) : List Bool := (List.range 8).map (fun i => b.getLsbD i)

/-- CRC-32C over bytes, least significant bit of each byte first (the reflected form). -/
def crcBytes (bs : List Byte) : Nat := crcBits (bs.flatMap byteBits)

/-- The low `w` bits of `v`, most significant first. -/
def msbBits (w v : Nat) : List Bool := (List.range w).map (fun i => v.testBit (w - 1 - i))

/-- The low `w` bits of `v`, least significant first. -/
def lsbBits (w v : Nat) : List Bool := (List.range w).map (fun i => v.testBit i)

/-- The number whose bit `i` is element `i` of a list. -/
def bitsToNat : List Bool → Nat
  | [] => 0
  | b :: t => (if b then 1 else 0) + 2 * bitsToNat t

end Sys2Proof.Machine
end

