-- ==== Sys2Proof/Machine/RegMap.lean ====
section
/-! DEFINITION. The register map of chapters 01 to 20 (address map: R632, chapter 23): every field
with its address, its bits, its access code (Table 0.2) and its value after POR (R8). -/
namespace Sys2Proof.Machine

/-- Access code of a field (R6, Table 0.2), the RC codes with their crossing class (R303, Table 10.2).
Classes B and G share one code: both copy the live value at every grain edge. -/
inductive Acc where
  | rw | ro | rcBG | rcD | rcS | w1c | wo | sh | wd
deriving DecidableEq, Repr

/-- One register field, for the registers `base + stride * i`, `i < count`. -/
structure Field where
  base : Nat
  stride : Nat
  count : Nat
  lsb : Nat
  width : Nat
  acc : Acc
  reset : Nat → Nat
  keep : Nat → Bool

/-- Word address of register `i` of a field. -/
def Field.addr (f : Field) (i : Nat) : Nat := f.base + f.stride * i

/-- The key a field's value is stored under: the bit address of its least significant bit. -/
def Field.key (f : Field) (i : Nat) : Nat := f.addr i * 8 + f.lsb

/-- The index `i` with `f.addr i = a`, if there is one. -/
def Field.index? (f : Field) (a : Nat) : Option Nat :=
  if a < f.base then none
  else
    let i := (a - f.base) / f.stride
    if f.addr i = a ∧ i < f.count then some i else none

/-- Table 19.2: default N of class `c`; 0 for the reserved classes 0x19 to 0x1F. -/
def scrN (c : Nat) : Nat :=
  if c ≤ 0x18 then [3, 1, 3, 1, 16, 4, 1, 1, 16, 16, 1, 16, 3, 3, 1, 3, 6, 6, 6, 1, 1, 3, 1, 3, 1].getD c 0 else 0

/-- Table 19.2: default W of class `c` in ms; 0 for a fixed class and for the reserved ones (R554). -/
def scrW (c : Nat) : Nat :=
  [1000, 0, 60000, 0, 1000, 60000, 0, 0, 1000, 1000, 0, 1000, 1000, 1000, 0, 60000,
   60000, 60000, 60000, 0, 0, 3600000, 0, 3600000, 0].getD c 0

/-- Table 7.2: BASE of ring `r` after DEVRST, as the field [31:6]. -/
def ringBase (r : Nat) : Nat :=
  (if r < 16 then (if r % 2 = 0 then 0x10100000 else 0x10101000) + (r / 2) * 0x2000
   else if r < 80 then 0x10110000 + (r - 16) * 0x400 else 0) / 64

/-- Table 7.1, Table 7.2: EN of ring `r` after POR (QP1 is enabled at DEVRST release when USB_EN is high). -/
def ringEn (r : Nat) : Nat := if r < 2 then 1 else if 16 ≤ r ∧ r < 80 then 1 else 0

/-- Table 7.2: LOG2SIZE of ring `r`. -/
def ringLog (r : Nat) : Nat := if r < 16 then (if r % 2 = 0 then 6 else 7) else 4

/-- Table 7.2: ESIZE code of ring `r` (0 = 16 B, 1 = 32 B, 2 = 64 B). -/
def ringEsz (r : Nat) : Nat :=
  if r < 16 then (if r % 2 = 0 then 2 else 1) else if r < 80 then 2 else 0

/-- Table 7.9a: ROLE of ring `r`: 0 host-produced, 1 device-produced, 2 device-internal, 3 unassigned. -/
def ringRole (r : Nat) : Nat :=
  if r < 16 then r % 2
  else if r < 80 then 2
  else if r < 110 then 1
  else if r < 112 then 3
  else if r < 120 then r % 2
  else if r < 122 then 1
  else if r < 128 then 3
  else if r < 136 then 1
  else if r < 144 then r % 2
  else if r < 146 then 1
  else 3

/-- Table 7.10: TAG_BASE of pair `q`. -/
def tagBase (q : Nat) : Nat := [0, 32, 64, 80, 96, 112, 0, 0].getD q 0
/-- Table 7.10: TAG_CNT of pair `q`. -/
def tagCnt (q : Nat) : Nat := [32, 32, 16, 16, 16, 16, 0, 0].getD q 0
/-- Table 7.10: PRIO of pair `q`. -/
def qpPrio (q : Nat) : Nat := [3, 2, 1, 1, 1, 1, 1, 1].getD q 0
/-- Table 13 of the perception block (R427): PRIO of job queue `q`. -/
def jqPrio (q : Nat) : Nat := [3, 1, 0, 2].getD q 0

/-- A sensor-class value: die (0), tile (1 to 16), external (17 to 24) (R496). -/
def bySensor (die tile ext x : Nat) : Nat := if x = 0 then die else if x ≤ 16 then tile else ext
/-- WARN limit of sensor `x` (R496). -/
def thWarn (x : Nat) : Nat := bySensor 0x2F80 0x3200 0x1E00 x
/-- DERATE limit of sensor `x` (R496). -/
def thDer (x : Nat) : Nat := bySensor 0x3300 0x3700 0x2300 x
/-- SHUTDOWN limit of sensor `x` (R496). -/
def thShut (x : Nat) : Nat := bySensor 0x3600 0x3B00 0x2800 x
/-- DERATE_MA of sensor `x` (R496). -/
def thMa (x : Nat) : Nat := bySensor 2500 3000 0xFFFF x

namespace Reg
def SYS_ID.DEVICE : Field := ⟨0x0000, 4, 1, 16, 16, .ro, fun _ => 0x8064, fun _ => false⟩
def SYS_ID.REV : Field := ⟨0x0000, 4, 1, 8, 8, .ro, fun _ => 0xB1, fun _ => false⟩
def MACHINE_STAT.MOTION_ON : Field := ⟨0x0010, 4, 1, 0, 1, .ro, fun _ => 0, fun _ => false⟩
def MACHINE_STAT.SENSE_ON : Field := ⟨0x0010, 4, 1, 1, 1, .ro, fun _ => 0, fun _ => false⟩
def MACHINE_STAT.HOST_ON : Field := ⟨0x0010, 4, 1, 2, 1, .ro, fun _ => 1, fun _ => false⟩
def MACHINE_STAT.PERC_ON : Field := ⟨0x0010, 4, 1, 3, 1, .ro, fun _ => 0, fun _ => false⟩
def MACHINE_STAT.KEEP_ON : Field := ⟨0x0010, 4, 1, 4, 1, .ro, fun _ => 1, fun _ => false⟩
def ARB_WAIT.COUNT : Field := ⟨0x0024, 4, 5, 0, 32, .ro, fun _ => 0, fun _ => false⟩
def ARB_AGED.COUNT : Field := ⟨0x0038, 4, 1, 0, 32, .ro, fun _ => 0, fun _ => false⟩
def ARB_CLR.CLR : Field := ⟨0x003C, 4, 1, 0, 1, .wo, fun _ => 0, fun _ => false⟩
def CE_L.CE : Field := ⟨0x0040, 4, 1, 0, 32, .rcS, fun _ => 0, fun _ => false⟩
def CE_H.CE : Field := ⟨0x0044, 4, 1, 0, 32, .rcS, fun _ => 0, fun _ => false⟩
def UPDATE.SG : Field := ⟨0x0100, 4, 1, 0, 8, .wo, fun _ => 0, fun _ => false⟩
def STROBE_CFG.AUTO : Field := ⟨0x0104, 4, 1, 0, 8, .rw, fun _ => 0, fun _ => false⟩
def STROBE_STAT.PEND : Field := ⟨0x0108, 4, 1, 0, 8, .ro, fun _ => 0, fun _ => false⟩
def SG_TICK.COUNT : Field := ⟨0x0110, 4, 8, 0, 32, .ro, fun _ => 0, fun _ => false⟩
def REG_EVT.WD_IGNORED : Field := ⟨0x0130, 4, 1, 0, 1, .w1c, fun _ => 0, fun _ => false⟩
def REG_EVT.RESTAGED : Field := ⟨0x0130, 4, 1, 1, 1, .w1c, fun _ => 0, fun _ => false⟩
def REG_EVT.EN : Field := ⟨0x0130, 4, 1, 16, 2, .rw, fun _ => 1, fun _ => false⟩
def SDI_CFG.EN : Field := ⟨0x0200, 4, 16, 0, 1, .rw, fun _ => 0, fun _ => false⟩
def SDI_CFG.EDGE : Field := ⟨0x0200, 4, 16, 1, 1, .wd, fun _ => 0, fun _ => false⟩
def SDI_CFG.DIR_POL : Field := ⟨0x0200, 4, 16, 2, 1, .wd, fun _ => 0, fun _ => false⟩
def SDI_CFG.FILT : Field := ⟨0x0200, 4, 16, 3, 4, .wd, fun _ => 3, fun _ => false⟩
def SDI_CFG.WRITE_IGNORED : Field := ⟨0x0200, 4, 16, 7, 1, .w1c, fun _ => 0, fun _ => false⟩
def SDI_CNT.CNT : Field := ⟨0x0240, 4, 16, 0, 32, .ro, fun _ => 0, fun _ => false⟩
def SDI_TS.TS : Field := ⟨0x0280, 4, 16, 0, 32, .ro, fun _ => 0, fun _ => false⟩
def SPM_CTRL.EN : Field := ⟨0x0300, 0x20, 4, 0, 1, .rw, fun _ => 0, fun _ => false⟩
def SPM_CTRL.MODE : Field := ⟨0x0300, 0x20, 4, 1, 2, .wd, fun _ => 0, fun _ => false⟩
def SPM_CTRL.DIV : Field := ⟨0x0300, 0x20, 4, 3, 8, .wd, fun _ => 7, fun _ => false⟩
def SPM_CTRL.WORD : Field := ⟨0x0300, 0x20, 4, 11, 2, .wd, fun _ => 0, fun _ => false⟩
def SPM_CTRL.CS_POL : Field := ⟨0x0300, 0x20, 4, 13, 4, .wd, fun _ => 0, fun _ => false⟩
def SPM_CTRL.CS_GAP : Field := ⟨0x0300, 0x20, 4, 17, 4, .wd, fun _ => 2, fun _ => false⟩
def SPM_CTRL.WRITE_IGNORED : Field := ⟨0x0300, 0x20, 4, 31, 1, .w1c, fun _ => 0, fun _ => false⟩
def QE_CFG.EN : Field := ⟨0x0380, 0x10, 8, 0, 1, .rw, fun _ => 0, fun _ => false⟩
def QE_CFG.MODE : Field := ⟨0x0380, 0x10, 8, 1, 2, .wd, fun _ => 0, fun _ => false⟩
def QE_CFG.INVERT : Field := ⟨0x0380, 0x10, 8, 3, 1, .wd, fun _ => 0, fun _ => false⟩
def QE_CFG.IDX_POL : Field := ⟨0x0380, 0x10, 8, 4, 1, .wd, fun _ => 0, fun _ => false⟩
def QE_CFG.IDX_GATE : Field := ⟨0x0380, 0x10, 8, 5, 2, .wd, fun _ => 0, fun _ => false⟩
def QE_CFG.IDX_CLR : Field := ⟨0x0380, 0x10, 8, 7, 1, .wd, fun _ => 0, fun _ => false⟩
def QE_CFG.WRITE_IGNORED : Field := ⟨0x0380, 0x10, 8, 31, 1, .w1c, fun _ => 0, fun _ => false⟩
def QE_CNT.CNT : Field := ⟨0x0384, 0x10, 8, 0, 32, .ro, fun _ => 0, fun _ => false⟩
def QE_IDX.CNT : Field := ⟨0x0388, 0x10, 8, 0, 32, .ro, fun _ => 0, fun _ => false⟩
def QE_STAT.ABI : Field := ⟨0x038C, 0x10, 8, 0, 3, .ro, fun _ => 0, fun _ => false⟩
def QE_STAT.IDX_CNT : Field := ⟨0x038C, 0x10, 8, 8, 8, .ro, fun _ => 0, fun _ => false⟩
def QE_STAT.PHASE_ERR : Field := ⟨0x038C, 0x10, 8, 16, 1, .w1c, fun _ => 0, fun _ => false⟩
def QE_STAT.INDEX_SEEN : Field := ⟨0x038C, 0x10, 8, 17, 1, .w1c, fun _ => 0, fun _ => false⟩
def QE_STAT.EN : Field := ⟨0x038C, 0x10, 8, 24, 2, .rw, fun _ => 1, fun _ => false⟩
def PWR_STAT.MODE : Field := ⟨0x0400, 4, 1, 0, 2, .rcD, fun _ => 2, fun _ => false⟩
def PWR_STAT.TARGET : Field := ⟨0x0400, 4, 1, 2, 3, .rcD, fun _ => 0, fun _ => false⟩
def PWR_STAT.DEFER_CAUSE : Field := ⟨0x0400, 4, 1, 5, 2, .rcD, fun _ => 0, fun _ => false⟩
def PWR_STAT.GRAIN_CLK_SUBST : Field := ⟨0x0400, 4, 1, 7, 1, .rcBG, fun _ => 0, fun _ => true⟩
def WAKE_REASON.REASON : Field := ⟨0x0404, 4, 1, 0, 16, .w1c, fun _ => 0, fun _ => true⟩
def WAKE_EN.EN : Field := ⟨0x0408, 4, 1, 0, 16, .rw, fun _ => 0xA5, fun _ => true⟩
def WAKE_CFG.TARGET : Field := ⟨0x040C, 4, 1, 0, 2, .rw, fun _ => 2, fun _ => true⟩
def WAKE_CFG.VAD_RETURN : Field := ⟨0x040C, 4, 1, 2, 1, .rw, fun _ => 1, fun _ => true⟩
def WAKE_CFG.GPIO_SEL : Field := ⟨0x040C, 4, 1, 3, 6, .rw, fun _ => 63, fun _ => true⟩
def WAKE_CFG.GPIO_POL : Field := ⟨0x040C, 4, 1, 9, 1, .rw, fun _ => 0, fun _ => true⟩
def WAKE_CFG.QE_SEL : Field := ⟨0x040C, 4, 1, 10, 3, .rw, fun _ => 0, fun _ => true⟩
def WAKE_CFG.ALARM_EN : Field := ⟨0x040C, 4, 1, 13, 1, .rw, fun _ => 0, fun _ => true⟩
def WAKE_CFG.QE_THR : Field := ⟨0x040C, 4, 1, 16, 16, .rw, fun _ => 16, fun _ => true⟩
def GRAIN_ALARM_L.ALARM : Field := ⟨0x0410, 4, 1, 0, 32, .rw, fun _ => 0, fun _ => true⟩
def GRAIN_ALARM_H.ALARM : Field := ⟨0x0414, 4, 1, 0, 16, .rw, fun _ => 0, fun _ => true⟩
def GRAIN_CNT_L.COUNT : Field := ⟨0x0418, 4, 1, 0, 32, .rcBG, fun _ => 0, fun _ => true⟩
def GRAIN_CNT_H.COUNT : Field := ⟨0x041C, 4, 1, 0, 16, .rcBG, fun _ => 0, fun _ => true⟩
def BO_STAT.OK : Field := ⟨0x0420, 4, 1, 0, 6, .rcBG, fun _ => 0x37, fun _ => false⟩
def BO_STAT.BO_WARN_SEEN : Field := ⟨0x0420, 4, 1, 8, 1, .w1c, fun _ => 0, fun _ => true⟩
def BO_CNT.COUNT : Field := ⟨0x0424, 4, 1, 0, 16, .rcBG, fun _ => 0, fun _ => true⟩
def CLK_STAT_L.RUN : Field := ⟨0x0428, 4, 1, 0, 32, .rcD, fun _ => 0, fun _ => false⟩
def CLK_STAT_H.RUN : Field := ⟨0x042C, 4, 1, 0, 28, .rcD, fun _ => 0, fun _ => false⟩
def PWR_EVT.CAUSE : Field := ⟨0x0434, 4, 1, 0, 8, .w1c, fun _ => 0, fun _ => true⟩
def PWR_EVT.EN : Field := ⟨0x0434, 4, 1, 16, 8, .rw, fun _ => 0xF7, fun _ => false⟩
def GPIO_IN_L.IN : Field := ⟨0x0600, 4, 1, 0, 32, .ro, fun _ => 0, fun _ => false⟩
def GPIO_IN_H.IN : Field := ⟨0x0604, 4, 1, 0, 16, .ro, fun _ => 0, fun _ => false⟩
def GPIO_OUT_L.OUT : Field := ⟨0x0608, 4, 1, 0, 32, .rw, fun _ => 0, fun _ => false⟩
def GPIO_OUT_H.OUT : Field := ⟨0x060C, 4, 1, 0, 16, .rw, fun _ => 0, fun _ => false⟩
def GPIO_OE_L.OE : Field := ⟨0x0610, 4, 1, 0, 32, .rw, fun _ => 0, fun _ => false⟩
def GPIO_OE_H.OE : Field := ⟨0x0614, 4, 1, 0, 16, .rw, fun _ => 0, fun _ => false⟩
def GPIO_PULL.PULL : Field := ⟨0x0618, 4, 3, 0, 32, .rw, fun _ => 0x55555555, fun _ => false⟩
def PAD_STAT.USB_EN : Field := ⟨0x0624, 4, 1, 0, 1, .ro, fun _ => 0, fun _ => false⟩
def PAD_STAT.BOOTSEL : Field := ⟨0x0624, 4, 1, 1, 1, .ro, fun _ => 0, fun _ => false⟩
def PAD_STAT.VDDIO_B_HI : Field := ⟨0x0624, 4, 1, 2, 1, .ro, fun _ => 0, fun _ => false⟩
def PAD_STAT.GPIO_CONFLICT : Field := ⟨0x0624, 4, 1, 8, 1, .w1c, fun _ => 0, fun _ => false⟩
def EV_ROUTE.ROUTE : Field := ⟨0x1000, 4, 128, 0, 32, .rw, fun _ => 0, fun _ => false⟩
def EV_LAT.LAT : Field := ⟨0x1200, 4, 16, 0, 32, .w1c, fun _ => 0, fun _ => false⟩
def EV_SUM.SUM : Field := ⟨0x1240, 4, 1, 0, 16, .ro, fun _ => 0, fun _ => false⟩
def INT_CFG.EN : Field := ⟨0x1244, 4, 4, 0, 1, .rw, fun _ => 0, fun _ => false⟩
def INT_CFG.POL : Field := ⟨0x1244, 4, 4, 1, 1, .rw, fun _ => 0, fun _ => false⟩
def INT_CFG.PULSE : Field := ⟨0x1244, 4, 4, 2, 1, .rw, fun _ => 0, fun _ => false⟩
def INT_STAT.ACTIVE : Field := ⟨0x1254, 4, 1, 0, 4, .ro, fun _ => 0, fun _ => false⟩
def LOG_STAT.EV_DROPS : Field := ⟨0x1258, 4, 1, 0, 16, .ro, fun _ => 0, fun _ => false⟩
def LOG_STAT.SCR_DROPS : Field := ⟨0x1258, 4, 1, 16, 16, .ro, fun _ => 0, fun _ => false⟩
def SCR_CFG.N : Field := ⟨0x1300, 4, 32, 0, 8, .rw, fun c => scrN c, fun _ => false⟩
def SCR_CFG.W : Field := ⟨0x1300, 4, 32, 8, 24, .rw, fun c => scrW c, fun _ => false⟩
def SCR_STAT.LASTING : Field := ⟨0x1380, 4, 32, 0, 8, .ro, fun _ => 0, fun _ => true⟩
def SCR_STAT.ACTIVE : Field := ⟨0x1380, 4, 32, 8, 8, .ro, fun _ => 0, fun _ => true⟩
def CHK_CTRL.EN : Field := ⟨0x1400, 4, 1, 0, 1, .rw, fun _ => 1, fun _ => false⟩
def CHK_STAT.AXIS : Field := ⟨0x1404, 4, 1, 0, 6, .rcD, fun _ => 0, fun _ => false⟩
def CHK_STAT.STATE : Field := ⟨0x1404, 4, 1, 8, 2, .rcD, fun _ => 0, fun _ => false⟩
def CHK_STAT.CARRIED : Field := ⟨0x1404, 4, 1, 10, 6, .rcD, fun _ => 0, fun _ => false⟩
def CHK_STAT.SPARES : Field := ⟨0x1404, 4, 1, 16, 4, .rcD, fun _ => 4, fun _ => false⟩
def CHK_COUNT.COUNT : Field := ⟨0x1408, 4, 1, 0, 32, .rcBG, fun _ => 0, fun _ => false⟩
def CHK_MISMATCH.COUNT : Field := ⟨0x140C, 4, 1, 0, 32, .rcBG, fun _ => 0, fun _ => false⟩
def ENG_RETIRED.MASK : Field := ⟨0x1410, 4, 3, 0, 32, .ro, fun _ => 0, fun _ => false⟩
def CHK_EVT.CAUSE : Field := ⟨0x1440, 4, 1, 0, 5, .w1c, fun _ => 0, fun _ => false⟩
def CHK_EVT.EN : Field := ⟨0x1440, 4, 1, 16, 5, .rw, fun _ => 0x1F, fun _ => false⟩
def FAULT_EVT.CAUSE : Field := ⟨0x1444, 4, 1, 0, 4, .w1c, fun _ => 0, fun _ => false⟩
def FAULT_EVT.EN : Field := ⟨0x1444, 4, 1, 16, 4, .rw, fun _ => 0xD, fun _ => false⟩
def SYS_EVT.CAUSE : Field := ⟨0x1448, 4, 1, 0, 2, .w1c, fun _ => 0, fun _ => false⟩
def SYS_EVT.EN : Field := ⟨0x1448, 4, 1, 16, 2, .rw, fun _ => 3, fun _ => false⟩
def ENG_EVT.CAUSE : Field := ⟨0x1500, 4, 68, 0, 4, .w1c, fun _ => 0, fun _ => false⟩
def ENG_EVT.EN : Field := ⟨0x1500, 4, 68, 16, 4, .rw, fun _ => 0xF, fun _ => false⟩
def RING_BASE.BASE : Field := ⟨0x2000, 0x10, 256, 6, 26, .wd, fun r => ringBase r, fun _ => false⟩
def RING_CFG.EN : Field := ⟨0x2004, 0x10, 256, 0, 1, .rw, fun r => ringEn r, fun _ => false⟩
def RING_CFG.LOG2SIZE : Field := ⟨0x2004, 0x10, 256, 1, 5, .wd, fun r => ringLog r, fun _ => false⟩
def RING_CFG.ESIZE : Field := ⟨0x2004, 0x10, 256, 6, 2, .wd, fun r => ringEsz r, fun _ => false⟩
def RING_CFG.ROLE : Field := ⟨0x2004, 0x10, 256, 8, 2, .ro, fun r => ringRole r, fun _ => false⟩
def RING_CFG.CFG_REJECT : Field := ⟨0x2004, 0x10, 256, 30, 1, .w1c, fun _ => 0, fun _ => false⟩
def RING_CFG.WRITE_IGNORED : Field := ⟨0x2004, 0x10, 256, 31, 1, .w1c, fun _ => 0, fun _ => false⟩
def RING_PI.PI : Field := ⟨0x2008, 0x10, 256, 0, 32, .ro, fun _ => 0, fun _ => false⟩
def RING_CI.CI : Field := ⟨0x200C, 0x10, 256, 0, 32, .ro, fun _ => 0, fun _ => false⟩
def DOORBELL.DB : Field := ⟨0x3000, 4, 1, 0, 32, .wo, fun _ => 0, fun _ => false⟩
def MB_STAT.MB_READY : Field := ⟨0x3004, 4, 1, 0, 1, .ro, fun _ => 0, fun _ => false⟩
def MB_STAT.IN_FLIGHT : Field := ⟨0x3004, 4, 1, 1, 8, .ro, fun _ => 0, fun _ => false⟩
def MB_EVT.CAUSE : Field := ⟨0x3008, 4, 1, 0, 8, .w1c, fun _ => 0, fun _ => false⟩
def MB_EVT.EN : Field := ⟨0x3008, 4, 1, 16, 8, .rw, fun _ => 0xFF, fun _ => false⟩
def QP_CTRL.TAG_BASE : Field := ⟨0x3010, 4, 8, 0, 7, .wd, fun q => tagBase q, fun _ => false⟩
def QP_CTRL.TAG_CNT : Field := ⟨0x3010, 4, 8, 8, 8, .wd, fun q => tagCnt q, fun _ => false⟩
def QP_CTRL.PRIO : Field := ⟨0x3010, 4, 8, 16, 2, .wd, fun q => qpPrio q, fun _ => false⟩
def QP_CTRL.WRITE_IGNORED : Field := ⟨0x3010, 4, 8, 31, 1, .w1c, fun _ => 0, fun _ => false⟩
def QP_STAT.TASKS : Field := ⟨0x3030, 4, 8, 0, 8, .ro, fun _ => 0, fun _ => false⟩
def QP_STAT.TAG_WAIT : Field := ⟨0x3030, 4, 8, 8, 1, .ro, fun _ => 0, fun _ => false⟩
def QP_STAT.CPL_FULL : Field := ⟨0x3030, 4, 8, 9, 1, .ro, fun _ => 0, fun _ => false⟩
def QP_STAT.HELD : Field := ⟨0x3030, 4, 8, 16, 8, .ro, fun _ => 0, fun _ => false⟩
def TASK_FLAGS.FLAGS : Field := ⟨0x3050, 4, 2, 0, 32, .rw, fun _ => 0, fun _ => false⟩
def LOST.MASK : Field := ⟨0x3060, 4, 4, 0, 32, .ro, fun _ => 0, fun _ => true⟩
def LOST_IDEM.MASK : Field := ⟨0x3070, 4, 4, 0, 32, .ro, fun _ => 0, fun _ => true⟩
def AX_CTRL.ENABLE : Field := ⟨0x4000, 0x100, 64, 0, 1, .ro, fun _ => 0, fun _ => false⟩
def AX_CTRL.SG : Field := ⟨0x4000, 0x100, 64, 1, 3, .rw, fun _ => 0, fun _ => false⟩
def AX_STAT.STATE : Field := ⟨0x4004, 0x100, 64, 0, 4, .rcS, fun _ => 0, fun _ => false⟩
def AX_STAT.CHAIN : Field := ⟨0x4004, 0x100, 64, 4, 8, .rcS, fun _ => 0, fun _ => false⟩
def AX_STAT.LINK : Field := ⟨0x4004, 0x100, 64, 12, 7, .rcS, fun _ => 0x7F, fun _ => false⟩
def AX_STAT.PENDING : Field := ⟨0x4004, 0x100, 64, 19, 1, .rcBG, fun _ => 0, fun _ => false⟩
def AX_STAT.ARMED : Field := ⟨0x4004, 0x100, 64, 20, 1, .rcBG, fun _ => 0, fun _ => false⟩
def AX_STAT.MIGRATED : Field := ⟨0x4004, 0x100, 64, 21, 1, .rcBG, fun _ => 0, fun _ => false⟩
def AX_STAT.DEGRADED : Field := ⟨0x4004, 0x100, 64, 22, 1, .rcBG, fun _ => 0, fun _ => false⟩
def AX_STAT.POS_STATE : Field := ⟨0x4004, 0x100, 64, 23, 2, .rcS, fun _ => 2, fun _ => false⟩
def AX_STAT.ENGINE : Field := ⟨0x4004, 0x100, 64, 25, 7, .rcS, fun n => n, fun _ => false⟩
def POS_L.POS : Field := ⟨0x4008, 0x100, 64, 0, 32, .rcS, fun _ => 0, fun _ => false⟩
def POS_H.POS : Field := ⟨0x400C, 0x100, 64, 0, 8, .rcS, fun _ => 0, fun _ => false⟩
def POS_F.FRAC : Field := ⟨0x4010, 0x100, 64, 0, 24, .rcS, fun _ => 0, fun _ => false⟩
def VEL.VEL : Field := ⟨0x4014, 0x100, 64, 0, 32, .rcS, fun _ => 0, fun _ => false⟩
def ANGLE.ANGLE : Field := ⟨0x4018, 0x100, 64, 0, 12, .rcS, fun _ => 0, fun _ => false⟩
def SCALE.SCALE : Field := ⟨0x401C, 0x100, 64, 0, 16, .sh, fun _ => 0xFFFF, fun _ => false⟩
def SCALE_NOW.SCALE : Field := ⟨0x4020, 0x100, 64, 0, 16, .rcS, fun _ => 0xFFFF, fun _ => false⟩
def SCALE_SLEW.SLEW : Field := ⟨0x4024, 0x100, 64, 0, 16, .sh, fun _ => 0x290, fun _ => false⟩
def VMAX.VMAX : Field := ⟨0x4028, 0x100, 64, 0, 32, .sh, fun _ => 0x08000000, fun _ => false⟩
def STOP_CHAIN.CHAIN : Field := ⟨0x402C, 0x100, 64, 0, 8, .sh, fun _ => 0xFF, fun _ => false⟩
def SETTLE.TICKS : Field := ⟨0x4030, 0x100, 64, 0, 16, .sh, fun _ => 50, fun _ => false⟩
def SLIM_LO_L.LIMIT : Field := ⟨0x4034, 0x100, 64, 0, 32, .sh, fun _ => 0, fun _ => false⟩
def SLIM_LO_H.LIMIT : Field := ⟨0x4038, 0x100, 64, 0, 8, .sh, fun _ => 0x80, fun _ => false⟩
def SLIM_HI_L.LIMIT : Field := ⟨0x403C, 0x100, 64, 0, 32, .sh, fun _ => 0xFFFFFFFF, fun _ => false⟩
def SLIM_HI_H.LIMIT : Field := ⟨0x4040, 0x100, 64, 0, 8, .sh, fun _ => 0x7F, fun _ => false⟩
def AX_OPT.SLIM_EN : Field := ⟨0x4044, 0x100, 64, 0, 1, .sh, fun _ => 0, fun _ => false⟩
def AX_OPT.NO_SCALE : Field := ⟨0x4044, 0x100, 64, 1, 1, .sh, fun _ => 0, fun _ => false⟩
def ANGLE_OFS.OFS : Field := ⟨0x4048, 0x100, 64, 0, 12, .ro, fun _ => 0, fun _ => false⟩
def STEP_OUT.STEP_GPIO : Field := ⟨0x404C, 0x100, 64, 0, 6, .sh, fun _ => 0, fun _ => false⟩
def STEP_OUT.STEP_EN : Field := ⟨0x404C, 0x100, 64, 6, 1, .sh, fun _ => 0, fun _ => false⟩
def STEP_OUT.STEP_POL : Field := ⟨0x404C, 0x100, 64, 7, 1, .sh, fun _ => 0, fun _ => false⟩
def STEP_OUT.DIR_GPIO : Field := ⟨0x404C, 0x100, 64, 8, 6, .sh, fun _ => 0, fun _ => false⟩
def STEP_OUT.DIR_EN : Field := ⟨0x404C, 0x100, 64, 14, 1, .sh, fun _ => 0, fun _ => false⟩
def STEP_OUT.DIR_POL : Field := ⟨0x404C, 0x100, 64, 15, 1, .sh, fun _ => 0, fun _ => false⟩
def STEP_OUT.SHIFT : Field := ⟨0x404C, 0x100, 64, 16, 4, .sh, fun _ => 10, fun _ => false⟩
def STEP_OUT.PW : Field := ⟨0x404C, 0x100, 64, 20, 8, .sh, fun _ => 16, fun _ => false⟩
def STEP_OUT.DSU : Field := ⟨0x404C, 0x100, 64, 28, 4, .sh, fun _ => 1, fun _ => false⟩
def AX_EVT.CAUSE : Field := ⟨0x4050, 0x100, 64, 0, 10, .w1c, fun _ => 0, fun _ => false⟩
def AX_EVT_EN.EN : Field := ⟨0x4054, 0x100, 64, 0, 10, .rw, fun _ => 0x3FF, fun _ => false⟩
def FOL_CFG.SRC : Field := ⟨0x4080, 0x100, 64, 0, 4, .sh, fun _ => 0, fun _ => false⟩
def FOL_CFG.SRC_EN : Field := ⟨0x4080, 0x100, 64, 4, 1, .sh, fun _ => 0, fun _ => false⟩
def FOL_CFG.STEP_SIZE : Field := ⟨0x4080, 0x100, 64, 5, 11, .sh, fun _ => 1024, fun _ => false⟩
def FOL_CFG.AVG : Field := ⟨0x4080, 0x100, 64, 16, 2, .sh, fun _ => 2, fun _ => false⟩
def FOL_CFG.INVERT : Field := ⟨0x4080, 0x100, 64, 18, 1, .sh, fun _ => 0, fun _ => false⟩
def FOL_PEND.PENDING : Field := ⟨0x4084, 0x100, 64, 0, 24, .rcS, fun _ => 0, fun _ => false⟩
def FOL_PER.P_EST : Field := ⟨0x4088, 0x100, 64, 0, 24, .rcS, fun _ => 400000, fun _ => false⟩
def FOL_LAG_MAX.LAG_MAX : Field := ⟨0x408C, 0x100, 64, 0, 24, .sh, fun _ => 4096, fun _ => false⟩
def FOL_LAG.LAG : Field := ⟨0x4090, 0x100, 64, 0, 24, .rcS, fun _ => 0, fun _ => false⟩
def MTAB.MT : Field := ⟨0x4094, 0x100, 64, 0, 3, .sh, fun _ => 0, fun _ => false⟩
def ADDR_OUT.PORT : Field := ⟨0x4098, 0x100, 64, 0, 2, .sh, fun _ => 0, fun _ => false⟩
def ADDR_OUT.CS : Field := ⟨0x4098, 0x100, 64, 2, 2, .sh, fun _ => 0, fun _ => false⟩
def ADDR_OUT.ADDR_EN : Field := ⟨0x4098, 0x100, 64, 4, 1, .sh, fun _ => 0, fun _ => false⟩
def ADDR_OUT.ADDR_ONLY : Field := ⟨0x4098, 0x100, 64, 5, 1, .sh, fun _ => 0, fun _ => false⟩
def FOL_EVT.CAUSE : Field := ⟨0x409C, 0x100, 64, 0, 6, .w1c, fun _ => 0, fun _ => false⟩
def FOL_EVT.EN : Field := ⟨0x409C, 0x100, 64, 16, 6, .rw, fun _ => 0x3F, fun _ => false⟩
def CUR_CTRL.LEAN_EN : Field := ⟨0x40A0, 0x100, 64, 0, 1, .sh, fun _ => 1, fun _ => false⟩
def CUR_CTRL.STANDSTILL : Field := ⟨0x40A0, 0x100, 64, 1, 2, .sh, fun _ => 0, fun _ => false⟩
def CUR_CTRL.POLICY : Field := ⟨0x40A0, 0x100, 64, 3, 2, .sh, fun _ => 2, fun _ => false⟩
def CUR_CTRL.HOLD_LEAN : Field := ⟨0x40A0, 0x100, 64, 5, 1, .sh, fun _ => 0, fun _ => false⟩
def CUR_CTRL.FF_EN : Field := ⟨0x40A0, 0x100, 64, 6, 1, .sh, fun _ => 1, fun _ => false⟩
def CUR_CTRL.STALL_ACT : Field := ⟨0x40A0, 0x100, 64, 8, 2, .sh, fun _ => 1, fun _ => false⟩
def CUR_CTRL.PRIO : Field := ⟨0x40A0, 0x100, 64, 10, 2, .sh, fun _ => 1, fun _ => false⟩
def CUR_BOUND.FLOOR : Field := ⟨0x40A4, 0x100, 64, 0, 16, .sh, fun _ => 200, fun _ => false⟩
def CUR_BOUND.CEIL : Field := ⟨0x40A4, 0x100, 64, 16, 16, .sh, fun _ => 1000, fun _ => false⟩
def CUR_SET.FIXED_I : Field := ⟨0x40A8, 0x100, 64, 0, 16, .sh, fun _ => 1000, fun _ => false⟩
def CUR_SET.HOLD_I : Field := ⟨0x40A8, 0x100, 64, 16, 16, .sh, fun _ => 500, fun _ => false⟩
def LEAN_CFG.MARGIN : Field := ⟨0x40AC, 0x100, 64, 0, 12, .sh, fun _ => 683, fun _ => false⟩
def LEAN_CFG.RISE : Field := ⟨0x40AC, 0x100, 64, 12, 6, .sh, fun _ => 50, fun _ => false⟩
def LEAN_CFG.FALL : Field := ⟨0x40AC, 0x100, 64, 18, 6, .sh, fun _ => 5, fun _ => false⟩
def LEAN_CFG.GAIN : Field := ⟨0x40AC, 0x100, 64, 24, 8, .sh, fun _ => 64, fun _ => false⟩
def LOOP_GAIN.KP : Field := ⟨0x40B0, 0x100, 64, 0, 16, .sh, fun _ => 2560, fun _ => false⟩
def LOOP_GAIN.KI : Field := ⟨0x40B0, 0x100, 64, 16, 16, .sh, fun _ => 64, fun _ => false⟩
def MOTOR.RCOIL : Field := ⟨0x40B4, 0x100, 64, 0, 16, .sh, fun _ => 1000, fun _ => false⟩
def MOTOR.LCOIL : Field := ⟨0x40B4, 0x100, 64, 16, 16, .sh, fun _ => 3000, fun _ => false⟩
def STALL_CFG.STALL_ANG : Field := ⟨0x40B8, 0x100, 64, 0, 12, .sh, fun _ => 1138, fun _ => false⟩
def STALL_CFG.STALL_N : Field := ⟨0x40B8, 0x100, 64, 12, 4, .sh, fun _ => 4, fun _ => false⟩
def STALL_CFG.OBS_VMIN : Field := ⟨0x40B8, 0x100, 64, 16, 16, .sh, fun _ => 4, fun _ => false⟩
def CUR_LIM.OC_LIMIT : Field := ⟨0x40BC, 0x100, 64, 0, 16, .sh, fun _ => 9000, fun _ => false⟩
def CUR_LIM.HOLD_DWELL : Field := ⟨0x40BC, 0x100, 64, 16, 16, .sh, fun _ => 10000, fun _ => false⟩
def CUR_STAT.DEMAND : Field := ⟨0x40C0, 0x100, 64, 0, 16, .rcS, fun _ => 0, fun _ => false⟩
def CUR_STAT.FLAGS : Field := ⟨0x40C0, 0x100, 64, 16, 7, .rcS, fun _ => 0, fun _ => false⟩
def CUR_STAT.STALL_LASTING : Field := ⟨0x40C0, 0x100, 64, 23, 1, .rcS, fun _ => 0, fun _ => false⟩
def CUR_LOAD.DELTA : Field := ⟨0x40C4, 0x100, 64, 0, 12, .rcS, fun _ => 0, fun _ => false⟩
def CUR_LOAD.L : Field := ⟨0x40C4, 0x100, 64, 16, 16, .rcS, fun _ => 0, fun _ => false⟩
def CEIL_NOW.CEIL : Field := ⟨0x40C8, 0x100, 64, 0, 16, .rcS, fun _ => 1000, fun _ => false⟩
def CEIL_NOW.DERATE : Field := ⟨0x40C8, 0x100, 64, 16, 16, .rcS, fun _ => 0xFFFF, fun _ => false⟩
def CUR_EVT.CAUSE : Field := ⟨0x40CC, 0x100, 64, 0, 7, .w1c, fun _ => 0, fun _ => false⟩
def CUR_EVT.EN : Field := ⟨0x40CC, 0x100, 64, 16, 7, .rw, fun _ => 0x5D, fun _ => false⟩
def ECOP_L.ECOP : Field := ⟨0x40D0, 0x100, 64, 0, 32, .rcS, fun _ => 0, fun _ => false⟩
def ECOP_H.ECOP : Field := ⟨0x40D4, 0x100, 64, 0, 32, .rcS, fun _ => 0, fun _ => false⟩
def EDEL_L.EDEL : Field := ⟨0x40D8, 0x100, 64, 0, 32, .rcS, fun _ => 0, fun _ => false⟩
def EDEL_H.EDEL : Field := ⟨0x40DC, 0x100, 64, 0, 32, .rcS, fun _ => 0, fun _ => false⟩
def HOME_CFG.METHOD : Field := ⟨0x40E0, 0x100, 64, 0, 2, .sh, fun _ => 0, fun _ => false⟩
def HOME_CFG.DIR : Field := ⟨0x40E0, 0x100, 64, 2, 1, .sh, fun _ => 0, fun _ => false⟩
def HOME_CFG.USE_INDEX : Field := ⟨0x40E0, 0x100, 64, 3, 1, .sh, fun _ => 0, fun _ => false⟩
def HOME_CFG.SW_GPIO : Field := ⟨0x40E0, 0x100, 64, 4, 6, .sh, fun _ => 63, fun _ => false⟩
def HOME_CFG.SW_POL : Field := ⟨0x40E0, 0x100, 64, 10, 1, .sh, fun _ => 0, fun _ => false⟩
def HOME_CFG.QE : Field := ⟨0x40E0, 0x100, 64, 11, 3, .sh, fun _ => 0, fun _ => false⟩
def HOME_CFG.PWR_KEEP : Field := ⟨0x40E0, 0x100, 64, 14, 1, .sh, fun _ => 1, fun _ => false⟩
def HOME_CFG.LIM_EN : Field := ⟨0x40E0, 0x100, 64, 15, 1, .sh, fun _ => 0, fun _ => false⟩
def HOME_CFG.LIM_NEG_GPIO : Field := ⟨0x40E0, 0x100, 64, 16, 6, .sh, fun _ => 63, fun _ => false⟩
def HOME_CFG.LIM_POS_GPIO : Field := ⟨0x40E0, 0x100, 64, 22, 6, .sh, fun _ => 63, fun _ => false⟩
def HOME_CFG.LIM_POL : Field := ⟨0x40E0, 0x100, 64, 28, 1, .sh, fun _ => 0, fun _ => false⟩
def HOME_VEL.SEEK_VEL : Field := ⟨0x40E4, 0x100, 64, 0, 16, .sh, fun _ => 0x400, fun _ => false⟩
def HOME_VEL.LATCH_VEL : Field := ⟨0x40E4, 0x100, 64, 16, 16, .sh, fun _ => 0x100, fun _ => false⟩
def HOME_ACC.ACC : Field := ⟨0x40E8, 0x100, 64, 0, 32, .sh, fun _ => 0xCCD, fun _ => false⟩
def HOME_POS_L.POS : Field := ⟨0x40EC, 0x100, 64, 0, 32, .sh, fun _ => 0, fun _ => false⟩
def HOME_POS_H.POS : Field := ⟨0x40F0, 0x100, 64, 0, 8, .sh, fun _ => 0, fun _ => false⟩
def HOME_POS_H.BACKOFF : Field := ⟨0x40F0, 0x100, 64, 8, 24, .sh, fun _ => 2048, fun _ => false⟩
def HOME_LIM.HOME_I : Field := ⟨0x40F4, 0x100, 64, 0, 16, .sh, fun _ => 1000, fun _ => false⟩
def HOME_LIM.VERIFY_TOL : Field := ⟨0x40F4, 0x100, 64, 16, 16, .sh, fun _ => 512, fun _ => false⟩
def HOME_MAXD.MAXDIST : Field := ⟨0x40F8, 0x100, 64, 0, 32, .sh, fun _ => 0, fun _ => false⟩
def HOME_STAT.PHASE : Field := ⟨0x40FC, 0x100, 64, 0, 3, .rcS, fun _ => 0, fun _ => false⟩
def HOME_STAT.FAIL : Field := ⟨0x40FC, 0x100, 64, 3, 3, .rcS, fun _ => 0, fun _ => false⟩
def HOME_STAT.LIMNOW : Field := ⟨0x40FC, 0x100, 64, 6, 3, .rcS, fun _ => 0, fun _ => false⟩
def HOME_STAT.CAUSE : Field := ⟨0x40FC, 0x100, 64, 10, 6, .w1c, fun _ => 0, fun _ => false⟩
def HOME_STAT.EN : Field := ⟨0x40FC, 0x100, 64, 16, 6, .rw, fun _ => 0x3F, fun _ => false⟩
def TL_CTRL.EN : Field := ⟨0x8000, 0x100, 16, 0, 1, .rw, fun _ => 0, fun _ => false⟩
def TL_CTRL.TEL_EN : Field := ⟨0x8000, 0x100, 16, 1, 1, .rw, fun _ => 0, fun _ => false⟩
def TL_CTRL.WRITE_IGNORED : Field := ⟨0x8000, 0x100, 16, 31, 1, .w1c, fun _ => 0, fun _ => false⟩
def TL_CFG.HOLD_MAX : Field := ⟨0x8004, 0x100, 16, 0, 6, .wd, fun _ => 8, fun _ => false⟩
def TL_CFG.ERR_ACT : Field := ⟨0x8004, 0x100, 16, 6, 2, .wd, fun _ => 1, fun _ => false⟩
def TL_CFG.INH_CLR : Field := ⟨0x8004, 0x100, 16, 8, 8, .wd, fun _ => 40, fun _ => false⟩
def TL_CFG.START_TMO : Field := ⟨0x8004, 0x100, 16, 16, 8, .wd, fun _ => 5, fun _ => false⟩
def TL_CFG.TRACK_EN : Field := ⟨0x8004, 0x100, 16, 24, 1, .wd, fun _ => 1, fun _ => false⟩
def TEL_CFG.DEC : Field := ⟨0x8008, 0x100, 16, 0, 4, .wd, fun _ => 6, fun _ => false⟩
def TEL_CFG.MEAN : Field := ⟨0x8008, 0x100, 16, 4, 1, .wd, fun _ => 1, fun _ => false⟩
def TL_STAT.LSTATE : Field := ⟨0x800C, 0x100, 16, 0, 3, .rcS, fun _ => 0, fun _ => false⟩
def TL_STAT.PHASE : Field := ⟨0x800C, 0x100, 16, 3, 3, .rcS, fun _ => 0, fun _ => false⟩
def TL_STAT.HELD_RUN : Field := ⟨0x800C, 0x100, 16, 6, 6, .rcS, fun _ => 0, fun _ => false⟩
def TL_STAT.INHIBIT : Field := ⟨0x800C, 0x100, 16, 12, 1, .rcS, fun _ => 0, fun _ => false⟩
def TL_STAT.ENERGISE : Field := ⟨0x800C, 0x100, 16, 13, 1, .rcS, fun _ => 0, fun _ => false⟩
def TL_STAT.CRC_LASTING : Field := ⟨0x800C, 0x100, 16, 14, 1, .rcS, fun _ => 0, fun _ => false⟩
def TL_STAT.SETTLE_LEFT : Field := ⟨0x800C, 0x100, 16, 15, 2, .rcS, fun _ => 0, fun _ => false⟩
def TL_TSTAT.TSTAT : Field := ⟨0x8010, 0x100, 16, 0, 32, .rcS, fun _ => 0, fun _ => false⟩
def TL_BAD.COUNT : Field := ⟨0x8014, 0x100, 16, 0, 32, .rcBG, fun _ => 0, fun _ => false⟩
def TL_CNT.REALIGN : Field := ⟨0x8018, 0x100, 16, 0, 16, .rcBG, fun _ => 0, fun _ => false⟩
def TL_CNT.DOWN : Field := ⟨0x8018, 0x100, 16, 16, 16, .rcBG, fun _ => 0, fun _ => false⟩
def TL_RTT.RTT_BITS : Field := ⟨0x801C, 0x100, 16, 0, 10, .rcS, fun _ => 0, fun _ => false⟩
def TL_RTT.REJ_CNT : Field := ⟨0x801C, 0x100, 16, 16, 8, .rcS, fun _ => 0, fun _ => false⟩
def TL_ID.BYTE : Field := ⟨0x8020, 0x100, 16, 0, 32, .rcS, fun _ => 0, fun _ => false⟩
def TL_ID1.BYTE : Field := ⟨0x8024, 0x100, 16, 0, 32, .rcS, fun _ => 0, fun _ => false⟩
def TL_ID2.BYTE : Field := ⟨0x8028, 0x100, 16, 0, 32, .rcS, fun _ => 0, fun _ => false⟩
def TL_ID3.BYTE : Field := ⟨0x802C, 0x100, 16, 0, 32, .rcS, fun _ => 0, fun _ => false⟩
def TL_WORD0.W : Field := ⟨0x8030, 0x100, 16, 0, 32, .rcS, fun _ => 0, fun _ => false⟩
def TL_WORD1.W : Field := ⟨0x8034, 0x100, 16, 0, 32, .rcS, fun _ => 0, fun _ => false⟩
def TL_WORD2.W : Field := ⟨0x8038, 0x100, 16, 0, 32, .rcS, fun _ => 0, fun _ => false⟩
def TL_WORD3.W : Field := ⟨0x803C, 0x100, 16, 0, 32, .rcS, fun _ => 0, fun _ => false⟩
def TL_WORD4.W : Field := ⟨0x8040, 0x100, 16, 0, 32, .rcS, fun _ => 0, fun _ => false⟩
def TL_TAG.TAG : Field := ⟨0x8044, 0x100, 16, 0, 3, .rcS, fun _ => 0, fun _ => false⟩
def TEL_DROPS.COUNT : Field := ⟨0x8048, 0x100, 16, 0, 32, .ro, fun _ => 0, fun _ => false⟩
def TL_EVT.CAUSE : Field := ⟨0x804C, 0x100, 16, 0, 7, .w1c, fun _ => 0, fun _ => false⟩
def TL_EVT.CAUSE2 : Field := ⟨0x804C, 0x100, 16, 8, 5, .w1c, fun _ => 0, fun _ => false⟩
def TL_EVT.EN : Field := ⟨0x804C, 0x100, 16, 16, 13, .rw, fun _ => 0x1F77, fun _ => false⟩
def ADC_CTRL.SCAN_EN : Field := ⟨0x9000, 4, 1, 0, 1, .rw, fun _ => 0, fun _ => false⟩
def ADC_CTRL.REFBUF_EN : Field := ⟨0x9000, 4, 1, 1, 1, .rw, fun _ => 0, fun _ => false⟩
def ADC_CTRL.CFG_REJECT : Field := ⟨0x9000, 4, 1, 30, 1, .w1c, fun _ => 0, fun _ => false⟩
def ADC_CTRL.WRITE_IGNORED : Field := ⟨0x9000, 4, 1, 31, 1, .w1c, fun _ => 0, fun _ => false⟩
def SCAN_CFG.ROUND_PER : Field := ⟨0x9004, 4, 1, 0, 16, .wd, fun _ => 0, fun _ => false⟩
def SCAN_CFG.SINGLE : Field := ⟨0x9004, 4, 1, 16, 1, .wd, fun _ => 0, fun _ => false⟩
def SCAN_MASK_L.MASK : Field := ⟨0x9008, 4, 1, 0, 32, .wd, fun _ => 0, fun _ => false⟩
def SCAN_MASK_H.MASK : Field := ⟨0x900C, 4, 1, 0, 8, .wd, fun _ => 0, fun _ => false⟩
def ADC_STAT.REF_READY : Field := ⟨0x9010, 4, 1, 0, 1, .rcBG, fun _ => 0, fun _ => false⟩
def ADC_STAT.CONVERTING : Field := ⟨0x9010, 4, 1, 1, 1, .rcBG, fun _ => 0, fun _ => false⟩
def ADC_STAT.ENTRY : Field := ⟨0x9010, 4, 1, 2, 6, .rcD, fun _ => 0x3F, fun _ => false⟩
def ADC_STAT.URGENT_NOW : Field := ⟨0x9010, 4, 1, 8, 1, .rcBG, fun _ => 0, fun _ => false⟩
def ADC_STAT.URG_Q : Field := ⟨0x9010, 4, 1, 9, 3, .rcD, fun _ => 0, fun _ => false⟩
def ADC_STAT.ROUND : Field := ⟨0x9010, 4, 1, 16, 8, .rcD, fun _ => 0, fun _ => false⟩
def ADC_ROUNDS.COUNT : Field := ⟨0x9014, 4, 1, 0, 32, .rcBG, fun _ => 0, fun _ => false⟩
def ADC_OVERRUNS.COUNT : Field := ⟨0x9018, 4, 1, 0, 32, .rcBG, fun _ => 0, fun _ => false⟩
def ADC_RING_DROPS.COUNT : Field := ⟨0x901C, 4, 1, 0, 32, .rcBG, fun _ => 0, fun _ => false⟩
def ADC_EVT.CAUSE : Field := ⟨0x9020, 4, 1, 0, 5, .w1c, fun _ => 0, fun _ => false⟩
def ADC_EVT.EN : Field := ⟨0x9020, 4, 1, 16, 5, .rw, fun _ => 0xE, fun _ => false⟩
def CH_CFG.RATE : Field := ⟨0x9100, 0x40, 40, 0, 3, .wd, fun _ => 3, fun _ => false⟩
def CH_CFG.GAIN : Field := ⟨0x9100, 0x40, 40, 3, 3, .wd, fun _ => 0, fun _ => false⟩
def CH_CFG.ROUTE : Field := ⟨0x9100, 0x40, 40, 6, 1, .wd, fun _ => 0, fun _ => false⟩
def CH_CFG.RING : Field := ⟨0x9100, 0x40, 40, 7, 3, .wd, fun _ => 0, fun _ => false⟩
def CH_CFG.EXCL : Field := ⟨0x9100, 0x40, 40, 10, 1, .wd, fun _ => 0, fun _ => false⟩
def CH_CFG.TAG : Field := ⟨0x9100, 0x40, 40, 16, 16, .wd, fun _ => 0, fun _ => false⟩
def CH_LIM_LO.LIM : Field := ⟨0x9104, 0x40, 40, 0, 24, .rw, fun _ => 0x800000, fun _ => false⟩
def CH_LIM_HI.LIM : Field := ⟨0x9108, 0x40, 40, 0, 24, .rw, fun _ => 0x7FFFFF, fun _ => false⟩
def BSH_SUM_L.SUM : Field := ⟨0x910C, 0x40, 40, 0, 32, .rcD, fun _ => 0, fun _ => false⟩
def BSH_SUM_H.SUM : Field := ⟨0x9110, 0x40, 40, 0, 16, .rcD, fun _ => 0, fun _ => false⟩
def BSH_CNT.COUNT : Field := ⟨0x9114, 0x40, 40, 0, 24, .rcD, fun _ => 0, fun _ => false⟩
def BSH_CNT.BSTAT : Field := ⟨0x9114, 0x40, 40, 24, 4, .rcD, fun _ => 0, fun _ => false⟩
def SPN_MIN.MIN : Field := ⟨0x9118, 0x40, 40, 0, 24, .rcD, fun _ => 0x7FFFFF, fun _ => false⟩
def SPN_MAX.MAX : Field := ⟨0x911C, 0x40, 40, 0, 24, .rcD, fun _ => 0x800000, fun _ => false⟩
def BSH_SKIP.SKIP : Field := ⟨0x9120, 0x40, 40, 0, 8, .rcD, fun _ => 0, fun _ => false⟩
def CH_EVT.CAUSE : Field := ⟨0x9124, 0x40, 40, 0, 3, .w1c, fun _ => 0, fun _ => false⟩
def CH_EVT.EN : Field := ⟨0x9124, 0x40, 40, 16, 3, .rw, fun _ => 7, fun _ => false⟩
def TH_SUM.ANY : Field := ⟨0xA000, 4, 1, 0, 5, .rcBG, fun _ => 0, fun _ => false⟩
def TH_LIM.WARN : Field := ⟨0xA100, 0x20, 25, 0, 16, .rw, fun x => thWarn x, fun x => x == 0⟩
def TH_LIM.DERATE : Field := ⟨0xA100, 0x20, 25, 16, 16, .rw, fun x => thDer x, fun x => x == 0⟩
def TH_SHUT.SHUTDOWN : Field := ⟨0xA104, 0x20, 25, 0, 16, .rw, fun x => thShut x, fun x => x == 0⟩
def TH_SHUT.HYST : Field := ⟨0xA104, 0x20, 25, 16, 8, .rw, fun _ => 24, fun x => x == 0⟩
def TH_SHUT.DWELL : Field := ⟨0xA104, 0x20, 25, 24, 8, .rw, fun _ => 20, fun x => x == 0⟩
def TH_DER.DERATE_MA : Field := ⟨0xA108, 0x20, 25, 0, 16, .rw, fun x => thMa x, fun x => x == 0⟩
def TH_DER.CH : Field := ⟨0xA108, 0x20, 25, 16, 6, .rw, fun _ => 0, fun x => x == 0⟩
def TH_DER.XEN : Field := ⟨0xA108, 0x20, 25, 22, 1, .rw, fun _ => 0, fun x => x == 0⟩
def TH_CONV.OFS : Field := ⟨0xA10C, 0x20, 25, 0, 16, .rw, fun _ => 0, fun x => x == 0⟩
def TH_CONV.SPAN : Field := ⟨0xA10C, 0x20, 25, 16, 16, .rw, fun _ => 0, fun x => x == 0⟩
def TH_STAT.READING : Field := ⟨0xA110, 0x20, 25, 0, 16, .rcD, fun _ => 0, fun x => x == 0⟩
def TH_STAT.OUT : Field := ⟨0xA110, 0x20, 25, 16, 3, .rcBG, fun _ => 0, fun x => x == 0⟩
def TH_STAT.HOVER : Field := ⟨0xA110, 0x20, 25, 19, 3, .rcBG, fun _ => 0, fun x => x == 0⟩
def TH_EVT.CAUSE : Field := ⟨0xA114, 0x20, 25, 0, 8, .w1c, fun _ => 0, fun x => x == 0⟩
def TH_EVT.EN : Field := ⟨0xA114, 0x20, 25, 16, 8, .rw, fun _ => 0xF5, fun x => x == 0⟩
def FAN_CTRL.EN : Field := ⟨0xA500, 0x20, 6, 0, 1, .rw, fun _ => 0, fun _ => false⟩
def FAN_CTRL.SRC : Field := ⟨0xA500, 0x20, 6, 1, 5, .wd, fun _ => 0, fun _ => false⟩
def FAN_CTRL.BOOST : Field := ⟨0xA500, 0x20, 6, 6, 1, .wd, fun _ => 1, fun _ => false⟩
def FAN_CTRL.MIN_DUTY : Field := ⟨0xA500, 0x20, 6, 8, 10, .wd, fun _ => 200, fun _ => false⟩
def FAN_CTRL.PPR : Field := ⟨0xA500, 0x20, 6, 18, 2, .wd, fun _ => 1, fun _ => false⟩
def FAN_CTRL.WRITE_IGNORED : Field := ⟨0xA500, 0x20, 6, 31, 1, .w1c, fun _ => 0, fun _ => false⟩
def FAN_CT.T : Field := ⟨0xA504, 0x20, 6, 0, 32, .wd, fun _ => 0x4B3C2D1E, fun _ => false⟩
def FAN_CS01.S0 : Field := ⟨0xA508, 0x20, 6, 0, 16, .wd, fun _ => 1200, fun _ => false⟩
def FAN_CS01.S1 : Field := ⟨0xA508, 0x20, 6, 16, 16, .wd, fun _ => 2000, fun _ => false⟩
def FAN_CS23.S2 : Field := ⟨0xA50C, 0x20, 6, 0, 16, .wd, fun _ => 3000, fun _ => false⟩
def FAN_CS23.S3 : Field := ⟨0xA50C, 0x20, 6, 16, 16, .wd, fun _ => 4200, fun _ => false⟩
def FAN_STALL.I_STALL : Field := ⟨0xA510, 0x20, 6, 0, 24, .wd, fun _ => 0x5C28F6, fun _ => false⟩
def FAN_STALL.GAIN : Field := ⟨0xA510, 0x20, 6, 24, 8, .wd, fun _ => 16, fun _ => false⟩
def FAN_OPEN.I_OPEN : Field := ⟨0xA514, 0x20, 6, 0, 24, .wd, fun _ => 0x083127, fun _ => false⟩
def FAN_STAT.STATE : Field := ⟨0xA518, 0x20, 6, 0, 3, .rcD, fun _ => 0, fun _ => false⟩
def FAN_STAT.CLASS : Field := ⟨0xA518, 0x20, 6, 3, 3, .rcD, fun _ => 0, fun _ => false⟩
def FAN_STAT.NO_CURRENT : Field := ⟨0xA518, 0x20, 6, 6, 1, .rcD, fun _ => 0, fun _ => false⟩
def FAN_STAT.ATTEMPT : Field := ⟨0xA518, 0x20, 6, 7, 2, .rcD, fun _ => 0, fun _ => false⟩
def FAN_STAT.DUTY : Field := ⟨0xA518, 0x20, 6, 16, 10, .rcD, fun _ => 0, fun _ => false⟩
def FAN_SPEED.RPM : Field := ⟨0xA51C, 0x20, 6, 0, 16, .rcD, fun _ => 0, fun _ => false⟩
def FAN_SPEED.TARGET : Field := ⟨0xA51C, 0x20, 6, 16, 16, .rcD, fun _ => 0, fun _ => false⟩
def FAN_EVT.CAUSE : Field := ⟨0xA5C0, 4, 6, 0, 5, .w1c, fun _ => 0, fun _ => false⟩
def FAN_EVT.EN : Field := ⟨0xA5C0, 4, 6, 16, 5, .rw, fun _ => 0x1F, fun _ => false⟩
def CAM_CTRL.EN : Field := ⟨0xB000, 0x40, 2, 0, 1, .rw, fun _ => 0, fun _ => false⟩
def CAM_CTRL.DT : Field := ⟨0xB000, 0x40, 2, 1, 2, .wd, fun _ => 1, fun _ => false⟩
def CAM_CTRL.VC : Field := ⟨0xB000, 0x40, 2, 3, 1, .wd, fun i => i, fun _ => false⟩
def CAM_CTRL.SHIFT : Field := ⟨0xB000, 0x40, 2, 4, 3, .wd, fun _ => 2, fun _ => false⟩
def CAM_CTRL.SLOTS : Field := ⟨0xB000, 0x40, 2, 7, 4, .wd, fun _ => 3, fun _ => false⟩
def CAM_CTRL.DROP_CORRUPT : Field := ⟨0xB000, 0x40, 2, 11, 1, .wd, fun _ => 1, fun _ => false⟩
def CAM_CTRL.LEVELS : Field := ⟨0xB000, 0x40, 2, 12, 2, .wd, fun _ => 2, fun _ => false⟩
def CAM_CTRL.CFG_REJECT : Field := ⟨0xB000, 0x40, 2, 30, 1, .w1c, fun _ => 0, fun _ => false⟩
def CAM_CTRL.WRITE_IGNORED : Field := ⟨0xB000, 0x40, 2, 31, 1, .w1c, fun _ => 0, fun _ => false⟩
def CAM_SIZE.WIDTH : Field := ⟨0xB004, 0x40, 2, 0, 16, .wd, fun _ => 1280, fun _ => false⟩
def CAM_SIZE.HEIGHT : Field := ⟨0xB004, 0x40, 2, 16, 16, .wd, fun _ => 800, fun _ => false⟩
def CAM_BASE.BASE : Field := ⟨0xB008, 0x40, 2, 6, 26, .wd, fun _ => 0, fun _ => false⟩
def CAM_READERS.FRAME_READERS : Field := ⟨0xB00C, 0x40, 2, 0, 16, .wd, fun _ => 0x20, fun _ => false⟩
def CAM_READERS.PYR_READERS : Field := ⟨0xB00C, 0x40, 2, 16, 16, .wd, fun _ => 0x40, fun _ => false⟩
def CAM_STAT.STATE : Field := ⟨0xB010, 0x40, 2, 0, 2, .rcD, fun _ => 0, fun _ => false⟩
def CAM_STAT.SLOT : Field := ⟨0xB010, 0x40, 2, 2, 4, .rcD, fun _ => 0, fun _ => false⟩
def CAM_STAT.CSI_LASTING : Field := ⟨0xB010, 0x40, 2, 6, 1, .rcBG, fun _ => 0, fun _ => false⟩
def CAM_SEQ.SEQ : Field := ⟨0xB014, 0x40, 2, 0, 32, .rcBG, fun _ => 0, fun _ => false⟩
def CAM_DROPS.NO_SLOT : Field := ⟨0xB018, 0x40, 2, 0, 16, .rcBG, fun _ => 0, fun _ => false⟩
def CAM_DROPS.BAD : Field := ⟨0xB018, 0x40, 2, 16, 16, .rcBG, fun _ => 0, fun _ => false⟩
def CAM_ERR.ECC_CORR : Field := ⟨0xB01C, 0x40, 2, 0, 16, .rcBG, fun _ => 0, fun _ => false⟩
def CAM_ERR.ERRORS : Field := ⟨0xB01C, 0x40, 2, 16, 16, .rcBG, fun _ => 0, fun _ => false⟩
def CAM_EVT.CAUSE : Field := ⟨0xB020, 0x40, 2, 0, 6, .w1c, fun _ => 0, fun _ => false⟩
def CAM_EVT.EN : Field := ⟨0xB020, 0x40, 2, 16, 6, .rw, fun _ => 0x3E, fun _ => false⟩
def BM_CTRL.EN : Field := ⟨0xB080, 4, 1, 0, 1, .rw, fun _ => 0, fun _ => false⟩
def BM_CTRL.PRED : Field := ⟨0xB080, 4, 1, 1, 2, .wd, fun _ => 0, fun _ => false⟩
def BM_CTRL.WRITE_IGNORED : Field := ⟨0xB080, 4, 1, 31, 1, .w1c, fun _ => 0, fun _ => false⟩
def BM_HINT.DX : Field := ⟨0xB084, 4, 2, 0, 8, .rw, fun _ => 0, fun _ => false⟩
def BM_HINT.DY : Field := ⟨0xB084, 4, 2, 8, 8, .rw, fun _ => 0, fun _ => false⟩
def BM_HINT_T.PTIME : Field := ⟨0xB08C, 4, 2, 0, 32, .ro, fun _ => 0, fun _ => false⟩
def BM_STAT.ACTIVE : Field := ⟨0xB094, 4, 1, 0, 8, .rcD, fun _ => 0xFF, fun _ => false⟩
def BM_STAT.RETIRED : Field := ⟨0xB094, 4, 1, 8, 8, .rcD, fun _ => 0, fun _ => false⟩
def BM_STAT.QUEUED : Field := ⟨0xB094, 4, 1, 16, 2, .rcD, fun _ => 0, fun _ => false⟩
def BM_EVT.CAUSE : Field := ⟨0xB098, 4, 1, 0, 5, .w1c, fun _ => 0, fun _ => false⟩
def BM_EVT.EN : Field := ⟨0xB098, 4, 1, 16, 5, .rw, fun _ => 0x1E, fun _ => false⟩
def CD_CFG.EN : Field := ⟨0xB0A0, 0x10, 2, 0, 1, .rw, fun _ => 0, fun _ => false⟩
def CD_CFG.CAM : Field := ⟨0xB0A0, 0x10, 2, 1, 1, .wd, fun _ => 0, fun _ => false⟩
def CD_CFG.LEVEL : Field := ⟨0xB0A0, 0x10, 2, 2, 2, .wd, fun _ => 0, fun _ => false⟩
def CD_CFG.KAPPA : Field := ⟨0xB0A0, 0x10, 2, 4, 8, .wd, fun _ => 10, fun _ => false⟩
def CD_CFG.MAX : Field := ⟨0xB0A0, 0x10, 2, 12, 12, .wd, fun _ => 256, fun _ => false⟩
def CD_CFG.WRITE_IGNORED : Field := ⟨0xB0A0, 0x10, 2, 31, 1, .w1c, fun _ => 0, fun _ => false⟩
def CD_THRESH.THRESH : Field := ⟨0xB0A4, 0x10, 2, 0, 32, .wd, fun _ => 0x1000, fun _ => false⟩
def CD_EVT.CAUSE : Field := ⟨0xB0A8, 0x10, 2, 0, 2, .w1c, fun _ => 0, fun _ => false⟩
def CD_EVT.EN : Field := ⟨0xB0A8, 0x10, 2, 16, 2, .rw, fun _ => 2, fun _ => false⟩
def NE_CTRL.EN : Field := ⟨0xB100, 4, 1, 0, 1, .rw, fun _ => 0, fun _ => false⟩
def NE_CTRL.CFG_REJECT : Field := ⟨0xB100, 4, 1, 30, 1, .w1c, fun _ => 0, fun _ => false⟩
def NE_CTRL.WRITE_IGNORED : Field := ⟨0xB100, 4, 1, 31, 1, .w1c, fun _ => 0, fun _ => false⟩
def NE_WORK_BASE.BASE : Field := ⟨0xB104, 4, 1, 6, 26, .wd, fun _ => 0, fun _ => false⟩
def NE_WORK_SIZE.SIZE : Field := ⟨0xB108, 4, 1, 6, 26, .wd, fun _ => 0, fun _ => false⟩
def NE_STAT.ACTIVE : Field := ⟨0xB10C, 4, 1, 0, 16, .rcD, fun _ => 0xFFFF, fun _ => false⟩
def NE_STAT.RUNNING : Field := ⟨0xB10C, 4, 1, 16, 1, .rcD, fun _ => 0, fun _ => false⟩
def NE_STAT.HANDLE : Field := ⟨0xB10C, 4, 1, 17, 3, .rcD, fun _ => 0, fun _ => false⟩
def NE_STAT.LOADED : Field := ⟨0xB10C, 4, 1, 20, 8, .rcD, fun _ => 0, fun _ => false⟩
def JQ_CTRL.PRIO : Field := ⟨0xB110, 4, 4, 0, 2, .rw, fun q => jqPrio q, fun _ => false⟩
def NE_RUNS.COUNT : Field := ⟨0xB120, 4, 1, 0, 32, .rcBG, fun _ => 0, fun _ => false⟩
def NE_SKIPPED.COUNT : Field := ⟨0xB124, 4, 1, 0, 32, .rcBG, fun _ => 0, fun _ => false⟩
def NE_REISSUED.COUNT : Field := ⟨0xB128, 4, 1, 0, 32, .rcBG, fun _ => 0, fun _ => false⟩
def NE_EVT.CAUSE : Field := ⟨0xB12C, 4, 1, 0, 7, .w1c, fun _ => 0, fun _ => false⟩
def NE_EVT.EN : Field := ⟨0xB12C, 4, 1, 16, 7, .rw, fun _ => 0x7A, fun _ => false⟩
def AUD_CTRL.AUD_EN : Field := ⟨0xB200, 4, 1, 0, 1, .rw, fun _ => 0, fun _ => false⟩
def AUD_CTRL.KWS_EN : Field := ⟨0xB200, 4, 1, 1, 1, .rw, fun _ => 0, fun _ => false⟩
def AUD_CTRL.CLIP_EN : Field := ⟨0xB200, 4, 1, 2, 1, .rw, fun _ => 0, fun _ => false⟩
def AUD_CTRL.CFG_REJECT : Field := ⟨0xB200, 4, 1, 30, 1, .w1c, fun _ => 0, fun _ => false⟩
def AUD_CTRL.WRITE_IGNORED : Field := ⟨0xB200, 4, 1, 31, 1, .w1c, fun _ => 0, fun _ => false⟩
def AUD_CFG.CLK_SEL : Field := ⟨0xB204, 4, 1, 0, 2, .wd, fun _ => 0, fun _ => false⟩
def AUD_CFG.MIC_EN : Field := ⟨0xB204, 4, 1, 2, 4, .wd, fun _ => 0, fun _ => false⟩
def AUD_CFG.MIX : Field := ⟨0xB204, 4, 1, 6, 4, .wd, fun _ => 0, fun _ => false⟩
def AUD_CFG.GAIN : Field := ⟨0xB204, 4, 1, 10, 8, .wd, fun _ => 0, fun _ => false⟩
def VAD_CFG.VAD_THR : Field := ⟨0xB208, 4, 1, 0, 8, .rw, fun _ => 48, fun _ => false⟩
def VAD_CFG.VAD_ON : Field := ⟨0xB208, 4, 1, 8, 4, .rw, fun _ => 3, fun _ => false⟩
def VAD_CFG.VAD_OFF : Field := ⟨0xB208, 4, 1, 12, 8, .rw, fun _ => 30, fun _ => false⟩
def VAD_CFG.FLOOR_RISE : Field := ⟨0xB208, 4, 1, 20, 8, .rw, fun _ => 25, fun _ => false⟩
def KWS_CFG.SEG_PRE : Field := ⟨0xB20C, 4, 1, 0, 7, .wd, fun _ => 24, fun _ => false⟩
def KWS_CFG.HOP : Field := ⟨0xB20C, 4, 1, 7, 5, .wd, fun _ => 8, fun _ => false⟩
def KWS_CFG.HIT_THR : Field := ⟨0xB20C, 4, 1, 16, 16, .wd, fun _ => 0xC000, fun _ => false⟩
def SEG_BASE.BASE : Field := ⟨0xB210, 4, 1, 6, 26, .wd, fun _ => 0, fun _ => false⟩
def CLIP_BASE.BASE : Field := ⟨0xB214, 4, 1, 6, 26, .wd, fun _ => 0, fun _ => false⟩
def AUD_STAT.STATE : Field := ⟨0xB218, 4, 1, 0, 2, .rcD, fun _ => 0, fun _ => false⟩
def AUD_STAT.VOICE : Field := ⟨0xB218, 4, 1, 2, 1, .rcBG, fun _ => 0, fun _ => false⟩
def AUD_STAT.KWS_LASTING : Field := ⟨0xB218, 4, 1, 3, 1, .rcBG, fun _ => 0, fun _ => false⟩
def AUD_STAT.STUCK : Field := ⟨0xB218, 4, 1, 4, 4, .rcD, fun _ => 0, fun _ => false⟩
def AUD_LEVEL.F : Field := ⟨0xB21C, 4, 1, 0, 9, .rcD, fun _ => 0, fun _ => false⟩
def AUD_LEVEL.E : Field := ⟨0xB21C, 4, 1, 16, 9, .rcD, fun _ => 0, fun _ => false⟩
def PRE_WR.IDX : Field := ⟨0xB220, 4, 1, 0, 15, .rcD, fun _ => 0, fun _ => false⟩
def PRE_GRAIN.COUNT : Field := ⟨0xB224, 4, 1, 0, 32, .rcD, fun _ => 0, fun _ => false⟩
def SEG_SEQ.COUNT : Field := ⟨0xB228, 4, 1, 0, 32, .rcBG, fun _ => 0, fun _ => false⟩
def AUD_CNT.UNSPOTTED : Field := ⟨0xB22C, 4, 1, 0, 16, .rcBG, fun _ => 0, fun _ => false⟩
def AUD_CNT.MIC_CLIPS : Field := ⟨0xB22C, 4, 1, 16, 16, .rcBG, fun _ => 0, fun _ => false⟩
def AUD_EVT.CAUSE : Field := ⟨0xB230, 4, 1, 0, 9, .w1c, fun _ => 0, fun _ => false⟩
def AUD_EVT.EN : Field := ⟨0xB230, 4, 1, 16, 9, .rw, fun _ => 0x1FD, fun _ => false⟩
def FUS_CTRL.EN : Field := ⟨0xB400, 4, 1, 0, 1, .rw, fun _ => 0, fun _ => false⟩
def FUS_CTRL.CFG_REJECT : Field := ⟨0xB400, 4, 1, 30, 1, .w1c, fun _ => 0, fun _ => false⟩
def FUS_CTRL.WRITE_IGNORED : Field := ⟨0xB400, 4, 1, 31, 1, .w1c, fun _ => 0, fun _ => false⟩
def FUS_CFG.GATE : Field := ⟨0xB404, 4, 1, 0, 16, .wd, fun _ => 400, fun _ => false⟩
def FUS_CFG.CLASS_PEN : Field := ⟨0xB404, 4, 1, 16, 8, .wd, fun _ => 64, fun _ => false⟩
def FUS_CFG.CONFIRM_N : Field := ⟨0xB404, 4, 1, 24, 4, .wd, fun _ => 3, fun _ => false⟩
def FUS_CFG.DROP_N : Field := ⟨0xB404, 4, 1, 28, 4, .wd, fun _ => 5, fun _ => false⟩
def FUS_CFG2.BIRTH_SCORE : Field := ⟨0xB408, 4, 1, 0, 16, .wd, fun _ => 0x8000, fun _ => false⟩
def FUS_CFG2.TRK_RING : Field := ⟨0xB408, 4, 1, 16, 8, .wd, fun _ => 0, fun _ => false⟩
def FUS_CFG2.TRK_EN : Field := ⟨0xB408, 4, 1, 24, 1, .wd, fun _ => 0, fun _ => false⟩
def EGO_CFG.ENC : Field := ⟨0xB410, 0x20, 2, 0, 3, .wd, fun _ => 0, fun _ => false⟩
def EGO_CFG.IMU : Field := ⟨0xB410, 0x20, 2, 3, 3, .wd, fun _ => 0, fun _ => false⟩
def EGO_CFG.IMU_EN : Field := ⟨0xB410, 0x20, 2, 6, 1, .wd, fun _ => 0, fun _ => false⟩
def EGO_CFG.HINT_EN : Field := ⟨0xB410, 0x20, 2, 7, 1, .wd, fun _ => 0, fun _ => false⟩
def EGO_CFG.HINT_CAM : Field := ⟨0xB410, 0x20, 2, 8, 1, .wd, fun i => i, fun _ => false⟩
def EGO_CFG.HINT_SIGN : Field := ⟨0xB410, 0x20, 2, 9, 1, .wd, fun _ => 0, fun _ => false⟩
def EGO_CFG.EGO_K : Field := ⟨0xB410, 0x20, 2, 10, 3, .wd, fun _ => 3, fun _ => false⟩
def EGO_CFG.ENC_WIN : Field := ⟨0xB410, 0x20, 2, 16, 8, .wd, fun _ => 8, fun _ => false⟩
def EGO_SCALE.ENC_UM : Field := ⟨0xB414, 0x20, 2, 0, 16, .wd, fun _ => 25, fun _ => false⟩
def EGO_SCALE.UM_PER_PX : Field := ⟨0xB414, 0x20, 2, 16, 16, .wd, fun _ => 1000, fun _ => false⟩
def EGO_FRAME.FRAME_US : Field := ⟨0xB418, 0x20, 2, 0, 16, .wd, fun _ => 33333, fun _ => false⟩
def EGO_FRAME.IMU_SCALE : Field := ⟨0xB418, 0x20, 2, 16, 16, .wd, fun _ => 599, fun _ => false⟩
def EGO_BIAS.BIAS : Field := ⟨0xB41C, 0x20, 2, 0, 32, .wd, fun _ => 9806650, fun _ => false⟩
def EGO_VEL.V_EGO : Field := ⟨0xB420, 0x20, 2, 0, 32, .rcS, fun _ => 0, fun _ => false⟩
def STR_CFG.KIND : Field := ⟨0xB480, 0x10, 8, 0, 3, .wd, fun _ => 0, fun _ => false⟩
def STR_CFG.QE : Field := ⟨0xB480, 0x10, 8, 3, 3, .wd, fun _ => 0, fun _ => false⟩
def STR_CFG.PORT : Field := ⟨0xB480, 0x10, 8, 6, 2, .wd, fun _ => 0, fun _ => false⟩
def STR_CFG.SEL : Field := ⟨0xB480, 0x10, 8, 8, 2, .wd, fun _ => 0, fun _ => false⟩
def STR_CFG.OFS : Field := ⟨0xB480, 0x10, 8, 10, 5, .wd, fun _ => 0, fun _ => false⟩
def STR_CFG.LEN : Field := ⟨0xB480, 0x10, 8, 15, 5, .wd, fun _ => 4, fun _ => false⟩
def STR_CFG.EGO_COMP : Field := ⟨0xB480, 0x10, 8, 20, 1, .wd, fun _ => 0, fun _ => false⟩
def STR_CFG.EGO : Field := ⟨0xB480, 0x10, 8, 21, 1, .wd, fun _ => 0, fun _ => false⟩
def STR_CFG.AGE_LIM : Field := ⟨0xB480, 0x10, 8, 24, 8, .wd, fun _ => 0, fun _ => false⟩
def STR_TX.TX : Field := ⟨0xB484, 0x10, 8, 0, 32, .wd, fun _ => 0, fun _ => false⟩
def STR_AGE.AGE : Field := ⟨0xB488, 0x10, 8, 0, 32, .rcS, fun _ => 0xFFFFFFFF, fun _ => false⟩
def STR_LAT.LAT : Field := ⟨0xB48C, 0x10, 8, 0, 24, .rcS, fun _ => 0, fun _ => false⟩
def STR_LAT.DISC : Field := ⟨0xB48C, 0x10, 8, 24, 8, .rcS, fun _ => 0, fun _ => false⟩
def ADV_CFG.EN : Field := ⟨0xB500, 0x20, 8, 0, 1, .rw, fun _ => 0, fun _ => false⟩
def ADV_CFG.STROBE : Field := ⟨0xB500, 0x20, 8, 1, 1, .wd, fun _ => 0, fun _ => false⟩
def ADV_CFG.STREAM : Field := ⟨0xB500, 0x20, 8, 2, 3, .wd, fun _ => 0, fun _ => false⟩
def ADV_CFG.AXIS : Field := ⟨0xB500, 0x20, 8, 5, 6, .wd, fun _ => 0, fun _ => false⟩
def ADV_CFG.CLASS_MASK : Field := ⟨0xB500, 0x20, 8, 16, 8, .wd, fun _ => 2, fun _ => false⟩
def ADV_CFG.WRITE_IGNORED : Field := ⟨0xB500, 0x20, 8, 31, 1, .w1c, fun _ => 0, fun _ => false⟩
def ADV_ZONE_LT.X : Field := ⟨0xB504, 0x20, 8, 0, 16, .wd, fun _ => 0, fun _ => false⟩
def ADV_ZONE_LT.Y : Field := ⟨0xB504, 0x20, 8, 16, 16, .wd, fun _ => 0, fun _ => false⟩
def ADV_ZONE_RB.X : Field := ⟨0xB508, 0x20, 8, 0, 16, .wd, fun _ => 0, fun _ => false⟩
def ADV_ZONE_RB.Y : Field := ⟨0xB508, 0x20, 8, 16, 16, .wd, fun _ => 0, fun _ => false⟩
def ADV_CORE_LT.X : Field := ⟨0xB50C, 0x20, 8, 0, 16, .wd, fun _ => 0, fun _ => false⟩
def ADV_CORE_LT.Y : Field := ⟨0xB50C, 0x20, 8, 16, 16, .wd, fun _ => 0, fun _ => false⟩
def ADV_CORE_RB.X : Field := ⟨0xB510, 0x20, 8, 0, 16, .wd, fun _ => 0, fun _ => false⟩
def ADV_CORE_RB.Y : Field := ⟨0xB510, 0x20, 8, 16, 16, .wd, fun _ => 0, fun _ => false⟩
def ADV_SCALE.PRESENT : Field := ⟨0xB514, 0x20, 8, 0, 16, .wd, fun _ => 0x8000, fun _ => false⟩
def ADV_SCALE.CORE : Field := ⟨0xB514, 0x20, 8, 16, 16, .wd, fun _ => 0x4000, fun _ => false⟩
def ADV_CLEAR.CLEAR : Field := ⟨0xB518, 0x20, 8, 0, 16, .wd, fun _ => 0xFFFF, fun _ => false⟩
def ADV_CLEAR.HOLD_MS : Field := ⟨0xB518, 0x20, 8, 16, 16, .wd, fun _ => 500, fun _ => false⟩
def ADV_STAT.LEVEL : Field := ⟨0xB51C, 0x20, 8, 0, 2, .rcS, fun _ => 0, fun _ => false⟩
def ADV_STAT.TRACK : Field := ⟨0xB51C, 0x20, 8, 2, 5, .rcS, fun _ => 0, fun _ => false⟩
def ADV_STAT.LAST : Field := ⟨0xB51C, 0x20, 8, 16, 16, .rcS, fun _ => 0, fun _ => false⟩
def FUS_EVT.CAUSE : Field := ⟨0xB600, 4, 1, 0, 8, .w1c, fun _ => 0, fun _ => false⟩
def FUS_EVT.EN : Field := ⟨0xB600, 4, 1, 16, 8, .rw, fun _ => 0xF8, fun _ => false⟩
def FLG_STAT.HOLD : Field := ⟨0xBE00, 4, 64, 0, 16, .ro, fun _ => 0, fun _ => false⟩
def FLG_STAT.STATE : Field := ⟨0xBE00, 4, 64, 16, 2, .ro, fun _ => 0, fun _ => false⟩
def FLG_STAT.LEVEL : Field := ⟨0xBE00, 4, 64, 18, 1, .ro, fun _ => 0, fun _ => false⟩
def FLG_STAT.SEQ : Field := ⟨0xBE00, 4, 64, 24, 8, .ro, fun _ => 0, fun _ => false⟩
def STORE_STAT.BUSY : Field := ⟨0xC000, 4, 1, 0, 1, .ro, fun _ => 0, fun _ => false⟩
def STORE_STAT.KIND : Field := ⟨0xC000, 4, 1, 1, 1, .ro, fun _ => 0, fun _ => false⟩
def STORE_STAT.P_ACTIVE : Field := ⟨0xC000, 4, 1, 2, 2, .ro, fun _ => 3, fun _ => false⟩
def STORE_STAT.K_ACTIVE : Field := ⟨0xC000, 4, 1, 4, 2, .ro, fun _ => 3, fun _ => false⟩
def STORE_STAT.LAST : Field := ⟨0xC000, 4, 1, 6, 2, .ro, fun _ => 0, fun _ => false⟩
def STORE_STAT.LINES : Field := ⟨0xC000, 4, 1, 16, 16, .ro, fun _ => 0, fun _ => false⟩
def P_SEQ.SEQ : Field := ⟨0xC004, 4, 1, 0, 32, .ro, fun _ => 0, fun _ => false⟩
def K_SEQ.SEQ : Field := ⟨0xC008, 4, 1, 0, 32, .ro, fun _ => 0, fun _ => false⟩
def REC_HEAD.ESEQ : Field := ⟨0xC010, 4, 1, 0, 32, .ro, fun _ => 0, fun _ => false⟩
def REC_RELEASED.ESEQ : Field := ⟨0xC014, 4, 1, 0, 32, .ro, fun _ => 0, fun _ => false⟩
def REC_EXPORT_END.ESEQ : Field := ⟨0xC018, 4, 1, 0, 32, .ro, fun _ => 0, fun _ => false⟩
def REC_QUEUE.DEPTH : Field := ⟨0xC01C, 4, 1, 0, 6, .ro, fun _ => 0, fun _ => false⟩
def REC_QUEUE.LOST : Field := ⟨0xC01C, 4, 1, 16, 16, .ro, fun _ => 0, fun _ => false⟩
def BOOT_CNT.COUNT : Field := ⟨0xC020, 4, 1, 0, 32, .ro, fun _ => 0, fun _ => false⟩
def STORE_EVT.CAUSE : Field := ⟨0xC024, 4, 1, 0, 8, .w1c, fun _ => 0, fun _ => false⟩
def STORE_EVT.EN : Field := ⟨0xC024, 4, 1, 16, 8, .rw, fun _ => 0xFE, fun _ => false⟩
def IMG_STAT.RESTRICTED : Field := ⟨0xC100, 4, 1, 0, 1, .ro, fun _ => 0, fun _ => false⟩
def IMG_STAT.ROM_SERVED : Field := ⟨0xC100, 4, 1, 1, 1, .ro, fun _ => 0, fun _ => false⟩
def IMG_STAT.SLOT : Field := ⟨0xC100, 4, 1, 2, 1, .ro, fun _ => 0, fun _ => false⟩
def IMG_STAT.TRIAL : Field := ⟨0xC100, 4, 1, 3, 1, .ro, fun _ => 0, fun _ => false⟩
def IMG_STAT.BOOTSEL : Field := ⟨0xC100, 4, 1, 4, 1, .ro, fun _ => 0, fun _ => false⟩
def IMG_STAT.LATCH_A : Field := ⟨0xC100, 4, 1, 5, 1, .ro, fun _ => 0, fun _ => true⟩
def IMG_STAT.LATCH_B : Field := ⟨0xC100, 4, 1, 6, 1, .ro, fun _ => 0, fun _ => true⟩
def IMG_STAT.DEBUG_CLOSED : Field := ⟨0xC100, 4, 1, 7, 1, .ro, fun _ => 1, fun _ => false⟩
def IMG_STAT.WHY : Field := ⟨0xC100, 4, 1, 8, 8, .ro, fun _ => 0, fun _ => false⟩
def ARB_CNT.HOST : Field := ⟨0xC104, 4, 1, 0, 7, .ro, fun _ => 0, fun _ => false⟩
def ARB_CNT.GRAIN : Field := ⟨0xC104, 4, 1, 8, 7, .ro, fun _ => 0, fun _ => false⟩
def ARB_CNT.REVOKED : Field := ⟨0xC104, 4, 1, 16, 4, .ro, fun _ => 0, fun _ => false⟩
def DEV_UID_L.UID : Field := ⟨0xC108, 4, 1, 0, 32, .ro, fun _ => 0, fun _ => false⟩
def DEV_UID_H.UID : Field := ⟨0xC10C, 4, 1, 0, 32, .ro, fun _ => 0, fun _ => false⟩
def IMG_EVT.CAUSE : Field := ⟨0xC120, 4, 1, 0, 8, .w1c, fun _ => 0, fun _ => false⟩
def IMG_EVT.EN : Field := ⟨0xC120, 4, 1, 16, 8, .rw, fun _ => 0xFF, fun _ => false⟩
def STAGE0.DATA : Field := ⟨0xC400, 4, 256, 0, 32, .rw, fun _ => 0, fun _ => false⟩
def STAGE1.DATA : Field := ⟨0xC800, 4, 256, 0, 32, .rw, fun _ => 0, fun _ => false⟩
def CYC_CTRL.EN : Field := ⟨0xD000, 4, 1, 0, 1, .rw, fun _ => 1, fun _ => false⟩
def CYC_CTRL.REINIT : Field := ⟨0xD000, 4, 1, 1, 1, .wo, fun _ => 0, fun _ => false⟩
def CYC_CTRL.CFG_REJECT : Field := ⟨0xD000, 4, 1, 30, 1, .w1c, fun _ => 0, fun _ => false⟩
def CYC_CTRL.WRITE_IGNORED : Field := ⟨0xD000, 4, 1, 31, 1, .w1c, fun _ => 0, fun _ => false⟩
def CYC_CFG.FRAME_BITS : Field := ⟨0xD004, 4, 1, 0, 14, .wd, fun _ => 512, fun _ => false⟩
def CYC_CFG.LOSS_TMO : Field := ⟨0xD004, 4, 1, 16, 8, .wd, fun _ => 0, fun _ => false⟩
def CYC_CFG.LOSS_ACT : Field := ⟨0xD004, 4, 1, 24, 2, .wd, fun _ => 0, fun _ => false⟩
def LIVE_MASK.MASK : Field := ⟨0xD008, 4, 2, 0, 32, .wd, fun _ => 0, fun _ => false⟩
def LOSS_MASK.MASK : Field := ⟨0xD010, 4, 2, 0, 32, .wd, fun _ => 0, fun _ => false⟩
def CYC_STAT.LAST_RES : Field := ⟨0xD018, 4, 1, 0, 4, .ro, fun _ => 0xF, fun _ => false⟩
def CYC_STAT.ALIVE_REF : Field := ⟨0xD018, 4, 1, 4, 4, .ro, fun _ => 0, fun _ => false⟩
def CYC_STAT.REF_VALID : Field := ⟨0xD018, 4, 1, 8, 1, .ro, fun _ => 0, fun _ => false⟩
def CYC_STAT.MASTER_LOST : Field := ⟨0xD018, 4, 1, 9, 1, .ro, fun _ => 0, fun _ => false⟩
def CYC_STAT.DALIVE : Field := ⟨0xD018, 4, 1, 12, 4, .ro, fun _ => 0, fun _ => false⟩
def CYC_STAT.HIST : Field := ⟨0xD018, 4, 1, 16, 8, .ro, fun _ => 0, fun _ => false⟩
def CYC_OK.COUNT : Field := ⟨0xD01C, 4, 1, 0, 32, .ro, fun _ => 0, fun _ => false⟩
def CYC_BAD.COUNT : Field := ⟨0xD020, 4, 1, 0, 32, .ro, fun _ => 0, fun _ => false⟩
def CYC_SKIPS.COUNT : Field := ⟨0xD024, 4, 1, 0, 32, .ro, fun _ => 0, fun _ => false⟩
def CYC_STRETCH.COUNT : Field := ⟨0xD028, 4, 1, 0, 32, .ro, fun _ => 0, fun _ => false⟩
def CYC_EVT.CAUSE : Field := ⟨0xD02C, 4, 1, 0, 5, .w1c, fun _ => 0, fun _ => false⟩
def CYC_EVT.CAUSE2 : Field := ⟨0xD02C, 4, 1, 8, 3, .w1c, fun _ => 0, fun _ => false⟩
def CYC_EVT.EN : Field := ⟨0xD02C, 4, 1, 16, 11, .rw, fun _ => 0x71E, fun _ => false⟩
def USB_CTRL.PRESENT : Field := ⟨0xD100, 4, 1, 0, 1, .ro, fun _ => 0, fun _ => false⟩
def USB_CTRL.SOFT_DETACH : Field := ⟨0xD100, 4, 1, 1, 1, .rw, fun _ => 0, fun _ => false⟩
def USB_CTRL.REINIT : Field := ⟨0xD100, 4, 1, 2, 1, .wo, fun _ => 0, fun _ => false⟩
def USB_CTRL.WRITE_IGNORED : Field := ⟨0xD100, 4, 1, 31, 1, .w1c, fun _ => 0, fun _ => false⟩
def USB_CFG.HS_EN : Field := ⟨0xD104, 4, 1, 0, 1, .wd, fun _ => 1, fun _ => false⟩
def USB_CFG.EP2_INT : Field := ⟨0xD104, 4, 1, 1, 3, .wd, fun _ => 3, fun _ => false⟩
def USB_STAT.VBUS : Field := ⟨0xD108, 4, 1, 0, 1, .rcD, fun _ => 0, fun _ => false⟩
def USB_STAT.STATE : Field := ⟨0xD108, 4, 1, 1, 3, .rcD, fun _ => 0, fun _ => false⟩
def USB_STAT.HS : Field := ⟨0xD108, 4, 1, 4, 1, .rcD, fun _ => 0, fun _ => false⟩
def USB_STAT.RWAKE_FEAT : Field := ⟨0xD108, 4, 1, 5, 1, .rcD, fun _ => 0, fun _ => false⟩
def USB_STAT.ADDR : Field := ⟨0xD108, 4, 1, 6, 7, .rcD, fun _ => 0, fun _ => false⟩
def USB_XFER.COUNT : Field := ⟨0xD10C, 4, 1, 0, 32, .ro, fun _ => 0, fun _ => false⟩
def USB_REFUSED.COUNT : Field := ⟨0xD110, 4, 1, 0, 28, .ro, fun _ => 0, fun _ => false⟩
def USB_REFUSED.LAST_RES : Field := ⟨0xD110, 4, 1, 28, 4, .ro, fun _ => 0, fun _ => false⟩
def USB_RWAKE.PEND : Field := ⟨0xD114, 4, 1, 0, 16, .ro, fun _ => 0, fun _ => true⟩
def USB_RWAKE.DONE : Field := ⟨0xD114, 4, 1, 16, 16, .ro, fun _ => 0, fun _ => true⟩
def USB_RWAKE_EN.EN : Field := ⟨0xD118, 4, 1, 0, 16, .rw, fun _ => 0, fun _ => true⟩
def USB_STRM.RING : Field := ⟨0xD120, 4, 8, 0, 8, .wd, fun _ => 0, fun _ => false⟩
def USB_STRM.SEN : Field := ⟨0xD120, 4, 8, 8, 1, .rw, fun _ => 0, fun _ => false⟩
def USB_EVT.CAUSE : Field := ⟨0xD140, 4, 1, 0, 14, .w1c, fun _ => 0, fun _ => false⟩
def USB_EVT.EN : Field := ⟨0xD140, 4, 1, 16, 14, .rw, fun _ => 0x3FEF, fun _ => false⟩
def CON_DROPS.COUNT : Field := ⟨0xD200, 4, 1, 0, 32, .ro, fun _ => 0, fun _ => false⟩
end Reg

/-- Part 0 of the register map, in address-table order (chapter 23). -/
def fieldsPart0 : List Field :=
  [Reg.SYS_ID.DEVICE, Reg.SYS_ID.REV, Reg.MACHINE_STAT.MOTION_ON, Reg.MACHINE_STAT.SENSE_ON,
   Reg.MACHINE_STAT.HOST_ON, Reg.MACHINE_STAT.PERC_ON, Reg.MACHINE_STAT.KEEP_ON, Reg.ARB_WAIT.COUNT,
   Reg.ARB_AGED.COUNT, Reg.ARB_CLR.CLR, Reg.CE_L.CE, Reg.CE_H.CE,
   Reg.UPDATE.SG, Reg.STROBE_CFG.AUTO, Reg.STROBE_STAT.PEND, Reg.SG_TICK.COUNT,
   Reg.REG_EVT.WD_IGNORED, Reg.REG_EVT.RESTAGED, Reg.REG_EVT.EN, Reg.SDI_CFG.EN,
   Reg.SDI_CFG.EDGE, Reg.SDI_CFG.DIR_POL, Reg.SDI_CFG.FILT, Reg.SDI_CFG.WRITE_IGNORED,
   Reg.SDI_CNT.CNT, Reg.SDI_TS.TS, Reg.SPM_CTRL.EN, Reg.SPM_CTRL.MODE,
   Reg.SPM_CTRL.DIV, Reg.SPM_CTRL.WORD, Reg.SPM_CTRL.CS_POL, Reg.SPM_CTRL.CS_GAP,
   Reg.SPM_CTRL.WRITE_IGNORED, Reg.QE_CFG.EN, Reg.QE_CFG.MODE, Reg.QE_CFG.INVERT,
   Reg.QE_CFG.IDX_POL, Reg.QE_CFG.IDX_GATE, Reg.QE_CFG.IDX_CLR, Reg.QE_CFG.WRITE_IGNORED]

/-- Part 1 of the register map, in address-table order (chapter 23). -/
def fieldsPart1 : List Field :=
  [Reg.QE_CNT.CNT, Reg.QE_IDX.CNT, Reg.QE_STAT.ABI, Reg.QE_STAT.IDX_CNT,
   Reg.QE_STAT.PHASE_ERR, Reg.QE_STAT.INDEX_SEEN, Reg.QE_STAT.EN, Reg.PWR_STAT.MODE,
   Reg.PWR_STAT.TARGET, Reg.PWR_STAT.DEFER_CAUSE, Reg.PWR_STAT.GRAIN_CLK_SUBST, Reg.WAKE_REASON.REASON,
   Reg.WAKE_EN.EN, Reg.WAKE_CFG.TARGET, Reg.WAKE_CFG.VAD_RETURN, Reg.WAKE_CFG.GPIO_SEL,
   Reg.WAKE_CFG.GPIO_POL, Reg.WAKE_CFG.QE_SEL, Reg.WAKE_CFG.ALARM_EN, Reg.WAKE_CFG.QE_THR,
   Reg.GRAIN_ALARM_L.ALARM, Reg.GRAIN_ALARM_H.ALARM, Reg.GRAIN_CNT_L.COUNT, Reg.GRAIN_CNT_H.COUNT,
   Reg.BO_STAT.OK, Reg.BO_STAT.BO_WARN_SEEN, Reg.BO_CNT.COUNT, Reg.CLK_STAT_L.RUN,
   Reg.CLK_STAT_H.RUN, Reg.PWR_EVT.CAUSE, Reg.PWR_EVT.EN, Reg.GPIO_IN_L.IN,
   Reg.GPIO_IN_H.IN, Reg.GPIO_OUT_L.OUT, Reg.GPIO_OUT_H.OUT, Reg.GPIO_OE_L.OE,
   Reg.GPIO_OE_H.OE, Reg.GPIO_PULL.PULL, Reg.PAD_STAT.USB_EN, Reg.PAD_STAT.BOOTSEL]

/-- Part 2 of the register map, in address-table order (chapter 23). -/
def fieldsPart2 : List Field :=
  [Reg.PAD_STAT.VDDIO_B_HI, Reg.PAD_STAT.GPIO_CONFLICT, Reg.EV_ROUTE.ROUTE, Reg.EV_LAT.LAT,
   Reg.EV_SUM.SUM, Reg.INT_CFG.EN, Reg.INT_CFG.POL, Reg.INT_CFG.PULSE,
   Reg.INT_STAT.ACTIVE, Reg.LOG_STAT.EV_DROPS, Reg.LOG_STAT.SCR_DROPS, Reg.SCR_CFG.N,
   Reg.SCR_CFG.W, Reg.SCR_STAT.LASTING, Reg.SCR_STAT.ACTIVE, Reg.CHK_CTRL.EN,
   Reg.CHK_STAT.AXIS, Reg.CHK_STAT.STATE, Reg.CHK_STAT.CARRIED, Reg.CHK_STAT.SPARES,
   Reg.CHK_COUNT.COUNT, Reg.CHK_MISMATCH.COUNT, Reg.ENG_RETIRED.MASK, Reg.CHK_EVT.CAUSE,
   Reg.CHK_EVT.EN, Reg.FAULT_EVT.CAUSE, Reg.FAULT_EVT.EN, Reg.SYS_EVT.CAUSE,
   Reg.SYS_EVT.EN, Reg.ENG_EVT.CAUSE, Reg.ENG_EVT.EN, Reg.RING_BASE.BASE,
   Reg.RING_CFG.EN, Reg.RING_CFG.LOG2SIZE, Reg.RING_CFG.ESIZE, Reg.RING_CFG.ROLE,
   Reg.RING_CFG.CFG_REJECT, Reg.RING_CFG.WRITE_IGNORED, Reg.RING_PI.PI, Reg.RING_CI.CI]

/-- Part 3 of the register map, in address-table order (chapter 23). -/
def fieldsPart3 : List Field :=
  [Reg.DOORBELL.DB, Reg.MB_STAT.MB_READY, Reg.MB_STAT.IN_FLIGHT, Reg.MB_EVT.CAUSE,
   Reg.MB_EVT.EN, Reg.QP_CTRL.TAG_BASE, Reg.QP_CTRL.TAG_CNT, Reg.QP_CTRL.PRIO,
   Reg.QP_CTRL.WRITE_IGNORED, Reg.QP_STAT.TASKS, Reg.QP_STAT.TAG_WAIT, Reg.QP_STAT.CPL_FULL,
   Reg.QP_STAT.HELD, Reg.TASK_FLAGS.FLAGS, Reg.LOST.MASK, Reg.LOST_IDEM.MASK,
   Reg.AX_CTRL.ENABLE, Reg.AX_CTRL.SG, Reg.AX_STAT.STATE, Reg.AX_STAT.CHAIN,
   Reg.AX_STAT.LINK, Reg.AX_STAT.PENDING, Reg.AX_STAT.ARMED, Reg.AX_STAT.MIGRATED,
   Reg.AX_STAT.DEGRADED, Reg.AX_STAT.POS_STATE, Reg.AX_STAT.ENGINE, Reg.POS_L.POS,
   Reg.POS_H.POS, Reg.POS_F.FRAC, Reg.VEL.VEL, Reg.ANGLE.ANGLE,
   Reg.SCALE.SCALE, Reg.SCALE_NOW.SCALE, Reg.SCALE_SLEW.SLEW, Reg.VMAX.VMAX,
   Reg.STOP_CHAIN.CHAIN, Reg.SETTLE.TICKS, Reg.SLIM_LO_L.LIMIT, Reg.SLIM_LO_H.LIMIT]

/-- Part 4 of the register map, in address-table order (chapter 23). -/
def fieldsPart4 : List Field :=
  [Reg.SLIM_HI_L.LIMIT, Reg.SLIM_HI_H.LIMIT, Reg.AX_OPT.SLIM_EN, Reg.AX_OPT.NO_SCALE,
   Reg.ANGLE_OFS.OFS, Reg.STEP_OUT.STEP_GPIO, Reg.STEP_OUT.STEP_EN, Reg.STEP_OUT.STEP_POL,
   Reg.STEP_OUT.DIR_GPIO, Reg.STEP_OUT.DIR_EN, Reg.STEP_OUT.DIR_POL, Reg.STEP_OUT.SHIFT,
   Reg.STEP_OUT.PW, Reg.STEP_OUT.DSU, Reg.AX_EVT.CAUSE, Reg.AX_EVT_EN.EN,
   Reg.FOL_CFG.SRC, Reg.FOL_CFG.SRC_EN, Reg.FOL_CFG.STEP_SIZE, Reg.FOL_CFG.AVG,
   Reg.FOL_CFG.INVERT, Reg.FOL_PEND.PENDING, Reg.FOL_PER.P_EST, Reg.FOL_LAG_MAX.LAG_MAX,
   Reg.FOL_LAG.LAG, Reg.MTAB.MT, Reg.ADDR_OUT.PORT, Reg.ADDR_OUT.CS,
   Reg.ADDR_OUT.ADDR_EN, Reg.ADDR_OUT.ADDR_ONLY, Reg.FOL_EVT.CAUSE, Reg.FOL_EVT.EN,
   Reg.CUR_CTRL.LEAN_EN, Reg.CUR_CTRL.STANDSTILL, Reg.CUR_CTRL.POLICY, Reg.CUR_CTRL.HOLD_LEAN,
   Reg.CUR_CTRL.FF_EN, Reg.CUR_CTRL.STALL_ACT, Reg.CUR_CTRL.PRIO, Reg.CUR_BOUND.FLOOR]

/-- Part 5 of the register map, in address-table order (chapter 23). -/
def fieldsPart5 : List Field :=
  [Reg.CUR_BOUND.CEIL, Reg.CUR_SET.FIXED_I, Reg.CUR_SET.HOLD_I, Reg.LEAN_CFG.MARGIN,
   Reg.LEAN_CFG.RISE, Reg.LEAN_CFG.FALL, Reg.LEAN_CFG.GAIN, Reg.LOOP_GAIN.KP,
   Reg.LOOP_GAIN.KI, Reg.MOTOR.RCOIL, Reg.MOTOR.LCOIL, Reg.STALL_CFG.STALL_ANG,
   Reg.STALL_CFG.STALL_N, Reg.STALL_CFG.OBS_VMIN, Reg.CUR_LIM.OC_LIMIT, Reg.CUR_LIM.HOLD_DWELL,
   Reg.CUR_STAT.DEMAND, Reg.CUR_STAT.FLAGS, Reg.CUR_STAT.STALL_LASTING, Reg.CUR_LOAD.DELTA,
   Reg.CUR_LOAD.L, Reg.CEIL_NOW.CEIL, Reg.CEIL_NOW.DERATE, Reg.CUR_EVT.CAUSE,
   Reg.CUR_EVT.EN, Reg.ECOP_L.ECOP, Reg.ECOP_H.ECOP, Reg.EDEL_L.EDEL,
   Reg.EDEL_H.EDEL, Reg.HOME_CFG.METHOD, Reg.HOME_CFG.DIR, Reg.HOME_CFG.USE_INDEX,
   Reg.HOME_CFG.SW_GPIO, Reg.HOME_CFG.SW_POL, Reg.HOME_CFG.QE, Reg.HOME_CFG.PWR_KEEP,
   Reg.HOME_CFG.LIM_EN, Reg.HOME_CFG.LIM_NEG_GPIO, Reg.HOME_CFG.LIM_POS_GPIO, Reg.HOME_CFG.LIM_POL]

/-- Part 6 of the register map, in address-table order (chapter 23). -/
def fieldsPart6 : List Field :=
  [Reg.HOME_VEL.SEEK_VEL, Reg.HOME_VEL.LATCH_VEL, Reg.HOME_ACC.ACC, Reg.HOME_POS_L.POS,
   Reg.HOME_POS_H.POS, Reg.HOME_POS_H.BACKOFF, Reg.HOME_LIM.HOME_I, Reg.HOME_LIM.VERIFY_TOL,
   Reg.HOME_MAXD.MAXDIST, Reg.HOME_STAT.PHASE, Reg.HOME_STAT.FAIL, Reg.HOME_STAT.LIMNOW,
   Reg.HOME_STAT.CAUSE, Reg.HOME_STAT.EN, Reg.TL_CTRL.EN, Reg.TL_CTRL.TEL_EN,
   Reg.TL_CTRL.WRITE_IGNORED, Reg.TL_CFG.HOLD_MAX, Reg.TL_CFG.ERR_ACT, Reg.TL_CFG.INH_CLR,
   Reg.TL_CFG.START_TMO, Reg.TL_CFG.TRACK_EN, Reg.TEL_CFG.DEC, Reg.TEL_CFG.MEAN,
   Reg.TL_STAT.LSTATE, Reg.TL_STAT.PHASE, Reg.TL_STAT.HELD_RUN, Reg.TL_STAT.INHIBIT,
   Reg.TL_STAT.ENERGISE, Reg.TL_STAT.CRC_LASTING, Reg.TL_STAT.SETTLE_LEFT, Reg.TL_TSTAT.TSTAT,
   Reg.TL_BAD.COUNT, Reg.TL_CNT.REALIGN, Reg.TL_CNT.DOWN, Reg.TL_RTT.RTT_BITS,
   Reg.TL_RTT.REJ_CNT, Reg.TL_ID.BYTE, Reg.TL_ID1.BYTE, Reg.TL_ID2.BYTE]

/-- Part 7 of the register map, in address-table order (chapter 23). -/
def fieldsPart7 : List Field :=
  [Reg.TL_ID3.BYTE, Reg.TL_WORD0.W, Reg.TL_WORD1.W, Reg.TL_WORD2.W,
   Reg.TL_WORD3.W, Reg.TL_WORD4.W, Reg.TL_TAG.TAG, Reg.TEL_DROPS.COUNT,
   Reg.TL_EVT.CAUSE, Reg.TL_EVT.CAUSE2, Reg.TL_EVT.EN, Reg.ADC_CTRL.SCAN_EN,
   Reg.ADC_CTRL.REFBUF_EN, Reg.ADC_CTRL.CFG_REJECT, Reg.ADC_CTRL.WRITE_IGNORED, Reg.SCAN_CFG.ROUND_PER,
   Reg.SCAN_CFG.SINGLE, Reg.SCAN_MASK_L.MASK, Reg.SCAN_MASK_H.MASK, Reg.ADC_STAT.REF_READY,
   Reg.ADC_STAT.CONVERTING, Reg.ADC_STAT.ENTRY, Reg.ADC_STAT.URGENT_NOW, Reg.ADC_STAT.URG_Q,
   Reg.ADC_STAT.ROUND, Reg.ADC_ROUNDS.COUNT, Reg.ADC_OVERRUNS.COUNT, Reg.ADC_RING_DROPS.COUNT,
   Reg.ADC_EVT.CAUSE, Reg.ADC_EVT.EN, Reg.CH_CFG.RATE, Reg.CH_CFG.GAIN,
   Reg.CH_CFG.ROUTE, Reg.CH_CFG.RING, Reg.CH_CFG.EXCL, Reg.CH_CFG.TAG,
   Reg.CH_LIM_LO.LIM, Reg.CH_LIM_HI.LIM, Reg.BSH_SUM_L.SUM, Reg.BSH_SUM_H.SUM]

/-- Part 8 of the register map, in address-table order (chapter 23). -/
def fieldsPart8 : List Field :=
  [Reg.BSH_CNT.COUNT, Reg.BSH_CNT.BSTAT, Reg.SPN_MIN.MIN, Reg.SPN_MAX.MAX,
   Reg.BSH_SKIP.SKIP, Reg.CH_EVT.CAUSE, Reg.CH_EVT.EN, Reg.TH_SUM.ANY,
   Reg.TH_LIM.WARN, Reg.TH_LIM.DERATE, Reg.TH_SHUT.SHUTDOWN, Reg.TH_SHUT.HYST,
   Reg.TH_SHUT.DWELL, Reg.TH_DER.DERATE_MA, Reg.TH_DER.CH, Reg.TH_DER.XEN,
   Reg.TH_CONV.OFS, Reg.TH_CONV.SPAN, Reg.TH_STAT.READING, Reg.TH_STAT.OUT,
   Reg.TH_STAT.HOVER, Reg.TH_EVT.CAUSE, Reg.TH_EVT.EN, Reg.FAN_CTRL.EN,
   Reg.FAN_CTRL.SRC, Reg.FAN_CTRL.BOOST, Reg.FAN_CTRL.MIN_DUTY, Reg.FAN_CTRL.PPR,
   Reg.FAN_CTRL.WRITE_IGNORED, Reg.FAN_CT.T, Reg.FAN_CS01.S0, Reg.FAN_CS01.S1,
   Reg.FAN_CS23.S2, Reg.FAN_CS23.S3, Reg.FAN_STALL.I_STALL, Reg.FAN_STALL.GAIN,
   Reg.FAN_OPEN.I_OPEN, Reg.FAN_STAT.STATE, Reg.FAN_STAT.CLASS, Reg.FAN_STAT.NO_CURRENT]

/-- Part 9 of the register map, in address-table order (chapter 23). -/
def fieldsPart9 : List Field :=
  [Reg.FAN_STAT.ATTEMPT, Reg.FAN_STAT.DUTY, Reg.FAN_SPEED.RPM, Reg.FAN_SPEED.TARGET,
   Reg.FAN_EVT.CAUSE, Reg.FAN_EVT.EN, Reg.CAM_CTRL.EN, Reg.CAM_CTRL.DT,
   Reg.CAM_CTRL.VC, Reg.CAM_CTRL.SHIFT, Reg.CAM_CTRL.SLOTS, Reg.CAM_CTRL.DROP_CORRUPT,
   Reg.CAM_CTRL.LEVELS, Reg.CAM_CTRL.CFG_REJECT, Reg.CAM_CTRL.WRITE_IGNORED, Reg.CAM_SIZE.WIDTH,
   Reg.CAM_SIZE.HEIGHT, Reg.CAM_BASE.BASE, Reg.CAM_READERS.FRAME_READERS, Reg.CAM_READERS.PYR_READERS,
   Reg.CAM_STAT.STATE, Reg.CAM_STAT.SLOT, Reg.CAM_STAT.CSI_LASTING, Reg.CAM_SEQ.SEQ,
   Reg.CAM_DROPS.NO_SLOT, Reg.CAM_DROPS.BAD, Reg.CAM_ERR.ECC_CORR, Reg.CAM_ERR.ERRORS,
   Reg.CAM_EVT.CAUSE, Reg.CAM_EVT.EN, Reg.BM_CTRL.EN, Reg.BM_CTRL.PRED,
   Reg.BM_CTRL.WRITE_IGNORED, Reg.BM_HINT.DX, Reg.BM_HINT.DY, Reg.BM_HINT_T.PTIME,
   Reg.BM_STAT.ACTIVE, Reg.BM_STAT.RETIRED, Reg.BM_STAT.QUEUED, Reg.BM_EVT.CAUSE]

/-- Part 10 of the register map, in address-table order (chapter 23). -/
def fieldsPart10 : List Field :=
  [Reg.BM_EVT.EN, Reg.CD_CFG.EN, Reg.CD_CFG.CAM, Reg.CD_CFG.LEVEL,
   Reg.CD_CFG.KAPPA, Reg.CD_CFG.MAX, Reg.CD_CFG.WRITE_IGNORED, Reg.CD_THRESH.THRESH,
   Reg.CD_EVT.CAUSE, Reg.CD_EVT.EN, Reg.NE_CTRL.EN, Reg.NE_CTRL.CFG_REJECT,
   Reg.NE_CTRL.WRITE_IGNORED, Reg.NE_WORK_BASE.BASE, Reg.NE_WORK_SIZE.SIZE, Reg.NE_STAT.ACTIVE,
   Reg.NE_STAT.RUNNING, Reg.NE_STAT.HANDLE, Reg.NE_STAT.LOADED, Reg.JQ_CTRL.PRIO,
   Reg.NE_RUNS.COUNT, Reg.NE_SKIPPED.COUNT, Reg.NE_REISSUED.COUNT, Reg.NE_EVT.CAUSE,
   Reg.NE_EVT.EN, Reg.AUD_CTRL.AUD_EN, Reg.AUD_CTRL.KWS_EN, Reg.AUD_CTRL.CLIP_EN,
   Reg.AUD_CTRL.CFG_REJECT, Reg.AUD_CTRL.WRITE_IGNORED, Reg.AUD_CFG.CLK_SEL, Reg.AUD_CFG.MIC_EN,
   Reg.AUD_CFG.MIX, Reg.AUD_CFG.GAIN, Reg.VAD_CFG.VAD_THR, Reg.VAD_CFG.VAD_ON,
   Reg.VAD_CFG.VAD_OFF, Reg.VAD_CFG.FLOOR_RISE, Reg.KWS_CFG.SEG_PRE, Reg.KWS_CFG.HOP]

/-- Part 11 of the register map, in address-table order (chapter 23). -/
def fieldsPart11 : List Field :=
  [Reg.KWS_CFG.HIT_THR, Reg.SEG_BASE.BASE, Reg.CLIP_BASE.BASE, Reg.AUD_STAT.STATE,
   Reg.AUD_STAT.VOICE, Reg.AUD_STAT.KWS_LASTING, Reg.AUD_STAT.STUCK, Reg.AUD_LEVEL.F,
   Reg.AUD_LEVEL.E, Reg.PRE_WR.IDX, Reg.PRE_GRAIN.COUNT, Reg.SEG_SEQ.COUNT,
   Reg.AUD_CNT.UNSPOTTED, Reg.AUD_CNT.MIC_CLIPS, Reg.AUD_EVT.CAUSE, Reg.AUD_EVT.EN,
   Reg.FUS_CTRL.EN, Reg.FUS_CTRL.CFG_REJECT, Reg.FUS_CTRL.WRITE_IGNORED, Reg.FUS_CFG.GATE,
   Reg.FUS_CFG.CLASS_PEN, Reg.FUS_CFG.CONFIRM_N, Reg.FUS_CFG.DROP_N, Reg.FUS_CFG2.BIRTH_SCORE,
   Reg.FUS_CFG2.TRK_RING, Reg.FUS_CFG2.TRK_EN, Reg.EGO_CFG.ENC, Reg.EGO_CFG.IMU,
   Reg.EGO_CFG.IMU_EN, Reg.EGO_CFG.HINT_EN, Reg.EGO_CFG.HINT_CAM, Reg.EGO_CFG.HINT_SIGN,
   Reg.EGO_CFG.EGO_K, Reg.EGO_CFG.ENC_WIN, Reg.EGO_SCALE.ENC_UM, Reg.EGO_SCALE.UM_PER_PX,
   Reg.EGO_FRAME.FRAME_US, Reg.EGO_FRAME.IMU_SCALE, Reg.EGO_BIAS.BIAS, Reg.EGO_VEL.V_EGO]

/-- Part 12 of the register map, in address-table order (chapter 23). -/
def fieldsPart12 : List Field :=
  [Reg.STR_CFG.KIND, Reg.STR_CFG.QE, Reg.STR_CFG.PORT, Reg.STR_CFG.SEL,
   Reg.STR_CFG.OFS, Reg.STR_CFG.LEN, Reg.STR_CFG.EGO_COMP, Reg.STR_CFG.EGO,
   Reg.STR_CFG.AGE_LIM, Reg.STR_TX.TX, Reg.STR_AGE.AGE, Reg.STR_LAT.LAT,
   Reg.STR_LAT.DISC, Reg.ADV_CFG.EN, Reg.ADV_CFG.STROBE, Reg.ADV_CFG.STREAM,
   Reg.ADV_CFG.AXIS, Reg.ADV_CFG.CLASS_MASK, Reg.ADV_CFG.WRITE_IGNORED, Reg.ADV_ZONE_LT.X,
   Reg.ADV_ZONE_LT.Y, Reg.ADV_ZONE_RB.X, Reg.ADV_ZONE_RB.Y, Reg.ADV_CORE_LT.X,
   Reg.ADV_CORE_LT.Y, Reg.ADV_CORE_RB.X, Reg.ADV_CORE_RB.Y, Reg.ADV_SCALE.PRESENT,
   Reg.ADV_SCALE.CORE, Reg.ADV_CLEAR.CLEAR, Reg.ADV_CLEAR.HOLD_MS, Reg.ADV_STAT.LEVEL,
   Reg.ADV_STAT.TRACK, Reg.ADV_STAT.LAST, Reg.FUS_EVT.CAUSE, Reg.FUS_EVT.EN,
   Reg.FLG_STAT.HOLD, Reg.FLG_STAT.STATE, Reg.FLG_STAT.LEVEL, Reg.FLG_STAT.SEQ]

/-- Part 13 of the register map, in address-table order (chapter 23). -/
def fieldsPart13 : List Field :=
  [Reg.STORE_STAT.BUSY, Reg.STORE_STAT.KIND, Reg.STORE_STAT.P_ACTIVE, Reg.STORE_STAT.K_ACTIVE,
   Reg.STORE_STAT.LAST, Reg.STORE_STAT.LINES, Reg.P_SEQ.SEQ, Reg.K_SEQ.SEQ,
   Reg.REC_HEAD.ESEQ, Reg.REC_RELEASED.ESEQ, Reg.REC_EXPORT_END.ESEQ, Reg.REC_QUEUE.DEPTH,
   Reg.REC_QUEUE.LOST, Reg.BOOT_CNT.COUNT, Reg.STORE_EVT.CAUSE, Reg.STORE_EVT.EN,
   Reg.IMG_STAT.RESTRICTED, Reg.IMG_STAT.ROM_SERVED, Reg.IMG_STAT.SLOT, Reg.IMG_STAT.TRIAL,
   Reg.IMG_STAT.BOOTSEL, Reg.IMG_STAT.LATCH_A, Reg.IMG_STAT.LATCH_B, Reg.IMG_STAT.DEBUG_CLOSED,
   Reg.IMG_STAT.WHY, Reg.ARB_CNT.HOST, Reg.ARB_CNT.GRAIN, Reg.ARB_CNT.REVOKED,
   Reg.DEV_UID_L.UID, Reg.DEV_UID_H.UID, Reg.IMG_EVT.CAUSE, Reg.IMG_EVT.EN,
   Reg.STAGE0.DATA, Reg.STAGE1.DATA, Reg.CYC_CTRL.EN, Reg.CYC_CTRL.REINIT,
   Reg.CYC_CTRL.CFG_REJECT, Reg.CYC_CTRL.WRITE_IGNORED, Reg.CYC_CFG.FRAME_BITS, Reg.CYC_CFG.LOSS_TMO]

/-- Part 14 of the register map, in address-table order (chapter 23). -/
def fieldsPart14 : List Field :=
  [Reg.CYC_CFG.LOSS_ACT, Reg.LIVE_MASK.MASK, Reg.LOSS_MASK.MASK, Reg.CYC_STAT.LAST_RES,
   Reg.CYC_STAT.ALIVE_REF, Reg.CYC_STAT.REF_VALID, Reg.CYC_STAT.MASTER_LOST, Reg.CYC_STAT.DALIVE,
   Reg.CYC_STAT.HIST, Reg.CYC_OK.COUNT, Reg.CYC_BAD.COUNT, Reg.CYC_SKIPS.COUNT,
   Reg.CYC_STRETCH.COUNT, Reg.CYC_EVT.CAUSE, Reg.CYC_EVT.CAUSE2, Reg.CYC_EVT.EN,
   Reg.USB_CTRL.PRESENT, Reg.USB_CTRL.SOFT_DETACH, Reg.USB_CTRL.REINIT, Reg.USB_CTRL.WRITE_IGNORED,
   Reg.USB_CFG.HS_EN, Reg.USB_CFG.EP2_INT, Reg.USB_STAT.VBUS, Reg.USB_STAT.STATE,
   Reg.USB_STAT.HS, Reg.USB_STAT.RWAKE_FEAT, Reg.USB_STAT.ADDR, Reg.USB_XFER.COUNT,
   Reg.USB_REFUSED.COUNT, Reg.USB_REFUSED.LAST_RES, Reg.USB_RWAKE.PEND, Reg.USB_RWAKE.DONE,
   Reg.USB_RWAKE_EN.EN, Reg.USB_STRM.RING, Reg.USB_STRM.SEN, Reg.USB_EVT.CAUSE,
   Reg.USB_EVT.EN, Reg.CON_DROPS.COUNT]

/-- The whole register map (R632): every field of every register the chapters assign. -/
def allFields : List Field :=
  fieldsPart0 ++
  fieldsPart1 ++
  fieldsPart2 ++
  fieldsPart3 ++
  fieldsPart4 ++
  fieldsPart5 ++
  fieldsPart6 ++
  fieldsPart7 ++
  fieldsPart8 ++
  fieldsPart9 ++
  fieldsPart10 ++
  fieldsPart11 ++
  fieldsPart12 ++
  fieldsPart13 ++
  fieldsPart14

end Sys2Proof.Machine
end

