-- ==== Sys2Proof/Machine/Sparse.lean ====
section
/-! DEFINITION. Sparse plain data: key and value lists kept in rising key order. Register files, and the
memory of Ops.lean, are held so. -/
namespace Sys2Proof.Machine

/-- A sparse table: keys rising, at most one entry a key. -/
abbrev Sparse (α : Type) := List (Nat × α)

/-- A register file: field keys (bit addresses) and the values that differ in time from the reset value. -/
abbrev RegFile := Sparse Nat

/-- The value stored under `k`. -/
def sparseGet {α : Type} (k : Nat) : Sparse α → Option α
  | [] => none
  | (j, v) :: t => if j = k then some v else sparseGet k t

/-- Store `v` under `k`. -/
def sparsePut {α : Type} (k : Nat) (v : α) : Sparse α → Sparse α
  | [] => [(k, v)]
  | (j, w) :: t =>
    if k < j then (k, v) :: (j, w) :: t
    else if j = k then (k, v) :: t
    else (j, w) :: sparsePut k v t

/-- Remove what is stored under `k`. -/
def sparseErase {α : Type} (k : Nat) (t : Sparse α) : Sparse α := t.filter (fun p => p.1 != k)

/-- Element `i` of a list of like things, `dflt` beyond its end. -/
def nth {α : Type} (dflt : α) (i : Nat) (l : List α) : α := (l[i]?).getD dflt

/-- Change element `i` of a list of like things. -/
def modNth {α : Type} (f : α → α) : Nat → List α → List α
  | _, [] => []
  | 0, x :: t => f x :: t
  | i + 1, x :: t => x :: modNth f i t

/-- Bit `k` of a number. -/
def bitOf (v k : Nat) : Bool := v.testBit k

/-- Field [lsb + w - 1 : lsb] of a number. -/
def bitsOf (v lsb w : Nat) : Nat := (v >>> lsb) % 2 ^ w

/-- A number with bit `k` set. -/
def setBitOf (v k : Nat) : Nat := v ||| 2 ^ k

/-- A number with bit `k` clear. -/
def clrBitOf (v k : Nat) : Nat := if v.testBit k then v - 2 ^ k else v

/-- A number's set bits below `n`. -/
def bitsBelow (v n : Nat) : List Nat := (List.range n).filter (fun k => v.testBit k)

/-- Number of set bits below `n`. -/
def countBits (v n : Nat) : Nat := (bitsBelow v n).length

/-- Two's complement reading of the low `w` bits. -/
def sext (w v : Nat) : Int :=
  let u := v % 2 ^ w
  if u < 2 ^ (w - 1) then (u : Int) else (u : Int) - (2 ^ w : Nat)

/-- The low `w` bits of an integer, two's complement. -/
def toBits (w : Nat) (x : Int) : Nat := (x % ((2 ^ w : Nat) : Int)).toNat

/-- Division of integers toward zero (R117). -/
def divZ (a b : Int) : Int := a.tdiv b

/-- Floor division. -/
def divF (a b : Int) : Int := a.fdiv b

/-- Clamp an integer to [lo, hi]. -/
def clampI (lo hi x : Int) : Int := if x < lo then lo else if hi < x then hi else x

/-- A count that saturates at its `w`-bit maximum. -/
def satInc (w v : Nat) : Nat := if v + 1 < 2 ^ w then v + 1 else 2 ^ w - 1

/-- Truth as the bit 0 or 1. -/
def b2n (b : Bool) : Nat := if b then 1 else 0

/-- Little-endian bytes of a number (R5). -/
def leBytes : Nat → Nat → List Byte
  | 0, _ => []
  | n + 1, v => BitVec.ofNat 8 v :: leBytes n (v / 256)

/-- The number little-endian bytes spell (R5). -/
def ofLe : List Byte → Nat
  | [] => 0
  | b :: t => b.toNat + 256 * ofLe t

end Sys2Proof.Machine
end

