-- ==== Sys2Proof/Machine/State.lean ====
section
/-! DEFINITION. The state of the block as plain data, and its state right after reset. Registers live in
`Regs`, keyed by field; what a function keeps beside its registers stands in a structure of its own. -/
namespace Sys2Proof.Machine

/-- The register files. A key that a file does not list holds its field's POR value (R8). -/
structure Regs where
  /-- values in force of RW, RO, WD, W1C, WO and SH fields -/
  val : RegFile
  /-- shadows of the SH fields (R6, R316) -/
  sh : RegFile
  /-- class B and G: live values and the copies the bus reads (R303) -/
  bg : RegFile
  bgCopy : RegFile
  /-- class D: live values, the sample of the last grain edge, and the copies (R303) -/
  dd : RegFile
  ddSamp : RegFile
  ddCopy : RegFile
  /-- class S: live values, the published snapshot, its last sample, and the copies (R303, R74) -/
  ss : RegFile
  ssSnap : RegFile
  ssSamp : RegFile
  ssCopy : RegFile
deriving DecidableEq, Repr

/-- A staged set of an axis block (R316): the group whose strobe staged it and the shadows copied. -/
structure Staged where
  axis : Nat
  group : Nat
  fields : RegFile
deriving DecidableEq, Repr

/-- The words of a wide value latched for one requester (R309): register address and word. -/
structure Latch where
  req : Requester
  addr : Nat
  word : Nat
deriving DecidableEq, Repr

/-! ### Scheduler (chapter 07) -/

/-- Table 7.5. -/
inductive TaskState where
  | waiting | queued | executing | completing
deriving DecidableEq, Repr

/-- A task: an entry that has been taken and holds its tag (R217, R221). -/
structure Task where
  pair : Nat
  tag : Nat
  auto : Bool
  op : Nat
  entry : Entry
  state : TaskState
  /-- the WAIT condition has been met (R222) -/
  met : Bool
  /-- scheduler time of taking, µs (R222) -/
  taken : Nat
  /-- the axis ring it stands in or waits for (R68, R112, R144, R168) -/
  axis : Option Nat
  /-- a cancel or abort is under way (R230) -/
  aborting : Bool
deriving DecidableEq, Repr

/-- An outcome whose completion waits for room in its completion ring (R232). -/
structure HeldCpl where
  pair : Nat
  tag : Nat
  ok : Bool
  onOk : Nat
  bytes : List Byte
deriving DecidableEq, Repr

/-- The scheduler's state. -/
structure Sched where
  tasks : List Task
  held : List HeldCpl
  /-- tags of the CANCELs taken and not yet applied (R219, R228) -/
  cancels : List Nat
  /-- µs counted by the dispatch passes (R219, R222) -/
  clock : Nat
  /-- FLG192 to FLG255 as step 2 of the last pass left them (R219) -/
  seenFlags : Nat
  /-- a DEVICE_RESET was taken in the last pass (R237) -/
  resetDue : Bool
  /-- ON_OK writes of the present pass: task flag and level (Table 7.11) -/
  onOk : List (Nat × Bool)
deriving DecidableEq, Repr

/-! ### Axes (chapters 02 to 05) -/

/-- A running chain (R35 to R38, R55): positions in 2^-24 counts modulo 2^64, chain time in 1/65535 tick. -/
structure ChainRun where
  chain : Nat
  link : Nat
  time : Nat
  linkStart : BitVec 64
  v0 : Int
  mirror : Bool
  /-- the chain has run to its end and the boundary there has passed (R45) -/
  done : Bool
deriving DecidableEq, Repr

/-- A running stop chain (R50 to R53): next tick index, VMAX at entry, direction, and what follows. -/
structure StopRun where
  chain : Nat
  idx : Nat
  vmax : Nat
  neg : Bool
  toOff : Bool
deriving DecidableEq, Repr

/-- A homing in progress (R155 to R164). -/
structure HomeRun where
  verify : Bool
  /-- velocity of the last tick, 2^-16 counts per tick, signed -/
  vel : Int
  /-- counts travelled in the phase, 2^-24 counts -/
  dist : Nat
  /-- capture, in the old frame (R150) -/
  capt : Option (BitVec 40)
  /-- a redefinition is due at the next tick boundary (R158) -/
  redefine : Bool
  /-- after the switch edge, an index edge is sought (R157, USE_INDEX) -/
  seekIndex : Bool
  /-- an index edge came since the last loop period (R150) -/
  idxSeen : Bool
  /-- the home switch was accepted at its active level since the last loop period (R150) -/
  swEdge : Bool
  /-- the capture has redefined the position (R156, R158) -/
  redefined : Bool
  /-- deviation that a verify judged (R164) -/
  dev : Int
  /-- the phase's detection was made; the axis decelerates at HOME_ACC -/
  detected : Bool
  switchAtStart : Bool
  derated : Bool
  stallCapture : Bool
  fail : Nat
deriving DecidableEq, Repr

/-- The follow interpolator of an axis in FOLLOW (R91 to R102). -/
structure FollowRun where
  base : BitVec 40
  c0 : BitVec 32
  lastU : Nat
deriving DecidableEq, Repr

/-- A leave request (R102): the tag of its FOLLOW_LEAVE and the ticks since it was raised. -/
structure LeaveReq where
  tag : Nat
  ticks : Nat
deriving DecidableEq, Repr

/-- One phase of the current loop and its observer (R117, R119). `eFwd` is the estimate before this period's update,
which the feed-forward uses: the loop of R117 stands before the observer of R119. -/
structure Phase where
  integ : Int
  duty : Int
  sat : Bool
  eHat : Int
  eFwd : Int
  iPrev : Int
  u : Int
  i : Int
deriving DecidableEq, Repr

/-- A bumpless blend (R131): demand at its start, period reached, periods in all. -/
structure Blend where
  d0 : Nat
  k : Nat
  n : Nat
deriving DecidableEq, Repr

/-- A strobe applied one of the fields that may blend (R131): the demand in force, and the values those fields had
before it, by which the next loop period judges whether the arbitrated value moves. -/
structure BlendAsk where
  d0 : Nat
  old : List Nat
deriving DecidableEq, Repr

/-- A motor identification (R145): loop periods run, sums of the applied voltages and of the currents of phases A and B
over the first part, and the magnitudes of voltage and current step, summed over both phases, of the first period in
which the current changes after the demand was stepped. -/
structure IdentRun where
  k : Nat
  ua : Int
  ub : Int
  ia : Int
  ib : Int
  step : Option (Nat × Nat)
deriving DecidableEq, Repr

/-- An energisation ramp (R127): under R167 a count to 800 of HOLD_I, under R135 a value rising by RISE. -/
structure Ramp where
  hold : Bool
  k : Nat
deriving DecidableEq, Repr

/-- A place in an axis ring (R214, R228): the tag of its entry, and whether it was marked cancelled. -/
structure RingSlot where
  tag : Nat
  dead : Bool
deriving DecidableEq, Repr

/-- The step pulse last issued (R64): its GPIO, whether it is active low, and its end. -/
structure Pulse where
  gpio : Nat
  low : Bool
  ends : Nat
deriving DecidableEq, Repr

/-- Step and direction output of an axis (R63 to R65), times in CD04 cycles from the present loop period. -/
structure StepOut where
  /-- waiting pulses: start time and direction (true = negative) -/
  queue : List (Nat × Bool)
  /-- earliest start of the next pulse by spacing (R64) -/
  free : Nat
  /-- end of the direction setup time (R65) -/
  ready : Nat
  /-- the pulse last issued -/
  pulse : Option Pulse
  /-- direction of the level driven (true = negative) -/
  dirNeg : Bool
  /-- pulses issued so far, modulo 2^32 -/
  issued : BitVec 32
deriving DecidableEq, Repr

/-- What one axis keeps beside its registers. -/
structure Axis where
  /-- the phase accumulator, 40.24 fixed point (R31, Table 2.1) -/
  acc : BitVec 64
  /-- p(k) of the last tick boundary -/
  pos : BitVec 64
  /-- the motion that the tick under way divides over its loop periods (R31) -/
  delta : BitVec 64
  /-- p(k) - p(k-1) of the last tick that ended (R31, R50, R151) -/
  moved : BitVec 64
  /-- trajectory position still to be added by the rate multiplier this tick -/
  mulLeft : BitVec 64
  /-- loop periods of this tick already run (0 to 3) -/
  sub : Nat
  /-- the task that owns the motion under way -/
  owner : Option Nat
  /-- ticks since the owner's motion was taken -/
  ticks : Nat
  /-- per-move copper energy, 1/40000 nJ (R23, R148) -/
  copper : Nat
  run : Option ChainRun
  stop : Option StopRun
  home : Option HomeRun
  follow : Option FollowRun
  /-- leave requests in force, oldest first (R102) -/
  leave : List LeaveReq
  /-- a motor identification under way (R145) -/
  ident : Option IdentRun
  /-- SETTLE ticks counted (R45) -/
  settle : Nat
  /-- reason of a stop due in the next tick (R49, Table 2.8), by END_REASON -/
  stopReq : Option Nat
  /-- END_REASON of the move under way or ended -/
  endReason : Nat
  /-- a start taken from the ring head, to act at the next tick (R42, R100); the flag is set for one that a strobe
  starts before the tick of its own boundary is evaluated -/
  taken : Option (Nat × Bool)
  /-- an armed SYNC start (R62) -/
  armed : Option Nat
  ring : List RingSlot
  /-- POS_INVALIDATE due at the next tick boundary (R168) -/
  invalidate : Bool
  /-- how many intervals of SRC count in P_EST since it was last preset (R92) -/
  histN : Nat
  /-- ALIVE of the address word, and the word last sent (R106) -/
  alive : BitVec 4
  addrWord : Word
  phaseA : Phase
  phaseB : Phase
  /-- lean value L, mA (R122) -/
  lean : Nat
  /-- value of item 6 of R125 in the last loop period -/
  want : Nat
  blend : Option Blend
  blendAsk : Option BlendAsk
  ramp : Option Ramp
  /-- consecutive stall periods (R137) -/
  stallRun : Nat
  /-- ticks at rest counted toward HOLD_DWELL (R134) -/
  dwell : Nat
  /-- HOLD_DWELL has run out (R134) -/
  dwellDone : Bool
  /-- ECOP and EDEL kept exactly, in 1/40000 nJ (R140) -/
  ecop : Nat
  edel : Int
  /-- what the last period that was not held added (R140) -/
  copInc : Nat
  delInc : Int
  stepOut : StepOut
  /-- the axis is held for one tick by a migration, then served by this engine (R565); set once the tick is held -/
  heldFor : Option (Nat × Bool)
  /-- the move under way is a jog (R38, Table 2.6) -/
  jog : Bool
  /-- the last tick ended outside the soft limits while they were checked (R59) -/
  softOut : Bool
deriving DecidableEq, Repr

/-- A step and direction input: CD03 time of its last accepted edge, and the intervals between its accepted edges, newest
first, since it was last idle for 2 ms (R79, R92). -/
structure SdiIn where
  last : Option Nat
  intervals : List Nat
deriving DecidableEq, Repr

/-- An SPI master port (R106, R107, R111): CD03 cycles of the present loop period already taken, the address words of the
period with their selects in the order sent, and of the last transfer entry the select and the bits clocked during
each assertion of it. -/
structure Spm where
  used : Nat
  addr : List (Nat × Word)
  sel : Nat
  bursts : List (List Bool)
deriving DecidableEq, Repr

/-! ### Tile links (chapter 06) -/

/-- Validity of the word of a loop period (R190, R191, R198); `starting` while no frame has ended since the link came UP. -/
inductive WordTag where
  | absent | settling | subst | valid | starting
deriving DecidableEq, Repr

/-- An outbound frame as far as later steps refer to it (R175, R182). -/
structure OutFrame where
  seq : Nat
  duties : List Int
deriving DecidableEq, Repr

/-- One tile link. -/
structure Tile where
  /-- SEQ of the last outbound frame (R175) -/
  seq : Nat
  /-- frames sent or tested in the present state -/
  frames : Nat
  /-- loop periods since the link left DOWN (R187) -/
  sinceDown : Nat
  out : List OutFrame
  /-- the frame last sent, bit i being transmission bit i (Table 6.1) -/
  sent : BitVec 1000
  /-- bridges that KILL words in the frame being sent name (R179) -/
  kill : BitVec 4
  /-- frames that each phase has passed in TRAIN (R185) -/
  trainHits : List Nat
  clrFaults : Bool
  /-- consecutive accepted frames with INHIBIT, UVLO and OT clear (R193) -/
  clearRun : Nat
  /-- accepted frames in a row in CHECK, and the identity bytes seen there (R184) -/
  goodRun : Nat
  idSeen : BitVec 16
  /-- consecutive sync losses (R189) -/
  syncLoss : Nat
  /-- samples of the last three windows of each stream, newest first; `none` before a synchronising reset (R195, R198) -/
  windows : List (List (Option (BitVec 250)))
  /-- words still to be tagged SUBST (R191) -/
  substLeft : Nat
  /-- a synchronising reset is due at the next accepted window (R198) -/
  syncDue : Bool
  /-- a FILTER_SYNC waits for the first valid word after its reset (R201) -/
  syncWait : Bool
  /-- words of the coming loop period and their tag (R196) -/
  words : List Int
  tag : WordTag
  /-- duties the ECHO of the last accepted frame names (R182) -/
  echoDuties : List Int
  /-- a valid word has been delivered since the link came up -/
  firstValid : Bool
  /-- telemetry: periods of the interval, sums and counts of valid words, flags, drops since the last entry (R200) -/
  telCnt : Nat
  telSum : List Int
  telN : Nat
  telFlags : BitVec 3
  telDrop : Bool
deriving DecidableEq, Repr

/-! ### Events, scruples and the checker (chapter 19) -/

/-- An INT pulse generator (R552): 0 idle, 1 pulse, 2 inactive time; latchings counted meanwhile. -/
structure IntGen where
  phase : Nat
  count : Nat
deriving DecidableEq, Repr

/-- One unit of a fault class with its occurrence times in grain periods, newest first (R555). -/
structure ScrUnit where
  cls : Nat
  unit : Nat
  times : List Nat
  /-- the occurrence that brought the count to N waits to take effect (R556) -/
  due : Bool
  /-- lasting latch -/
  latched : Bool
  /-- lasting effect in force (R558) -/
  inForce : Bool
deriving DecidableEq, Repr

/-- The checker (R561 to R568). -/
structure Checker where
  next : Nat
  /-- the axis checked in the tick under way (R561) -/
  checking : Option Nat
  /-- recent mismatches: engine and grain time (R564) -/
  mismatches : List (Nat × Nat)
  /-- engines whose retirement waits for the self-test verdict (R571) -/
  heldRetire : List Nat
  suspect : Bool
deriving DecidableEq, Repr

/-- The event fabric and the fault logs. -/
structure Events where
  ints : List IntGen
  logSeq : BitVec 16
  scrSeq : BitVec 16
  units : List ScrUnit
  checker : Checker
deriving DecidableEq, Repr

/-! ### Host ports (chapters 08 and 09) -/

/-- The cyclic command port. -/
structure Cyclic where
  /-- SCS_N asserted: a reply is frozen (R248) -/
  frozen : Bool
  srdy : Bool
  /-- the frozen reply, word 0 first -/
  reply : List Word
  /-- words read by the last accepted frame (R264) -/
  readData : List Word
  /-- SKIP of the last judged frame (R259) -/
  skip : Nat
  /-- refused frames since the last accepted one (R259) -/
  badCnt : Nat
  /-- loop-period count at the last accepted release (R265) -/
  releasedAt : Nat
  /-- a restart waits for the commit's end; whether by REINIT (R268) -/
  restartDue : Option Bool
  /-- the fall of SCS_N woke the device: that frame is not judged (R354) -/
  unjudged : Bool
  /-- PENDING, ARMED, MIGRATED and DEGRADED of each axis, from bit 0 on, in the trajectory-tick snapshot (R263) -/
  live : List Nat
deriving DecidableEq, Repr

/-- The remote-wake sequencer (R290 to R293): idle, listening, driving K, driving K while the host's own
resume has begun, waiting for the host. -/
inductive WakePhase where
  | idle | listen | drive | met | wait
deriving DecidableEq, Repr

/-- An IN transfer that the host takes packet by packet: the ring its entries come from, its bytes, those acknowledged,
and where each entry ends (R282, R285). -/
structure InXfer where
  ring : Nat
  bytes : List Byte
  acked : Nat
  ends : List Nat
deriving DecidableEq, Repr

/-- The USB port. -/
structure Usb where
  /-- number of the next OUT transfer (R281) -/
  xferNo : BitVec 32
  /-- STATUS and DATA messages waiting on EP1 IN, oldest first, each with the PI of RG003 when it was queued: the
  completions published before it go before it (R281) -/
  ep1 : List (Nat × List Byte)
  /-- the EP1 IN transfer and the EP3 burst in flight (R282, R285) -/
  ep1In : Option InXfer
  ep3In : Option InXfer
  /-- EP0's answer to the last request, `none` for a stall (R276) -/
  ep0 : Option (List Byte)
  /-- endpoints halted by the host: bit 0 EP1 OUT, bits 1 to 3 EP1 IN to EP3 IN (R276) -/
  halted : Nat
  /-- test mode in force, 0 none (Table 9.1) -/
  test : Nat
  /-- bytes last sent: EP1's packet, EP2's report, EP3's burst -/
  sent1 : List Byte
  sent2 : List Byte
  sent3 : List Byte
  /-- EVT_SUM and flag byte of the last EP2 report, its SEQ, new events since, oldest first (R284) -/
  ep2Sum : Nat
  ep2Flags : Nat
  ep2Seq : BitVec 8
  ep2New : List Nat
  ep2Sent : Bool
  /-- slot whose turn is next on EP3 -/
  turn : Nat
  /-- port state before suspend (R289) -/
  before : Nat
  wake : WakePhase
  /-- detached by REINIT for 20 ms (R297) -/
  reattach : Bool
deriving DecidableEq, Repr

/-- The console (R294 to R296). -/
structure Console where
  /-- output waiting, oldest byte first -/
  out : List Byte
  /-- lines dropped since the last one that fitted -/
  dropped : Nat
  /-- the retained boot and fault log, its last 64 lines, oldest first (Table 9.6, Table 11.3) -/
  log : List (List Byte)
deriving DecidableEq, Repr

/-! ### Power and time (chapters 11 and 21) -/

/-- A mode change under way (R342 to R348): `ready` is a downward step that waits for SCS_N high (R269). -/
inductive ModeStep where
  | none | deferred | ready | entering | committed | rising
deriving DecidableEq, Repr

/-- Power modes, the loop-period count and the reset lines. -/
structure Power where
  /-- in GRAIN (the PWR_STAT.MODE field has no code for it) -/
  grain : Bool
  step : ModeStep
  /-- the mode the step leads to: 0 GRAIN, 1 DOZE, 2 RUN, 3 FULL -/
  goal : Nat
  /-- MODE_SET that asked for it, if any -/
  task : Option Nat
  /-- mode in which it was taken, and its final target -/
  fromMode : Nat
  target : Nat
  deferred : Nat
  /-- entry time so far, µs (R358) -/
  micros : Nat
  /-- grain count at the commit point (R358) -/
  commitAt : Nat
  /-- a wake source latched after the commit point (R344) -/
  wakeLate : Bool
  /-- highest mode of the wake sources that rise (R349), and the grain count of the waking edge (Table 11.7) -/
  wakeGoal : Nat
  wakeAt : Nat
  /-- a wake source abandoned the entry (R344): the MODE_SET ends ABORTED with CAUSE 5 -/
  abandoned : Bool
  /-- mode left by a VAD excursion (R350) -/
  excursion : Option Nat
  excursions : Nat
  /-- loop-period count, and its record with the grain count while CD04 is stopped (R341) -/
  loops : BitVec 64
  recLoops : BitVec 64
  recGrain : Nat
  /-- CD04 runs -/
  motion : Bool
  /-- CD03 cycle count at the last loop-period boundary (R79), or when CD03 last changed its rate, then with the grain
  count of that moment -/
  cd03 : Nat
  cdGrain : Nat
  /-- grain count at the last loop-period boundary (R237) -/
  loopGrain : Nat
  /-- grain edges of the crystal counted toward lock; locked (R607) -/
  crystal : Bool
  /-- no boot since POR: fields marked kept and MT1 to MT7 are loaded from the banks (R508) -/
  cold : Bool
  /-- DEVRST is asserted; POR is asserted -/
  devrst : Bool
  por : Bool
  /-- RST_N and TEST levels, core and I/O supplies above their reset thresholds -/
  rstN : Bool
  test : Bool
  coreOk : Bool
  ioOk : Bool
  /-- VDDIO_A is below its warning threshold (R355) -/
  ioWarn : Bool
  /-- boot is waiting for BO_WARN to clear (R611) -/
  bootWaits : Bool
  /-- wake counts of QE_SEL (R354) -/
  qeWake : Int
deriving DecidableEq, Repr

/-! ### Slow converter (chapter 12) -/

/-- An urgent request (R381): its task, and whether an entry was abandoned for it. -/
structure Urgent where
  tag : Nat
  channel : Nat
  interrupted : Bool
deriving DecidableEq, Repr

/-- The slow converter. -/
structure Adc where
  /-- channel of the scan entry in conversion, or due next -/
  entry : Option Nat
  converting : Bool
  /-- the conversion began with REF_READY 0 (R371) -/
  unready : Bool
  /-- VDDA_LOW was present during the conversion (R372) -/
  vddaSeen : Bool
  /-- the entry repeats one abandoned for an urgent conversion (R373) -/
  resumed : Bool
  /-- the urgent request being converted, and those waiting (R382) -/
  urgent : Option Urgent
  queue : List Urgent
  /-- rounds that fell due while urgent conversions ran (R383) -/
  dueHeld : Bool
  /-- entries dropped since the last one written, for RG096 to RG103 (R373) -/
  drops : List Nat
  /-- grain periods still to count before REF_READY (R369) -/
  refLeft : Option Nat
  /-- rounds started since the block was reset (Table 12.5 ROUND) -/
  rounds : Nat
deriving DecidableEq, Repr

/-! ### Vision and neural engines (chapter 13) -/

/-- A frame being received or waiting in the pipeline (R392 to R395). -/
structure Frame where
  cam : Nat
  slot : Nat
  seq : Nat
  ptimeStart : Nat
  ptimeEnd : Nat
deriving DecidableEq, Repr

/-- What a receiver took from its WD registers when it was enabled, and uses until it is next enabled (R313). -/
structure CamSet where
  base : Nat
  width : Nat
  height : Nat
  slots : Nat
  levels : Nat
  frameReaders : Nat
  pyrReaders : Nat
deriving DecidableEq, Repr

/-- One camera receiver. -/
structure Camera where
  receiving : Option Frame
  /-- slot used last (R392) -/
  last : Option Nat
  /-- frames started since enable (R395) -/
  seq : Nat
  set : CamSet
deriving DecidableEq, Repr

/-- The block matcher (R404 to R409). -/
structure Matcher where
  queue : List Frame
  /-- the frame being matched, with the hint and its age sampled at the start, by camera -/
  current : Option Frame
  hint : Int × Int
  hintAge : Nat
  /-- previous frame of each camera whose flag is still held -/
  prev : List (Option Frame)
  /-- vectors of the previous field of each camera, in raster order (R405) -/
  field : List (List (Int × Int))
deriving DecidableEq, Repr

/-- A loaded container (R410): where it lies and what it declared. -/
structure Container where
  addr : Nat
  len : Nat
  tileCycles : Nat
  workBytes : Nat
  outBytes : Nat
  outKind : Nat
  inLevel : Nat
  version : Nat
deriving DecidableEq, Repr

/-- A flag passed to the neural engine and not yet run by a job that names it (R414): the job by its queue and ring
index. -/
structure JobFlag where
  queue : Nat
  idx : Nat
  flag : Nat
  frame : Frame
deriving DecidableEq, Repr

/-- The running neural job (R415): its queue and ring index, entry bytes, the flag it reads, and its start. -/
structure Job where
  queue : Nat
  idx : Nat
  bytes : List Byte
  seq : Nat
  input : Option (Nat × Frame)
  start : Nat
  /-- work units reissued by a retirement during the job (R422) -/
  units : Nat
  /-- its input is gone: it ends FUNCTION_DOWN (Table 13.9) -/
  doomed : Bool
  /-- a job of the help-phrase function for the segment of this number (R439) -/
  spotter : Option Nat
deriving DecidableEq, Repr

/-- Perception: cameras, pyramid builder, corner detectors, block matcher and neural engine. -/
structure Perc where
  cams : List Camera
  /-- published frames waiting for the pyramid builder, and the one it works on (R401) -/
  pyrQueue : List Frame
  pyrNow : Option Frame
  /-- frames waiting for corner detectors 0 and 1 (R402) -/
  cornerQ : List (List Frame)
  matcher : Matcher
  handles : List (Option Container)
  job : Option Job
  /-- job sequence number -/
  jobSeq : Nat
  /-- flags passed to the neural engine and not yet run, oldest first (R414) -/
  passed : List JobFlag
  /-- queues whose flush waits for the running job, with the ring index it reaches (R419) -/
  flushing : List (Nat × Nat)
deriving DecidableEq, Repr

/-! ### Audio (chapter 14) -/

/-- A phrase being analysed (R437). Lengths in 10 ms frames from the segment start. -/
structure Segment where
  seq : Nat
  trigGrain : Nat
  /-- loop-period count at the trigger -/
  trigLoop : Nat
  /-- SEG_PRE at the trigger -/
  pre : Nat
  /-- level of each microphone, frame by frame from the segment start (Table 14.1) -/
  levels : List (List Int)
  /-- frames of the segment so far -/
  len : Nat
  /-- the segment has ended (R437) -/
  ended : Bool
  /-- its audio is in the segment buffer (R438) -/
  copied : Bool
  /-- frames the last job placed scores; the job waiting and the job running, by the frames they score
  and whether it is the one placed when the segment ended (R440) -/
  placed : Nat
  waiting : Option (Nat × Bool)
  running : Option (Nat × Bool)
  /-- the last job has been placed -/
  final : Bool
  /-- score of the last completed job; frames and finality of one whose score awaits judgement (R441) -/
  score : Nat
  result : Option (Nat × Bool)
  jobs : Nat
  woke : Bool
  deferred : Bool
deriving DecidableEq, Repr

/-- The audio function. -/
structure Audio where
  /-- floor and level of the last frame, 0.25 dB units; the floor is set by the first frame (R434) -/
  floor : Option Int
  level : Int
  /-- n of the floor rule (R434) -/
  rise : Nat
  onRun : Nat
  offRun : Nat
  voice : Bool
  /-- levels of each microphone in the last 100 frames, newest first -/
  hist : List (List Int)
  seg : Option Segment
  /-- code of the last verdict -/
  verdict : Nat
  /-- a mode step waits for the phrase (R447, R448) -/
  deferring : Bool
deriving DecidableEq, Repr

/-! ### Fusion (chapter 15) -/

/-- A track (R462, R463). -/
structure Track where
  state : Nat
  uid : Nat
  cls : Nat
  score : Nat
  x0 : Int
  y0 : Int
  x1 : Int
  y1 : Int
  vx : Int
  vy : Int
  hits : Nat
  misses : Nat
  stream : Nat
  upd : Nat
  frameSeq : Nat
  /-- changed in this cycle: assigned, born -/
  assigned : Bool
  born : Bool
deriving DecidableEq, Repr

/-- A stream (R453): latest value, arrival time, whether it has one. -/
structure Stream where
  value : Int
  arrival : Option Nat
  fresh : Bool
deriving DecidableEq, Repr

/-- An ego channel (R458): velocity and count history, newest first. -/
structure Ego where
  v : Int
  counts : List Nat
deriving DecidableEq, Repr

/-- An advisory channel (R464 to R466). -/
structure Advisory where
  level : Nat
  /-- cycles for which a lower level has been found (R465), and the highest found meanwhile -/
  hold : Nat
  found : Nat
  last : Option Nat
deriving DecidableEq, Repr

/-- Fusion. -/
structure Fusion where
  cycle : Nat
  streams : List Stream
  egos : List Ego
  tracks : List Track
  nextUid : Nat
  advs : List Advisory
  clearMask : Nat
deriving DecidableEq, Repr

/-! ### Temperature and fans (chapter 16) -/

/-- One threshold of a sensor (R476 to R478). -/
structure Threshold where
  raw : Bool
  out : Bool
  /-- grain count at which the raw state began to differ from the output -/
  since : Option Nat
  hover : Bool
  /-- grain count of the last crossing -/
  lastCross : Option Nat
deriving DecidableEq, Repr

/-- One sensor. -/
structure Sensor where
  ths : List Threshold
  /-- samples since the last output change (Table 16.5) -/
  since : Nat
  /-- THERM_REINIT: the next sample sets the outputs without dwell -/
  fresh : Bool
  /-- tile sensors: sum and number of valid temperature words of the interval (R474) -/
  acc : Int
  n : Nat
deriving DecidableEq, Repr

/-- One fan (R484 to R493). -/
structure Fan where
  /-- entries of the learned map for 200, 300, ..., 1000 per mille (R487); 0 = empty -/
  map : List Nat
  /-- 500 ms updates at which the duty stayed near map point p -/
  stay : Nat
  point : Nat
  /-- last result of its current channel: code, clipped, grain count -/
  current : Option (Int × Bool × Nat)
  /-- accepted edges seen in the state, as in R488 and R492 -/
  edges : Nat
deriving DecidableEq, Repr

/-! ### Store, record and images (chapters 17 and 18) -/

/-- A running STORE (R502): kind, bank, SEQ, the lines still to be written and what is fixed at capture. -/
structure StoreRun where
  tag : Nat
  kind : Nat
  bank : Nat
  seq : Nat
  /-- bank offsets and content of the lines still to be written -/
  lines : List (Nat × List Byte)
  length : Nat
  dcrc : Nat
  written : Nat
  /-- stop at the end of the line: 0 no, 1 brown-out, 2 cancel -/
  stopping : Nat
  /-- µs of the taking, for the duration in the result -/
  start : Nat
deriving DecidableEq, Repr

/-- A cause waiting to be appended to the record (R511): type, grain count, DATA bytes, and the task it completes. -/
structure RecCause where
  type : Nat
  grain : Nat
  data : List Byte
  task : Option Nat
deriving DecidableEq, Repr

/-- A running image write or copy (R535): task and the lines still to be written, by address. -/
structure ImgRun where
  tag : Nat
  lines : List (Nat × List Byte)
  stopping : Nat
deriving DecidableEq, Repr

/-- The keeping machine. -/
structure Keep where
  store : Option StoreRun
  img : Option ImgRun
  queue : List RecCause
  /-- H(HEAD - 1) (R509), 32 bytes -/
  hash : List Byte
  /-- hash of the entry last overwritten, the anchor of the oldest entry kept (R514) -/
  anchor : List Byte
  /-- verified latches: SHA-256 of both manifests as last fully checked (R528) -/
  latches : List (Option (List Byte))
  /-- SHA-256 of the grain manifest the GC runs (R530) -/
  gcImage : List Byte
  /-- the running slot, if a slot was booted -/
  slot : Option Nat
  /-- boots since manufacture, which no reset clears (Table 17.9 BOOT_CNT) -/
  boots : Nat
deriving DecidableEq, Repr

/-- The one-time fuses (R539): anti-rollback counters and revoked key slots. -/
structure Fuses where
  host : Nat
  grain : Nat
  revoked : BitVec 4
deriving DecidableEq, Repr

/-- Accepted levels of QEk_A, QEk_B and QEk_I. -/
structure QeLevels where
  a : Bool
  b : Bool
  i : Bool
deriving DecidableEq, Repr

/-- Input levels accepted from the balls (chapter 20). -/
structure Pads where
  /-- levels last accepted at the encoder balls, whether or not they are decoded: QEk_A, QEk_B, QEk_I (R82, R84) -/
  qe : List QeLevels
  /-- levels at the balls GPIO0 to GPIO47 (R592) -/
  gpio : BitVec 48
  /-- their levels last accepted in RUN or FULL, as limits and home switches are sampled (R149, R636) -/
  accepted : BitVec 48
  sstopN : Bool
  /-- level of SCS_N (R242) -/
  scsN : Bool
  /-- pad levels of the straps at the next release (R589) -/
  straps : Straps
  /-- USB_VBUS is valid (R274) -/
  vbus : Bool
deriving DecidableEq, Repr

/-! ### The device -/

/-- The device: everything the spec gives the machine, the fuses and the command queue apart. -/
structure Device where
  regs : Regs
  staged : List Staged
  latches : List Latch
  /-- the word last read by each requester: the model's observation point -/
  busRead : List (Requester × Nat)
  mem : List Host.Cell
  /-- microstep tables MT1 to MT7 as written; a table not listed holds its copy of MT0 (R88) -/
  tables : Sparse (List Nat)
  sched : Sched
  axes : List Axis
  sdi : List SdiIn
  spm : List Spm
  tiles : List Tile
  events : Events
  cyclic : Cyclic
  usb : Usb
  console : Console
  power : Power
  adc : Adc
  perc : Perc
  audio : Audio
  fusion : Fusion
  sensors : List Sensor
  fans : List Fan
  keep : Keep
  pads : Pads
  /-- the MODEL's own counter, to which the free values are applied; not the spec's -/
  free : Nat
deriving DecidableEq, Repr

/-- The machine: the device, its fuses, and the queue of the commands that wait, first in, first out. -/
structure State where
  dev : Device
  fuses : Fuses
  pending : List Instr
deriving DecidableEq, Repr

/-- Why a step stops with a fault. -/
inductive Fault where
  /-- An access to an address that lies in no region of the address map (R632), or that is not word-aligned
  in the register window (R299). Raised by REGISTER_WRITE, BIT_ALIAS_WRITE and LATCHED_LOW_WORD_READ. Safe: the
  block stops where no requester can make such an access. -/
  | noSuchAddress (addr : BitVec 32)
deriving DecidableEq, Repr

/-- Why a step refuses a command. -/
inductive Refusal where
  /-- A command without a meaning in this model, by its mnemonic. Safe: the block stops. Raised by the
  dispatcher only; no command of this model is refused so. -/
  | notModelled (mnemonic : String)
deriving DecidableEq, Repr

/-! ### Reset -/

/-- Empty register files: every field at its POR value (R8, R330). -/
def Regs.reset : Regs := ⟨[], [], [], [], [], [], [], [], [], [], []⟩

/-- A phase of the current loop before its first word. -/
def Phase.reset : Phase := ⟨0, 0, false, 0, 0, 0, 0, 0⟩

/-- Axis `n` after POR or DEVRST: OFF, position 0, LOST (Table 2.7, R165). -/
def Axis.reset : Axis where
  acc := 0
  pos := 0
  delta := 0
  moved := 0
  mulLeft := 0
  sub := 0
  owner := none
  ticks := 0
  copper := 0
  run := none
  stop := none
  home := none
  follow := none
  leave := []
  ident := none
  settle := 0
  stopReq := none
  endReason := 0
  taken := none
  armed := none
  ring := []
  invalidate := false
  histN := 0
  alive := 0
  addrWord := 0
  phaseA := Phase.reset
  phaseB := Phase.reset
  lean := 0
  want := 0
  blend := none
  blendAsk := none
  ramp := none
  stallRun := 0
  dwell := 0
  dwellDone := false
  ecop := 0
  edel := 0
  copInc := 0
  delInc := 0
  stepOut := ⟨[], 0, 0, none, false, 0⟩
  heldFor := none
  jog := false
  softOut := false

/-- A tile link DOWN with its filters cleared. -/
def Tile.reset : Tile where
  seq := 0
  frames := 0
  sinceDown := 0
  out := []
  sent := 0
  kill := 0
  trainHits := List.replicate 8 0
  clrFaults := false
  clearRun := 0
  goodRun := 0
  idSeen := 0
  syncLoss := 0
  windows := List.replicate 10 [none, none, none]
  substLeft := 0
  syncDue := false
  syncWait := false
  words := List.replicate 10 0
  tag := .absent
  echoDuties := List.replicate 8 0
  firstValid := false
  telCnt := 0
  telSum := List.replicate 10 0
  telN := 0
  telFlags := 0
  telDrop := false

/-- No task, nothing held (R235: DEVRST leaves no task). -/
def Sched.reset : Sched := ⟨[], [], [], 0, 0, false, []⟩

/-- The checker rotating from A00 (R561). -/
def Checker.reset : Checker := ⟨0, none, [], [], false⟩

/-- No latch, no log, no occurrence. -/
def Events.reset : Events := ⟨List.replicate 4 ⟨0, 0⟩, 0, 0, [], Checker.reset⟩

/-- The cyclic port after a restart (R268). -/
def Cyclic.reset : Cyclic := ⟨false, false, [], [], 0, 0, 0, none, false, List.replicate 64 0⟩

/-- The USB port detached. -/
def Usb.reset : Usb :=
  ⟨0, [], none, none, none, 0, 0, [], [], [], 0, 0, 0, [], false, 0, 0, .idle, false⟩

/-- The power machine right after the release of DEVRST: RUN, the motion machine not yet clocked (R352, Table 1.7). -/
def Power.reset : Power where
  grain := false
  step := .none
  goal := 2
  task := none
  fromMode := 2
  target := 0
  deferred := 0
  micros := 0
  commitAt := 0
  wakeLate := false
  wakeGoal := 0
  wakeAt := 0
  abandoned := false
  excursion := none
  excursions := 0
  loops := 0
  recLoops := 0
  recGrain := 0
  motion := false
  cd03 := 0
  cdGrain := 0
  loopGrain := 0
  crystal := false
  cold := true
  devrst := false
  por := false
  rstN := true
  test := false
  coreOk := true
  ioOk := true
  ioWarn := false
  bootWaits := false
  qeWake := 0

/-- The converter idle. -/
def Adc.reset : Adc :=
  ⟨none, false, false, false, false, none, [], false, List.replicate 8 0, none, 0⟩

/-- The block matcher without a previous frame. -/
def Matcher.reset : Matcher := ⟨[], none, (0, 0), 0, [none, none], [[], []]⟩

/-- A receiver that was never enabled: its registers' reset values. -/
def Camera.reset : Camera := ⟨none, none, 0, ⟨0, 1280, 800, 3, 2, 0x20, 0x40⟩⟩

/-- Perception off. -/
def Perc.reset : Perc :=
  ⟨List.replicate 2 Camera.reset, [], none, [[], []], Matcher.reset, List.replicate 8 none, none, 0, [], []⟩

/-- Audio off. -/
def Audio.reset : Audio := ⟨none, 0, 0, 0, 0, false, [], none, 0, false⟩

/-- A free track slot. -/
def Track.reset : Track := ⟨0, 0, 0, 0, 0, 0, 0, 0, 0, 0, 0, 0, 0, 0, 0, false, false⟩

/-- Fusion off. -/
def Fusion.reset : Fusion :=
  ⟨0, List.replicate 8 ⟨0, none, false⟩, List.replicate 2 ⟨0, []⟩, List.replicate 32 Track.reset, 0,
   List.replicate 8 ⟨0, 0, 0, none⟩, 0⟩

/-- A sensor that has taken no sample: raw states below, outputs clear. -/
def Sensor.reset : Sensor := ⟨List.replicate 3 ⟨false, false, none, false, none⟩, 0, false, 0, 0⟩

/-- A fan that is OFF with an empty map. -/
def Fan.reset : Fan := ⟨List.replicate 9 0, 0, 0, none, 0⟩

/-- Nothing running, no image verified. -/
def Keep.reset : Keep :=
  ⟨none, none, [], List.replicate 32 0, List.replicate 32 0, [none, none], [], none, 0⟩

/-- Inputs inactive: encoder and GPIO balls low, SSTOP_N and SCS_N high, straps low, no VBUS. -/
def Pads.reset : Pads := ⟨List.replicate 8 ⟨false, false, false⟩, 0, 0, true, true, ⟨false, false, false⟩, false⟩

/-- The device right after the release of POR and DEVRST, before the boot. -/
def Device.reset : Device where
  regs := Regs.reset
  staged := []
  latches := []
  busRead := []
  mem := []
  tables := []
  sched := Sched.reset
  axes := List.replicate 64 Axis.reset
  sdi := List.replicate 16 ⟨none, []⟩
  spm := List.replicate 4 ⟨0, [], 0, []⟩
  tiles := List.replicate 16 Tile.reset
  events := Events.reset
  cyclic := Cyclic.reset
  usb := Usb.reset
  console := ⟨[], 0, []⟩
  power := Power.reset
  adc := Adc.reset
  perc := Perc.reset
  audio := Audio.reset
  fusion := Fusion.reset
  sensors := List.replicate 25 Sensor.reset
  fans := List.replicate 6 Fan.reset
  keep := Keep.reset
  pads := Pads.reset
  free := 0

/-- The machine right after reset: no fuse blown, no command waiting. -/
def State.reset : State := ⟨Device.reset, ⟨0, 0, 0⟩, []⟩

end Sys2Proof.Machine
end

