-- ==== Sys2Proof/Machine/Ops.lean ====
section
/-! DEFINITION. The named operations over registers, memory, rings, events and scruples that the meanings share. -/
namespace Sys2Proof.Machine

/-! ### Register fields -/

/-- The register file that holds the live value of a field with this access code. -/
def Regs.live (r : Regs) (a : Acc) : RegFile :=
  match a with
  | .rcBG => r.bg
  | .rcD => r.dd
  | .rcS => r.ss
  | .rw => r.val
  | .ro => r.val
  | .w1c => r.val
  | .wo => r.val
  | .sh => r.val
  | .wd => r.val

/-- Replace the file that holds the live values of an access code. -/
def Regs.setLive (r : Regs) (a : Acc) (t : RegFile) : Regs :=
  match a with
  | .rcBG => { r with bg := t }
  | .rcD => { r with dd := t }
  | .rcS => { r with ss := t }
  | .rw => { r with val := t }
  | .ro => { r with val := t }
  | .w1c => { r with val := t }
  | .wo => { r with val := t }
  | .sh => { r with val := t }
  | .wd => { r with val := t }

/-- The live value (value in force) of field `f` of register `i` (R6). -/
def Device.rd (d : Device) (f : Field) (i : Nat := 0) : Nat :=
  (sparseGet (f.key i) (d.regs.live f.acc)).getD (f.reset i)

/-- Give field `f` of register `i` a live value; only its `width` low bits are kept. -/
def Device.wr (d : Device) (f : Field) (i v : Nat) : Device :=
  { d with regs := d.regs.setLive f.acc (sparsePut (f.key i) (v % 2 ^ f.width) (d.regs.live f.acc)) }

/-- The shadow of an SH field (R6): the value in force until a write gives it another. -/
def Device.rdSh (d : Device) (f : Field) (i : Nat := 0) : Nat :=
  (sparseGet (f.key i) d.regs.sh).getD (d.rd f i)

/-- Write the shadow of an SH field. -/
def Device.wrSh (d : Device) (f : Field) (i v : Nat) : Device :=
  { d with regs := { d.regs with sh := sparsePut (f.key i) (v % 2 ^ f.width) d.regs.sh } }

/-- A one-bit field as a truth value. -/
def Device.on (d : Device) (f : Field) (i : Nat := 0) : Bool := d.rd f i != 0

/-- What the bus reads of a field (R6, Table 0.2): the shadow of SH, the copy of RC, 0 of WO. -/
def Device.busField (d : Device) (f : Field) (i : Nat) : Nat :=
  match f.acc with
  | .rcBG => (sparseGet (f.key i) d.regs.bgCopy).getD (f.reset i)
  | .rcD => (sparseGet (f.key i) d.regs.ddCopy).getD (f.reset i)
  | .rcS => (sparseGet (f.key i) d.regs.ssCopy).getD (f.reset i)
  | .sh => d.rdSh f i
  | .wo => 0
  | .rw => d.rd f i
  | .ro => d.rd f i
  | .w1c => d.rd f i
  | .wd => d.rd f i

/-- The fields of the word at address `a`, each with its register index. -/
def fieldsAt (a : Nat) : List (Field × Nat) :=
  allFields.filterMap (fun f => (f.index? a).map (fun i => (f, i)))

/-- The word the bus reads at a window address; an unassigned address reads 0 (R300). -/
def Device.busWord (d : Device) (a : Nat) : Nat :=
  (fieldsAt a).foldl (fun w p => w + d.busField p.1 p.2 * 2 ^ p.1.lsb) 0

/-- Add to a counting field, which wraps at its width (R307). -/
def Device.count (d : Device) (f : Field) (i : Nat := 0) (k : Nat := 1) : Device := d.wr f i (d.rd f i + k)

/-- Add 1 to a counting field that saturates at its width. -/
def Device.countSat (d : Device) (f : Field) (i : Nat := 0) : Device := d.wr f i (satInc f.width (d.rd f i))

/-- Forget every value, shadow and copy of the fields whose key is in a set: they hold their reset values again. -/
def Regs.drop (r : Regs) (p : Nat → Bool) : Regs :=
  let f (t : RegFile) : RegFile := t.filter (fun x => !p x.1)
  { val := f r.val, sh := f r.sh, bg := f r.bg, bgCopy := f r.bgCopy, dd := f r.dd, ddSamp := f r.ddSamp,
    ddCopy := f r.ddCopy, ss := f r.ss, ssSnap := f r.ssSnap, ssSamp := f r.ssSamp, ssCopy := f r.ssCopy }

/-- The word address a field key belongs to. -/
def keyAddr (k : Nat) : Nat := k / 32 * 4

/-- The FUNC reset of the registers at word addresses `lo` to `hi - 1`, but for the keys listed (R9, R330). -/
def Device.funcReset (d : Device) (lo hi : Nat) (keep : List Nat) : Device :=
  { d with regs := d.regs.drop (fun k => lo ≤ keyAddr k && keyAddr k < hi && !keep.contains k) }

/-! ### Axes and other lists of units -/

/-- Axis `n`. -/
def Device.ax (d : Device) (n : Nat) : Axis := nth Axis.reset n d.axes
/-- Change axis `n`. -/
def Device.modAx (d : Device) (n : Nat) (f : Axis → Axis) : Device := { d with axes := modNth f n d.axes }
/-- Tile link `t`. -/
def Device.tile (d : Device) (t : Nat) : Tile := nth Tile.reset t d.tiles
/-- Change tile link `t`. -/
def Device.modTile (d : Device) (t : Nat) (f : Tile → Tile) : Device := { d with tiles := modNth f t d.tiles }
/-- Change the scheduler. -/
def Device.modSched (d : Device) (f : Sched → Sched) : Device := { d with sched := f d.sched }
/-- Change the power machine. -/
def Device.modPower (d : Device) (f : Power → Power) : Device := { d with power := f d.power }
/-- Change the event fabric. -/
def Device.modEvents (d : Device) (f : Events → Events) : Device := { d with events := f d.events }
/-- Change the keeping machine. -/
def Device.modKeep (d : Device) (f : Keep → Keep) : Device := { d with keep := f d.keep }
/-- Change perception. -/
def Device.modPerc (d : Device) (f : Perc → Perc) : Device := { d with perc := f d.perc }
/-- Change the converter. -/
def Device.modAdc (d : Device) (f : Adc → Adc) : Device := { d with adc := f d.adc }
/-- Change the audio function. -/
def Device.modAudio (d : Device) (f : Audio → Audio) : Device := { d with audio := f d.audio }
/-- Change fusion. -/
def Device.modFusion (d : Device) (f : Fusion → Fusion) : Device := { d with fusion := f d.fusion }
/-- Change the USB port. -/
def Device.modUsb (d : Device) (f : Usb → Usb) : Device := { d with usb := f d.usb }
/-- Ball SCS_N takes a level (R242). -/
def Device.setScsN (d : Device) (level : Bool) : Device := { d with pads := { d.pads with scsN := level } }
/-- Change the cyclic port. -/
def Device.modCyclic (d : Device) (f : Cyclic → Cyclic) : Device := { d with cyclic := f d.cyclic }

/-- Apply an operation to each of the first `n` units in ascending order. -/
def Device.each (d : Device) (n : Nat) (f : Nat → Device → Device) : Device :=
  (List.range n).foldl (fun d i => f i d) d

/-- Apply an operation to each unit of a mask in ascending order. -/
def Device.eachIn (d : Device) (mask n : Nat) (f : Nat → Device → Device) : Device :=
  (bitsBelow mask n).foldl (fun d i => f i d) d

/-- Take a fresh number for a free value: the counter as it stands, and the device with it advanced. -/
def Device.draw (d : Device) : Nat × Device := (d.free, { d with free := d.free + 1 })

/-! ### Memory -/

/-- What an unlisted byte of SRAM or MRAM reads as. DESIGN CHOICE (log entry 1, unsafe): the spec gives no
content after power-up; the model takes 0. -/
def unlistedByte : Byte := 0

/-- A byte of memory lies in the SRAM window (16 MiB at 0x1000_0000, R632). -/
def inSram (a : Nat) : Bool := 0x10000000 ≤ a && a < 0x11000000
/-- A byte of memory lies in the MRAM window (8 MiB at 0x2000_0000, R498, R632). -/
def inMram (a : Nat) : Bool := 0x20000000 ≤ a && a < 0x20800000
/-- `n` bytes from `a` on lie in the SRAM window. -/
def sramSpan (a n : Nat) : Bool := 0x10000000 ≤ a && a + n ≤ 0x11000000

/-- Read one byte of memory. -/
def memByte (m : List Host.Cell) (a : Nat) : Byte := (sparseGet a m).getD unlistedByte

/-- Write one byte of memory, keeping the canonical form: an address that reads as unlisted is not listed. -/
def memPut (m : List Host.Cell) (a : Nat) (b : Byte) : List Host.Cell :=
  let m' := sparseErase a m
  if b = unlistedByte then m' else sparsePut a b m'

/-- Write bytes from an address on. -/
def memPutAll (m : List Host.Cell) (a : Nat) : List Byte → List Host.Cell
  | [] => m
  | b :: t => memPutAll (memPut m a b) (a + 1) t

/-- The canonical form of the memory: addresses strictly rising, no entry equal to what an unlisted one reads. -/
def memWf : List Host.Cell → Bool
  | [] => true
  | [(_, b)] => b != unlistedByte
  | (a, b) :: (a', b') :: t => b != unlistedByte && decide (a < a') && memWf ((a', b') :: t)

/-- Read one byte. -/
def Device.byte (d : Device) (a : Nat) : Byte := memByte d.mem a
/-- Read `n` bytes from `a` on. -/
def Device.bytes (d : Device) (a n : Nat) : List Byte := (List.range n).map (fun k => d.byte (a + k))
/-- Read a little-endian number of `n` bytes (R5). -/
def Device.ld (d : Device) (n a : Nat) : Nat := ofLe (d.bytes a n)
/-- Write bytes. -/
def Device.put (d : Device) (a : Nat) (bs : List Byte) : Device := { d with mem := memPutAll d.mem a bs }
/-- Write a little-endian number of `n` bytes (R5). -/
def Device.st (d : Device) (n a v : Nat) : Device := d.put a (leBytes n v)

/-! ### Time (R341) -/

/-- The 48-bit grain count. -/
def Device.grain (d : Device) : Nat := d.rd Reg.GRAIN_CNT_L.COUNT + 2 ^ 32 * d.rd Reg.GRAIN_CNT_H.COUNT

/-- Give the grain count a value (modulo 2^48). -/
def Device.setGrain (d : Device) (g : Nat) : Device :=
  (d.wr Reg.GRAIN_CNT_L.COUNT 0 g).wr Reg.GRAIN_CNT_H.COUNT 0 (g / 2 ^ 32)

/-- The loop-period count: counted while CD04 runs, derived from the grain count while it is stopped. -/
def Device.loops (d : Device) : Nat :=
  if d.power.motion then d.power.loops.toNat
  else (d.power.recLoops.toNat + (d.grain - d.power.recGrain) * 40000 / 32768) % 2 ^ 64

/-- The free-running CD03 cycle count (R79): 5000 cycles a loop period while the motion machine is clocked; at 25 MHz of
the bus clock in DOZE; at rest in GRAIN. -/
def Device.cd03 (d : Device) : Nat :=
  if d.power.motion || d.power.grain then d.power.cd03
  else d.power.cd03 + (d.grain - d.power.cdGrain) * 25000000 / 32768

/-- The CD03 count is taken up at a change of its rate. -/
def Device.markCd03 (d : Device) : Device :=
  let c := d.cd03
  d.modPower (fun p => { p with cd03 := c, cdGrain := d.grain })

/-- PTIME in µs, modulo 2^32. -/
def Device.ptime (d : Device) : Nat := d.loops * 25 % 2 ^ 32

/-- CD04 stops: record the count together with the grain count. -/
def Device.stopMotionClock (d : Device) : Device :=
  if d.power.motion then
    d.markCd03.modPower (fun p => { p with motion := false, recLoops := p.loops, recGrain := d.grain })
  else d

/-- CD04 starts: the motion clock takes up the derived count. -/
def Device.startMotionClock (d : Device) : Device :=
  if d.power.motion then d
  else
    let l := d.loops
    d.markCd03.modPower (fun p => { p with motion := true, loops := BitVec.ofNat 64 l, loopGrain := d.grain })

/-- The present power mode: 0 GRAIN, 1 DOZE, 2 RUN, 3 FULL. -/
def Device.mode (d : Device) : Nat := if d.power.grain then 0 else d.rd Reg.PWR_STAT.MODE

/-- The mode permits motion, tile links and the fast clocks: RUN or FULL (Table 1.5). -/
def Device.running (d : Device) : Bool := 2 ≤ d.mode

/-- The step down to GRAIN is under way (Table 11.2). -/
def Device.towardGrain (d : Device) : Bool :=
  d.power.goal == 0 && (d.power.step == .entering || d.power.step == .committed)

/-! ### Rings (R207, R208, R211) -/

/-- No ring is touched: in GRAIN, and in an excursion from it (R345, R350). -/
def Device.hostless (d : Device) : Bool := d.power.grain || d.power.excursion == some 0

/-- SIZE of ring `r` in entries. -/
def Device.ringSize (d : Device) (r : Nat) : Nat := 2 ^ d.rd Reg.RING_CFG.LOG2SIZE r
/-- Bytes of an entry of ring `r`. -/
def Device.ringEsize (d : Device) (r : Nat) : Nat := 16 * 2 ^ d.rd Reg.RING_CFG.ESIZE r
/-- Address of entry `i` of ring `r`. -/
def Device.ringAddr (d : Device) (r i : Nat) : Nat :=
  d.rd Reg.RING_BASE.BASE r * 64 + (i % d.ringSize r) * d.ringEsize r
/-- Entries in ring `r`: PI - CI modulo 2^32. -/
def Device.ringCount (d : Device) (r : Nat) : Nat :=
  (d.rd Reg.RING_PI.PI r + 2 ^ 32 - d.rd Reg.RING_CI.CI r) % 2 ^ 32
/-- Ring `r` is enabled. -/
def Device.ringOn (d : Device) (r : Nat) : Bool := d.on Reg.RING_CFG.EN r
/-- Ring `r` is enabled and has room for `k` more entries. -/
def Device.ringRoom (d : Device) (r k : Nat) : Bool :=
  !d.hostless && d.ringOn r && d.ringCount r + k ≤ d.ringSize r
/-- Ring `r` is enabled, has entries of `esz` bytes and room for `k` of them. -/
def Device.ringTakes (d : Device) (r esz k : Nat) : Bool := d.ringRoom r k && d.ringEsize r == esz

/-! ### Events (R548 to R553) -/

/-- The event numbers of Table 19.1; all others are reserved and never latch (R549). -/
def eventListed (e : Nat) : Bool :=
  [0, 4, 8, 9, 10, 12, 16, 17, 20, 32, 33, 34, 35, 48, 400, 401, 416, 417].contains e
  || (64 ≤ e && e ≤ 191) || (192 ≤ e && e ≤ 259) || (260 ≤ e && e ≤ 291) || (292 ≤ e && e ≤ 331)
  || (332 ≤ e && e ≤ 343) || (352 ≤ e && e ≤ 359) || (360 ≤ e && e ≤ 365) || (376 ≤ e && e ≤ 399)
  || (432 ≤ e && e ≤ 511)

/-- Routing byte of event `e` (R551); that of a reserved event reads 0 (R549). -/
def Device.route (d : Device) (e : Nat) : Nat :=
  if eventListed e then bitsOf (d.rd Reg.EV_ROUTE.ROUTE (e / 4)) (8 * (e % 4)) 8 else 0

/-- Event `e` is latched. -/
def Device.evLatched (d : Device) (e : Nat) : Bool := bitOf (d.rd Reg.EV_LAT.LAT (e / 32)) (e % 32)

/-- EVT_SUM over the events whose routing byte has bit `k` set (R261, R284). -/
def Device.evtSum (d : Device) (k : Nat) : Nat :=
  (List.range 16).foldl (fun s g =>
    if (List.range 32).any (fun j => d.evLatched (32 * g + j) && bitOf (d.route (32 * g + j)) k)
    then s + 2 ^ g else s) 0

/-- EV_SUM: bit g set while a latch of group g is set (Table 19.5). -/
def Device.refreshSum (d : Device) : Device :=
  d.wr Reg.EV_SUM.SUM 0
    ((List.range 16).foldl (fun s g => if d.rd Reg.EV_LAT.LAT g != 0 then s + 2 ^ g else s) 0)

/-- Whether any latched event is routed to INTn. -/
def Device.intWanted (d : Device) (n : Nat) : Bool :=
  (List.range 512).any (fun e => d.evLatched e && bitOf (d.route e) n)

/-- The activity of INT0 to INT3 (R552): by level, or the pulse of PULSE mode; inactive in GRAIN. -/
def Device.refreshInts (d : Device) : Device :=
  d.wr Reg.INT_STAT.ACTIVE 0
    ((List.range 4).foldl (fun s n =>
      let act :=
        if d.power.grain || !d.on Reg.INT_CFG.EN n then false
        else if d.on Reg.INT_CFG.PULSE n then (nth ⟨0, 0⟩ n d.events.ints).phase == 1
        else d.intWanted n
      if act then s + 2 ^ n else s) 0)

/-- The level at the ball INTn: active high with POL set, active low otherwise (R552). -/
def Device.intBall (d : Device) (n : Nat) : Bool := bitOf (d.rd Reg.INT_STAT.ACTIVE) n == d.on Reg.INT_CFG.POL n

/-- A latching routed to INTn in PULSE mode: a pulse at once, or one more to come, up to 255 (R552). -/
def IntGen.latched (g : IntGen) : IntGen :=
  if g.phase = 0 then { g with phase := 1 } else { g with count := satInc 8 g.count }

/-- Write one whole entry of a device-produced ring and advance PI (R206); no event of the advance. -/
def Device.ringPut (d : Device) (r : Nat) (bs : List Byte) : Device :=
  let pi := d.rd Reg.RING_PI.PI r
  let a := d.ringAddr r pi
  (if sramSpan a bs.length then d.put a bs else d).wr Reg.RING_PI.PI r (pi + 1)

/-- GRAIN_CNT as six little-endian bytes. -/
def Device.grainBytes (d : Device) : List Byte := leBytes 6 d.grain

/-- The event-log entry of R553, or its drop. A drop sets the EV_LOG_DROP latch without its event, so that a
full log cannot report itself for ever. -/
def Device.logEvent (d : Device) (e : Nat) : Device :=
  let entry := leBytes 2 e ++ leBytes 2 0 ++ leBytes 4 d.loops ++ d.grainBytes ++ leBytes 2 d.events.logSeq.toNat
  let d := d.modEvents (fun v => { v with logSeq := v.logSeq + 1 })
  if d.ringTakes 144 16 1 then d.ringPut 144 entry
  else
    (d.countSat Reg.LOG_STAT.EV_DROPS).wr Reg.FAULT_EVT.CAUSE 0 (setBitOf (d.rd Reg.FAULT_EVT.CAUSE) 3)

/-- Event `e` latches (R548): the latch, the log, the pulse outputs, the USB report. A latched event reports
nothing further. -/
def Device.latchEvent (d : Device) (e : Nat) : Device :=
  if !eventListed e || d.evLatched e then d
  else
    let rt := d.route e
    let d := d.wr Reg.EV_LAT.LAT (e / 32) (setBitOf (d.rd Reg.EV_LAT.LAT (e / 32)) (e % 32))
    let d := d.modEvents (fun v => { v with
      ints := v.ints.zipIdx.map (fun p =>
        if bitOf rt p.2 && d.on Reg.INT_CFG.EN p.2 && d.on Reg.INT_CFG.PULSE p.2 && !d.power.grain
        then p.1.latched else p.1) })
    let d := if bitOf rt 4 then d.modUsb (fun u => { u with ep2New := u.ep2New ++ [e] }) else d
    let d := if bitOf rt 6 then d.logEvent e else d
    (d.refreshSum).refreshInts

/-- Cause `bit` of a W1C field is set; if that changes it from 0 to 1 and its enable is set, `ev` latches
(R548). `en` is the value of the enable field. -/
def Device.raise (d : Device) (cause : Field) (i bit : Nat) (en : Bool) (ev : Nat) : Device :=
  if bitOf (d.rd cause i) bit then d
  else
    let d := d.wr cause i (setBitOf (d.rd cause i) bit)
    if en then d.latchEvent ev else d

/-- A drop of the event log reports itself: EV_LOG_DROP is a cause of FAULT_EVT like any other (R553, R548). -/
def Device.reportLogDrop (d d0 : Device) : Device :=
  if bitOf (d.rd Reg.FAULT_EVT.CAUSE) 3 && !bitOf (d0.rd Reg.FAULT_EVT.CAUSE) 3
      && bitOf (d.rd Reg.FAULT_EVT.EN) 3
  then d.latchEvent 17 else d

/-- `raise`, and the report of an event-log drop it may have caused. -/
def Device.cause (d : Device) (f : Field) (i bit : Nat) (en : Bool) (ev : Nat) : Device :=
  (d.raise f i bit en ev).reportLogDrop d

/-- Causes of AX_EVT, FOL_EVT and HOME_STAT raise EV(64 + 2n); those of CUR_EVT raise EV(65 + 2n). -/
def Device.axEvt (d : Device) (n bit : Nat) : Device :=
  d.cause Reg.AX_EVT.CAUSE n bit (bitOf (d.rd Reg.AX_EVT_EN.EN n) bit) (64 + 2 * n)
/-- A follow cause (R113). -/
def Device.folEvt (d : Device) (n bit : Nat) : Device :=
  d.cause Reg.FOL_EVT.CAUSE n bit (bitOf (d.rd Reg.FOL_EVT.EN n) bit) (64 + 2 * n)
/-- A homing cause (R169), `bit` counted from HOME_DONE. -/
def Device.homeEvt (d : Device) (n bit : Nat) : Device :=
  d.cause Reg.HOME_STAT.CAUSE n bit (bitOf (d.rd Reg.HOME_STAT.EN n) bit) (64 + 2 * n)
/-- A current cause (R146). -/
def Device.curEvt (d : Device) (n bit : Nat) : Device :=
  d.cause Reg.CUR_EVT.CAUSE n bit (bitOf (d.rd Reg.CUR_EVT.EN n) bit) (65 + 2 * n)
/-- A tile cause (R202): [6:0] raise EV(260 + 2t), [12:8] raise EV(261 + 2t). -/
def Device.tlEvt (d : Device) (t bit : Nat) : Device :=
  if bit < 8 then
    d.cause Reg.TL_EVT.CAUSE t bit (bitOf (d.rd Reg.TL_EVT.EN t) bit) (260 + 2 * t)
  else
    d.cause Reg.TL_EVT.CAUSE2 t (bit - 8) (bitOf (d.rd Reg.TL_EVT.EN t) bit) (261 + 2 * t)
/-- A mailbox cause (R239). -/
def Device.mbEvt (d : Device) (bit : Nat) : Device :=
  d.cause Reg.MB_EVT.CAUSE 0 bit (bitOf (d.rd Reg.MB_EVT.EN) bit) 48
/-- A cause of REG_EVT (R333). -/
def Device.regEvt (d : Device) (bit : Nat) : Device :=
  let f := if bit = 0 then Reg.REG_EVT.WD_IGNORED else Reg.REG_EVT.RESTAGED
  d.cause f 0 0 (bitOf (d.rd Reg.REG_EVT.EN) bit) 4
/-- A cyclic-port cause (R270): [4:0] raise EV032, [10:8] raise EV033. -/
def Device.cycEvt (d : Device) (bit : Nat) : Device :=
  if bit < 8 then d.cause Reg.CYC_EVT.CAUSE 0 bit (bitOf (d.rd Reg.CYC_EVT.EN) bit) 32
  else d.cause Reg.CYC_EVT.CAUSE2 0 (bit - 8) (bitOf (d.rd Reg.CYC_EVT.EN) bit) 33
/-- A USB cause (R297): [7:0] raise EV034, [13:8] raise EV035. -/
def Device.usbEvt (d : Device) (bit : Nat) : Device :=
  d.cause Reg.USB_EVT.CAUSE 0 bit (bitOf (d.rd Reg.USB_EVT.EN) bit) (if bit < 8 then 34 else 35)
/-- A power cause (R359): [3:0] raise EV008, [7:4] raise EV009. -/
def Device.pwrEvt (d : Device) (bit : Nat) : Device :=
  d.cause Reg.PWR_EVT.CAUSE 0 bit (bitOf (d.rd Reg.PWR_EVT.EN) bit) (if bit < 4 then 8 else 9)
/-- A converter cause (R387). -/
def Device.adcEvt (d : Device) (bit : Nat) : Device :=
  d.cause Reg.ADC_EVT.CAUSE 0 bit (bitOf (d.rd Reg.ADC_EVT.EN) bit) 12
/-- A channel cause (R388). -/
def Device.chEvt (d : Device) (n bit : Nat) : Device :=
  d.cause Reg.CH_EVT.CAUSE n bit (bitOf (d.rd Reg.CH_EVT.EN n) bit) (292 + n)
/-- A camera cause (R426). -/
def Device.camEvt (d : Device) (c bit : Nat) : Device :=
  d.cause Reg.CAM_EVT.CAUSE c bit (bitOf (d.rd Reg.CAM_EVT.EN c) bit) (332 + c)
/-- A block-matcher cause (R427). -/
def Device.bmEvt (d : Device) (bit : Nat) : Device :=
  d.cause Reg.BM_EVT.CAUSE 0 bit (bitOf (d.rd Reg.BM_EVT.EN) bit) (if bit < 2 then 336 else 337)
/-- A corner-detector cause (R427). -/
def Device.cdEvt (d : Device) (k bit : Nat) : Device :=
  d.cause Reg.CD_EVT.CAUSE k bit (bitOf (d.rd Reg.CD_EVT.EN k) bit) 335
/-- A neural cause (R427): [2:0] and [6] raise EV338, [5:3] raise EV339. -/
def Device.neEvt (d : Device) (bit : Nat) : Device :=
  d.cause Reg.NE_EVT.CAUSE 0 bit (bitOf (d.rd Reg.NE_EVT.EN) bit)
    (if bit < 3 || bit == 6 then 338 else 339)
/-- An audio cause (Table 14.4). -/
def Device.audEvt (d : Device) (bit : Nat) : Device :=
  d.cause Reg.AUD_EVT.CAUSE 0 bit (bitOf (d.rd Reg.AUD_EVT.EN) bit)
    ([352, 353, 354, 355, 356, 357, 359, 358, 358].getD bit 0)
/-- A fusion cause (R471). -/
def Device.fusEvt (d : Device) (bit : Nat) : Device :=
  d.cause Reg.FUS_EVT.CAUSE 0 bit (bitOf (d.rd Reg.FUS_EVT.EN) bit)
    ([360, 360, 360, 360, 361, 362, 363, 364].getD bit 0)
/-- A sensor cause (R496): EV376 for the die, EV(377 + t) for tile t, EV393 for an external sensor. -/
def Device.thEvt (d : Device) (x bit : Nat) : Device :=
  d.cause Reg.TH_EVT.CAUSE x bit (bitOf (d.rd Reg.TH_EVT.EN x) bit) (if x < 17 then 376 + x else 393)
/-- A fan cause (R496). -/
def Device.fanEvt (d : Device) (f bit : Nat) : Device :=
  d.cause Reg.FAN_EVT.CAUSE f bit (bitOf (d.rd Reg.FAN_EVT.EN f) bit) (394 + f)
/-- A store cause (R519): [3:0] raise EV400, [7:4] raise EV401. -/
def Device.storeEvt (d : Device) (bit : Nat) : Device :=
  d.cause Reg.STORE_EVT.CAUSE 0 bit (bitOf (d.rd Reg.STORE_EVT.EN) bit) (if bit < 4 then 400 else 401)
/-- An image cause (R546): [3:0] raise EV416, [7:4] raise EV417. -/
def Device.imgEvt (d : Device) (bit : Nat) : Device :=
  d.cause Reg.IMG_EVT.CAUSE 0 bit (bitOf (d.rd Reg.IMG_EVT.EN) bit) (if bit < 4 then 416 else 417)
/-- A checker cause (R575). -/
def Device.chkEvt (d : Device) (bit : Nat) : Device :=
  d.cause Reg.CHK_EVT.CAUSE 0 bit (bitOf (d.rd Reg.CHK_EVT.EN) bit) 16
/-- A fault cause (R575). -/
def Device.faultEvt (d : Device) (bit : Nat) : Device :=
  d.cause Reg.FAULT_EVT.CAUSE 0 bit (bitOf (d.rd Reg.FAULT_EVT.EN) bit) 17
/-- A system cause (R575). -/
def Device.sysEvt (d : Device) (bit : Nat) : Device :=
  d.cause Reg.SYS_EVT.CAUSE 0 bit (bitOf (d.rd Reg.SYS_EVT.EN) bit) 0
/-- An engine cause (R575). -/
def Device.engEvt (d : Device) (e bit : Nat) : Device :=
  d.cause Reg.ENG_EVT.CAUSE e bit (bitOf (d.rd Reg.ENG_EVT.EN e) bit) (192 + e)
/-- An encoder cause (R115): 0 PHASE_ERR, 1 INDEX_SEEN. -/
def Device.qeEvt (d : Device) (k bit : Nat) : Device :=
  let f := if bit = 0 then Reg.QE_STAT.PHASE_ERR else Reg.QE_STAT.INDEX_SEEN
  d.cause f k 0 (bitOf (d.rd Reg.QE_STAT.EN k) bit) 20
/-- The event of an index advance of ring `r` < 80 (R211), or of job completions RG113 to RG119 (R418). -/
def Device.ringEvt (d : Device) (r : Nat) : Device := if r < 80 then d.latchEvent (432 + r) else d

/-- Produce one entry of a ring: write it whole, publish it, raise the ring's event (R206, R211). -/
def Device.ringPush (d : Device) (r : Nat) (bs : List Byte) : Device := (d.ringPut r bs).ringEvt r

/-- Produce several entries. -/
def Device.ringPushAll (d : Device) (r : Nat) (l : List (List Byte)) : Device :=
  l.foldl (fun d bs => d.ringPush r bs) d

/-! ### The console (R294 to R296) -/

/-- The bytes of an ASCII text. -/
def ascii (t : String) : List Byte := t.toList.map (fun c => BitVec.ofNat 8 c.toNat)

/-- The notice of lines dropped. -/
def dropNotice (n : Nat) : List Byte :=
  if n = 0 then [] else ascii "~dropped " ++ ascii (toString n) ++ [0x0D, 0x0A]

/-- A line enters the buffer whole or is dropped (R296); what the console has sent meanwhile is a free value. In
GRAIN the console is off. -/
def Device.sayLine (d : Device) (line : List Byte) : Device :=
  if d.power.grain || d.power.devrst || d.power.por then d
  else
    let (k, d) := d.draw
    let rest := d.console.out.drop (Config.consoleSent k)
    let text := dropNotice d.console.dropped ++ line ++ [0x0D, 0x0A]
    if rest.length + text.length ≤ 4096 then { d with console := { d.console with out := rest ++ text, dropped := 0 } }
    else
      { ((d.count Reg.CON_DROPS.COUNT).usbEvt 13) with
        console := { d.console with out := rest, dropped := d.console.dropped + 1 } }

/-- The ASCII characters of a text that a line may hold (R295). -/
def printable (text : List Byte) : List Byte := text.filter (fun (b : Byte) => decide (0x20 ≤ b.toNat) && decide (b.toNat < 0x7F))

/-- The device prints a message of its own (R295), and the retained log takes it; its wording is free. -/
def Device.say (d : Device) : Device :=
  let (k, d) := d.draw
  let line := printable (Config.consoleText [] [] k)
  let d := { d with console := { d.console with log := (d.console.log ++ [line]).drop (d.console.log.length - 63) } }
  d.sayLine line

/-! ### Scruples (R554 to R559) -/

/-- Table 19.2: the classes marked fixed. -/
def scrFixed (c : Nat) : Bool := [0x01, 0x03, 0x06, 0x07, 0x0A, 0x0E, 0x13, 0x14, 0x16, 0x18].contains c

/-- N of class `c`: 1 for a fixed class (R554). -/
def Device.scrN (d : Device) (c : Nat) : Nat := if scrFixed c then 1 else d.rd Reg.SCR_CFG.N c
/-- W of class `c` in ms: 0 for a fixed class. -/
def Device.scrW (d : Device) (c : Nat) : Nat := if scrFixed c then 0 else d.rd Reg.SCR_CFG.W c
/-- W of class `c` in grain periods, rounded down (R555). -/
def Device.scrWindow (d : Device) (c : Nat) : Nat := d.scrW c * 32768 / 1000

/-- The unit of a class, as it stands. -/
def Device.scrUnit (d : Device) (c u : Nat) : ScrUnit :=
  (d.events.units.find? (fun x => x.cls == c && x.unit == u)).getD ⟨c, u, [], false, false, false⟩

/-- Put a unit back. -/
def Device.setScrUnit (d : Device) (x : ScrUnit) : Device :=
  d.modEvents (fun v => { v with
    units := x :: v.units.filter (fun y => !(y.cls == x.cls && y.unit == x.unit)) })

/-- Occurrences of a unit within the last W (R555). -/
def Device.scrCount (d : Device) (x : ScrUnit) : Nat :=
  (x.times.filter (fun t => d.grain - t < max 1 (d.scrWindow x.cls))).length

/-- SCR_STAT of class `c`: units latched, and units with a count above 0. -/
def Device.refreshScr (d : Device) (c : Nat) : Device :=
  let us := d.events.units.filter (fun x => x.cls == c)
  (d.wr Reg.SCR_STAT.LASTING c (us.filter (fun x => x.latched)).length).wr Reg.SCR_STAT.ACTIVE c
    (us.filter (fun x => 0 < d.scrCount x)).length

/-- The fault-log entry of R559, or its drop. -/
def Device.logScruple (d : Device) (c u count flags : Nat) : Device :=
  let entry := leBytes 1 c ++ leBytes 1 u ++ leBytes 1 (min count 255) ++ leBytes 1 flags ++ leBytes 4 0
    ++ d.grainBytes ++ leBytes 2 d.events.scrSeq.toNat
  let d := d.modEvents (fun v => { v with scrSeq := v.scrSeq + 1 })
  if d.ringTakes 145 16 1 then d.ringPush 145 entry
  else (d.countSat Reg.LOG_STAT.SCR_DROPS).faultEvt 2

/-- An occurrence of class `c` on unit `u` (R555, R557, R559). The occurrence that brings the count to N marks the
unit due; SCRUPLE_LASTING then applies the lasting effect (R556). -/
def Device.occur (d : Device) (c u : Nat) : Device :=
  let x := d.scrUnit c u
  if x.latched || x.due then d.logScruple c u (d.scrCount x) 4
  else
    let x := { x with times := (d.grain :: x.times).take 256 }
    let n := d.scrCount x
    let full := d.scrN c ≤ n
    let d := (d.setScrUnit { x with due := full }).refreshScr c
    d.logScruple c u n (if full then 1 else 0)

/-- A unit's latch is cleared (R557, R558): its count restarts, LATCH_CLEARED is set, the log tells it. -/
def Device.clearLatch (d : Device) (c u : Nat) : Device :=
  let x := d.scrUnit c u
  if x.latched then
    let d := (d.setScrUnit ⟨c, u, [], false, false, false⟩).refreshScr c
    (d.faultEvt 1).logScruple c u 0 2
  else if x.times.isEmpty && !x.due then d
  else (d.setScrUnit ⟨c, u, [], false, false, false⟩).refreshScr c

/-- Class `c` is lasting on unit `u`. -/
def Device.lasting (d : Device) (c u : Nat) : Bool := (d.scrUnit c u).latched

/-- The event number of a unit of a class, for the LASTING record entry (R556, Table 19.1). -/
def unitEvent (c u : Nat) : Nat :=
  if c = 0x00 then 192 + u
  else if c = 0x01 then 16
  else if c = 0x02 || c = 0x03 || c = 0x07 then 65 + 2 * u
  else if c = 0x04 || c = 0x05 || c = 0x06 then 260 + 2 * u
  else if c = 0x08 then 261 + 2 * u
  else if c = 0x09 || c = 0x0A then 33
  else if c = 0x0B then 332 + u
  else if c = 0x0C then 337
  else if c = 0x0D then 339
  else if c = 0x0E then 357
  else if c = 0x0F then 355
  else if 0x10 ≤ c && c ≤ 0x13 then (if u < 17 then 376 + u else 393)
  else if 0x14 ≤ c && c ≤ 0x16 then 394 + u
  else if c = 0x17 then 400
  else 401

/-! ### The inspection record's queue (R511) -/

/-- The queue registers follow the queue. -/
def Device.refreshQueue (d : Device) : Device := d.wr Reg.REC_QUEUE.DEPTH 0 d.keep.queue.length

/-- Record entries whose cause the console prints too: boot, lasting faults, retirements, hard faults (R295). -/
def printed (type : Nat) : Bool := type == 0x0001 || (0x0030 ≤ type && type ≤ 0x0032)

/-- A cause of the record is queued with its grain count; a full queue loses and counts it. -/
def Device.record (d : Device) (type : Nat) (data : List Byte) (task : Option Nat := none) : Device :=
  let d := if printed type then d.say else d
  if d.keep.queue.length < 32 then
    (d.modKeep (fun k => { k with queue := k.queue ++ [⟨type, d.grain, data, task⟩] })).refreshQueue
  else (d.countSat Reg.REC_QUEUE.LOST).storeEvt 6

end Sys2Proof.Machine
end

