-- ==== Sys2Proof/Machine/Operands.lean ====
section
/-! DEFINITION. Operand forms: command entries and completions (chapter 07), chain links (chapter 02), the
opcodes with their parameter checks, and the shared address judgements. -/
namespace Sys2Proof
open Machine

/-- The `n`-byte little-endian parameter at offset +k of an entry (R212). -/
def Entry.p (e : Entry) (n k : Nat) : Nat := bitsOf e.params.toNat (8 * k) (8 * n)

/-- Parameter bit `b` of byte +k. -/
def Entry.flag (e : Entry) (k b : Nat) : Bool := bitOf (e.p 1 k) b

namespace Machine

/-- Completion status codes (R236, Table 7.7). -/
inductive Status where
  | ok | cancelled | aborted | expired | busyMoving | notHomed | badOpcode | badParam | noTag
  | restrictedMode | storeFailed | storeInterrupted | functionDown | deferred
deriving DecidableEq, Repr

/-- The code of a status. -/
def Status.code : Status → Nat
  | .ok => 0x0000
  | .cancelled => 0x0001
  | .aborted => 0x0002
  | .expired => 0x0003
  | .busyMoving => 0x0010
  | .notHomed => 0x0011
  | .badOpcode => 0x0020
  | .badParam => 0x0021
  | .noTag => 0x0022
  | .restrictedMode => 0x0030
  | .storeFailed => 0x0040
  | .storeInterrupted => 0x0041
  | .functionDown => 0x0050
  | .deferred => 0x0060

/-- NO_EFFECT: always with the codes Table 7.7 marks so, never where it says no, else as told (R214). -/
def Status.noEffect (s : Status) (told : Bool) : Bool :=
  match s with
  | .ok => told
  | .aborted => false
  | .storeFailed => false
  | .storeInterrupted => false
  | .deferred => false
  | .functionDown => told
  | .cancelled => true
  | .expired => true
  | .busyMoving => true
  | .notHomed => true
  | .badOpcode => true
  | .badParam => true
  | .noTag => true
  | .restrictedMode => true

/-- A list of bytes padded with 0 or cut to `n` bytes. -/
def fit (n : Nat) (bs : List Byte) : List Byte := (bs ++ List.replicate n 0).take n

/-- The 32 bytes of a completion entry (R213, Table 7.4). -/
def cplBytes (op tag cflags status index user : Nat) (result : List Byte) : List Byte :=
  leBytes 2 op ++ leBytes 1 tag ++ leBytes 1 cflags ++ leBytes 2 status ++ leBytes 2 index
    ++ leBytes 4 user ++ fit 20 result

/-- The 64 bytes of a command entry (R212, Table 7.3). -/
def entryBytes (op : Nat) (e : Entry) : List Byte :=
  leBytes 2 op ++ [e.tag, e.flags] ++ leBytes 2 e.wait.toNat ++ leBytes 2 e.onOk.toNat
    ++ leBytes 2 e.waitTmo.toNat ++ leBytes 2 0 ++ leBytes 4 e.user.toNat ++ leBytes 48 e.params.toNat

/-- The opcode and the entry that 64 bytes spell (R212), for pair `q` at ring index `i`. -/
def parseEntry (q : Fin 8) (i : Nat) (bs : List Byte) : Nat × Entry :=
  (ofLe (bs.take 2),
   { pair := q
     index := BitVec.ofNat 32 i
     tag := nth 0 2 bs
     flags := nth 0 3 bs
     wait := BitVec.ofNat 16 (ofLe ((bs.drop 4).take 2))
     onOk := BitVec.ofNat 16 (ofLe ((bs.drop 6).take 2))
     waitTmo := BitVec.ofNat 16 (ofLe ((bs.drop 8).take 2))
     user := BitVec.ofNat 32 (ofLe ((bs.drop 12).take 4))
     params := BitVec.ofNat 384 (ofLe ((bs.drop 16).take 48)) })

/-- The opcodes the chapters define (R215). -/
def opKnown (op : Nat) : Bool :=
  (0x0101 ≤ op && op ≤ 0x0108) || (0x0110 ≤ op && op ≤ 0x0111) || (0x0201 ≤ op && op ≤ 0x0207)
  || (0x0210 ≤ op && op ≤ 0x0213) || (0x0301 ≤ op && op ≤ 0x0305) || (0x0401 ≤ op && op ≤ 0x0403)
  || (0x0501 ≤ op && op ≤ 0x0505) || (0x0601 ≤ op && op ≤ 0x0604) || (0x0701 ≤ op && op ≤ 0x0707)
  || (0x0801 ≤ op && op ≤ 0x0803) || (0x0901 ≤ op && op ≤ 0x0904) || (0x0A01 ≤ op && op ≤ 0x0A06)
  || (0x0B01 ≤ op && op ≤ 0x0B07) || (0x0C01 ≤ op && op ≤ 0x0C07) || (0x0D01 ≤ op && op ≤ 0x0D09)

/-- The commands that work in RESTRICTED mode (R531, Table 18.4). -/
def opRestricted (op : Nat) : Bool :=
  [0x0101, 0x0102, 0x0103, 0x0104, 0x0105, 0x0106, 0x0108, 0x0111, 0x0B02, 0x0B06,
   0x0C01, 0x0C02, 0x0C03, 0x0C04, 0x0C05, 0x0C07].contains op || (0x0D01 ≤ op && op ≤ 0x0D09)

/-- Reserved FLAGS, WAIT and ON_OK bits are 0, and an enabled ON_OK names FLG192 to FLG255 (R215, R223). -/
def headOk (e : Entry) : Bool :=
  bitsOf e.flags.toNat 2 6 == 0 && bitsOf e.wait.toNat 9 6 == 0 && bitsOf e.onOk.toNat 9 6 == 0
  && (!bitOf e.onOk.toNat 15 || 192 ≤ bitsOf e.onOk.toNat 0 8)

/-- Bytes `a` to `a + n - 1` lie in the SRAM window and `a` is aligned. -/
def sramOk (a n align : Nat) : Bool := a % align == 0 && sramSpan a n

/-- Reserved parameter bits and the parameter ranges of the command tables (R635 item 6): Tables 7.8, 11.7, 2.5,
3.4, 4.4, 5.4, 6.10, 12.4a, 13.9, 16.5, 17.8, 18.6 and 19.4. What a table ties to the device's state is judged
by the command itself. -/
def paramsOk (op : Nat) (e : Entry) : Bool :=
  if op = 0x0103 then e.p 1 0 ≤ 1 && e.p 1 2 ≤ 7
  else if op = 0x0105 then e.p 1 0 ≤ 1
  else if op = 0x0107 then (e.p 8 0 &&& e.p 8 8) == 0
  else if op = 0x0110 then 1 ≤ e.p 1 0 && e.p 1 0 ≤ 4 && e.p 1 1 ≤ 1
  else if op = 0x0201 then e.p 1 0 < 64 && e.p 1 2 < 16
  else if op = 0x0204 then
    e.p 1 1 ≤ 99 && 1 ≤ e.p 1 2 && e.p 1 1 + e.p 1 2 ≤ 100 && sramOk (e.p 4 4) (16 * e.p 1 2) 16
  else if op = 0x0205 then e.p 1 1 < 64
  else if op = 0x0206 || op = 0x0211 || op = 0x0213 || op = 0x0302 then e.p 1 0 < 64
  else if op = 0x0305 then e.p 1 0 < 64 && 100 ≤ e.p 2 1
  else if op = 0x0210 || op = 0x0401 || op = 0x0402 then e.p 1 0 < 64 && e.p 1 1 < 4
  else if op = 0x0212 then 1 ≤ e.p 1 0 && e.p 1 0 ≤ 7 && sramOk (e.p 4 4) 2048 16
  else if op = 0x0301 then e.p 1 12 < 8
  else if op = 0x0303 then e.p 1 0 < 64 || e.p 1 0 == 0xFF
  else if 0x0501 ≤ op && op ≤ 0x0504 then e.p 2 0 != 0
  else if op = 0x0505 then e.p 1 0 < 16
  else if op = 0x0601 || op = 0x0602 then e.p 1 0 < 40
  else if op = 0x0603 then e.p 1 5 < 4 && e.p 2 6 == 0
  else if op = 0x0701 then e.p 1 0 < 8 && e.p 4 4 % 64 == 0
  else if op = 0x0702 then e.p 1 0 < 8
  else if op = 0x0A01 then e.p 1 0 ≤ 24
  else if op = 0x0A02 || op = 0x0A06 then e.p 1 0 ≤ 5
  else if op = 0x0B01 then
    e.p 1 0 ≤ 1 && (!e.flag 1 0 || (e.p 4 4 % 64 == 0 && e.p 4 8 % 64 == 0
      && e.p 4 8 ≤ (if e.p 1 0 = 0 then 196608 else 32768) && sramSpan (e.p 4 4) (e.p 4 8)))
  else if op = 0x0B02 || op = 0x0B04 then e.p 1 0 ≤ 1
  else if op = 0x0B06 then sramOk (e.p 4 8) 160 64
  else if op = 0x0C01 then e.p 1 0 ≤ 2
  else if op = 0x0C02 then
    e.p 1 0 ≤ 1 && e.p 1 1 ≤ 2 && e.p 4 4 % 64 == 0 && e.p 4 12 % 64 == 0 && 64 ≤ e.p 4 12
      && e.p 4 12 ≤ (if e.p 1 1 = 0 then 65536 else 1024)
  else if op = 0x0C03 || op = 0x0C04 then e.p 1 0 ≤ 1
  else if op = 0x0C07 then sramOk (e.p 4 0) 2048 64
  else if op = 0x0D01 || op = 0x0D02 then e.p 1 0 ≤ 15
  else if op = 0x0D03 then
    1 ≤ e.p 2 2 && e.p 2 2 ≤ 512 && e.p 2 0 + e.p 2 2 ≤ 512 && e.p 1 4 < 128
  else if op = 0x0D04 then e.p 1 0 ≤ 0x18 && e.p 1 1 != 0
  else if op = 0x0D08 || op = 0x0D09 then e.p 1 0 ≤ 0x18
  else true

/-! ### Quotients -/

/-- num / den, rounded one way or the other where it is not whole: for where the spec states no rounding. -/
def nearQuot (num : Int) (den : Nat) : Int :=
  divF num den + (if num % (den : Int) = 0 then 0 else if Config.roundsUp num den then 1 else 0)

/-! ### Chain links (R33, R34, Table 2.2) -/

/-- A link as it lies in chain memory. -/
structure Link where
  duration : Nat
  flags : Nat
  endVel : Int
  delta : Int
  reserved : Nat
deriving DecidableEq, Repr

/-- Address of link `m` of chain `c` (R33). -/
def linkAddr (c m : Nat) : Nat := 0x10080000 + c * 0x640 + m * 0x10

/-- The link that 16 bytes spell (R34). -/
def parseLink (bs : List Byte) : Link where
  duration := ofLe (bs.take 3)
  flags := (nth 0 3 bs).toNat
  endVel := sext 32 (ofLe ((bs.drop 4).take 4))
  delta := sext 40 (ofLe ((bs.drop 8).take 5))
  reserved := ofLe ((bs.drop 13).take 3)

/-- The 16 bytes of a link (R34). -/
def linkBytes (l : Link) : List Byte :=
  leBytes 3 l.duration ++ leBytes 1 l.flags ++ leBytes 4 (toBits 32 l.endVel) ++ leBytes 5 (toBits 40 l.delta)
    ++ leBytes 3 l.reserved

/-- A link that the format can hold: every field within its width, reserved bytes within theirs. -/
def Link.wf (l : Link) : Bool :=
  l.duration < 2 ^ 24 && l.flags < 256 && l.reserved < 2 ^ 24
  && (-(2 ^ 31 : Int) ≤ l.endVel && l.endVel < 2 ^ 31) && (-(2 ^ 39 : Int) ≤ l.delta && l.delta < 2 ^ 39)

/-- Unbounded link (R34, R38). -/
def Link.unbounded (l : Link) : Bool := l.duration == 0xFFFFFF
/-- LAST flag. -/
def Link.last (l : Link) : Bool := bitOf l.flags 0

/-- Link `m` of chain `c`, mirrored if asked: DELTA and END_VEL negated as mathematical values (R69). -/
def Device.link (d : Device) (c m : Nat) (mirror : Bool := false) : Link :=
  let l := parseLink (d.bytes (linkAddr c m) 16)
  if mirror then { l with endVel := -l.endVel, delta := -l.delta } else l

/-- All 100 link slots of a chain. -/
def Device.links (d : Device) (c : Nat) (mirror : Bool := false) : List Link :=
  (List.range 100).map (fun m => d.link c m mirror)

end Machine
end Sys2Proof
end

