-- ==== Sys2Proof/Machine/Angle.lean ====
section
/-! DEFINITION. Arc tangents in counts of 4096 per cycle (R120), exact but for the rounding that the spec leaves open:
sines and cosines of whole counts in fixed point, and the whole count below an angle found by comparing slopes. -/
namespace Sys2Proof.Machine

/-- Fraction bits of the fixed point. -/
def fxBits : Nat := 160

/-- The sum 1/m - 1/(3 m^3) + 1/(5 m^5) - … in fixed point, `k` terms: the arc tangent of 1/m. -/
def fxInvTan (m : Nat) : Nat → Nat → Nat → Int
  | 0, _, _ => 0
  | k + 1, odd, p => (p / odd : Nat) - fxInvTan m k (odd + 2) (p / (m * m))

/-- π in fixed point, as 16 atan(1/5) - 4 atan(1/239). -/
def fxPi : Int := 16 * fxInvTan 5 72 1 (2 ^ fxBits / 5) - 4 * fxInvTan 239 24 1 (2 ^ fxBits / 239)

/-- The series x^s/s! - x^(s+2)/(s+2)! + … in fixed point: `t` is its first term, `x2` the square of x. -/
def fxSeries (x2 : Int) : Nat → Nat → Int → Int
  | 0, _, t => t
  | k + 1, s, t => t - fxSeries x2 k (s + 2) (t * x2 / 2 ^ fxBits / ((s + 1) * (s + 2)))

/-- Sine of `k` counts of 4096 per cycle. -/
def fxSin (k : Nat) : Int :=
  let x := fxPi * k / 2048
  fxSeries (x * x / 2 ^ fxBits) 24 1 x

/-- Cosine of `k` counts. -/
def fxCos (k : Nat) : Int :=
  let x := fxPi * k / 2048
  fxSeries (x * x / 2 ^ fxBits) 24 0 (2 ^ fxBits)

/-- The greatest count not above the angle of slope b/a in the first quadrant, from bit `j - 1` down. -/
def slopeCount (a b : Nat) : Nat → Nat → Nat
  | 0, k => k
  | j + 1, k => slopeCount a b j (if fxSin (k + 2 ^ j) * a ≤ fxCos (k + 2 ^ j) * b then k + 2 ^ j else k)

/-- The angle of slope b/a in the first quadrant: the whole count not above it, and whether it is that count exactly. Only
0, 45 and 90 degrees have a rational slope and a whole count. -/
def quarterAngle (a b : Nat) : Nat × Bool :=
  if b = 0 then (0, true) else if a = 0 then (1024, true) else if a = b then (512, true)
  else (slopeCount a b 10 0, false)

/-- `m` counts less an angle: the whole count not above it, and whether it is exact. -/
def angleFrom (m : Nat) (q : Nat × Bool) : Nat × Bool := (if q.2 then m - q.1 else m - q.1 - 1, q.2)

/-- atan2(y, x) in counts from 0 to 4096: the whole count not above it, and whether it is exact. The angle of (0, 0), which
the spec does not give, is free. -/
def atan2 (y x : Int) : Nat × Bool :=
  let q := quarterAngle x.natAbs y.natAbs
  if x = 0 ∧ y = 0 then (Config.angleOfZero.toNat, true)
  else if 0 ≤ y then (if 0 ≤ x then q else angleFrom 2048 q)
  else if x < 0 then (2048 + q.1, q.2) else angleFrom 4096 q

/-- The filter's phase lag atan(ωe × 387.5 µs) in counts, signed as VEL: ωe is 2π VEL 10^4 / 2^28 rad/s (R120, Table 2.1).
The whole count not above it, and whether it is exact. -/
def filterLag (vel : Int) : Int × Bool :=
  let q := quarterAngle (2 ^ (fxBits + 30)) (fxPi.toNat * 31 * vel.natAbs)
  if vel = 0 then (0, true) else if vel < 0 then (-(q.1 + 1 : Int), false) else (q.1, false)

/-- The observed rotor angle θr of R120 in counts, from the two estimates and VEL. The spec states no rounding: of each term
that is not whole the whole count below is taken, and what the rounding adds is free (log entry 12). -/
def rotorAngle (eA eB vel : Int) : Int :=
  let a := atan2 (-eA) eB
  let l := filterLag vel
  let loose := (if a.2 then 0 else 1) + (if l.2 then 0 else 1)
  a.1 + (if vel < 0 then 2048 else 0) + l.1 + min loose (Config.angleCarry eA eB vel).val

end Sys2Proof.Machine
end

