-- ==== Sys2Proof/Machine/Sched.lean ====
section
/-! DEFINITION. Queue pairs, tasks and completions (chapter 07). -/
namespace Sys2Proof.Machine

/-! ### Tasks and flags -/

/-- The task that holds a tag. -/
def Device.task? (d : Device) (tag : Nat) : Option Task := d.sched.tasks.find? (fun t => t.tag == tag)

/-- Change the task that holds a tag. -/
def Device.modTask (d : Device) (tag : Nat) (f : Task → Task) : Device :=
  d.modSched (fun s => { s with tasks := s.tasks.map (fun t => if t.tag = tag then f t else t) })

/-- An entry as the task of a tag carries it; a task always exists where the meanings ask. -/
def Device.entryOf (d : Device) (tag : Nat) : Entry :=
  ((d.task? tag).map (·.entry)).getD ⟨0, 0, 0, 0, 0, 0, 0, 0, 0⟩

/-- Mask of the tags in flight (R217). -/
def Device.tagMask (d : Device) : Nat := d.sched.tasks.foldl (fun m t => m ||| 2 ^ t.tag) 0

/-- FLG192 to FLG255 as the register holds them (R239). -/
def Device.taskFlags (d : Device) : Nat := d.rd Reg.TASK_FLAGS.FLAGS 0 + 2 ^ 32 * d.rd Reg.TASK_FLAGS.FLAGS 1

/-- Write all task flags. -/
def Device.setTaskFlags (d : Device) (v : Nat) : Device :=
  (d.wr Reg.TASK_FLAGS.FLAGS 0 v).wr Reg.TASK_FLAGS.FLAGS 1 (v / 2 ^ 32)

/-- Level of flag `f` as a waiting task sees it: task flags as step 2 of the pass applied them, engine flags by
their level, unassigned flags 0 (R222, R397, R428). -/
def Device.flagLevel (d : Device) (f : Nat) : Bool :=
  if f < 64 then d.on Reg.FLG_STAT.LEVEL f
  else if f < 192 then false
  else bitOf d.sched.seenFlags (f - 192)

/-- The WAIT condition of an entry holds, or there is none (R222). -/
def Device.waitHolds (d : Device) (e : Entry) : Bool :=
  !bitOf e.wait.toNat 15 || d.flagLevel (bitsOf e.wait.toNat 0 8) == bitOf e.wait.toNat 8

/-- The tags pair `q` owns (R216). -/
def Device.ownTags (d : Device) (q : Nat) : List Nat :=
  (List.range (d.rd Reg.QP_CTRL.TAG_CNT q)).map (fun k => d.rd Reg.QP_CTRL.TAG_BASE q + k)

/-- The lowest free tag of pair `q` (R218). -/
def Device.freeTag (d : Device) (q : Nat) : Option Nat :=
  (d.ownTags q).find? (fun t => (d.task? t).isNone && t < 128)

/-- The status registers of the scheduler follow its tasks (Table 7.10); a free tag ends the wait for one (R218). -/
def Device.refreshSched (d : Device) : Device :=
  let d := d.wr Reg.MB_STAT.IN_FLIGHT 0 d.sched.tasks.length
  d.each 8 (fun q d =>
    let held := (d.sched.held.filter (fun h => h.pair == q)).length
    let d := d.wr Reg.QP_STAT.TASKS q (d.sched.tasks.filter (fun t => t.pair == q)).length
    let d := d.wr Reg.QP_STAT.HELD q held
    let d := if (d.freeTag q).isSome then d.wr Reg.QP_STAT.TAG_WAIT q 0 else d
    d.wr Reg.QP_STAT.CPL_FULL q (b2n (0 < held)))

/-! ### Completions (R213, R219, R223, R232) -/

/-- Put one task flag to a level. -/
def putFlag (flags : Nat) (p : Nat × Bool) : Nat := if p.2 then setBitOf flags p.1 else clrBitOf flags p.1

/-- Write a completion entry: publish it, set its ON_OK flag with an OK, drop the task. The flag is kept for the rest of
the pass, in which a FLAG_SET yields to it (Table 7.11). -/
def Device.writeCpl (d : Device) (h : HeldCpl) (late : Bool) : Device :=
  let bs := if late then modNth (fun b => b ||| 8) 3 h.bytes else h.bytes
  let d := d.ringPush (2 * h.pair + 1) bs
  let d := if h.ok && bitOf h.onOk 15 then
      let p := (bitsOf h.onOk 0 8 - 192, bitOf h.onOk 8)
      (d.setTaskFlags (putFlag d.taskFlags p)).modSched (fun s => { s with onOk := s.onOk ++ [p] })
    else d
  (d.modSched (fun s => { s with tasks := s.tasks.filter (fun t => t.tag != h.tag) })).refreshSched

/-- An outcome is fixed: written at once if its ring has room and nothing of the pair is held, else held with
CPL_FULL (R225, R232). -/
def Device.deliver (d : Device) (h : HeldCpl) : Device :=
  if d.sched.held.all (fun x => x.pair != h.pair) && d.ringRoom (2 * h.pair + 1) 1 then d.writeCpl h false
  else
    let d := d.modSched (fun s => { s with held := s.held ++ [h] })
    (d.refreshSched).mbEvt 2

/-- The task of a tag completes with a status and a result (R213, R221). -/
def Device.complete (d : Device) (tag : Nat) (st : Status) (noEffect : Bool) (result : List Byte) : Device :=
  match d.task? tag with
  | none => d
  | some t =>
    if t.state = .completing then d
    else
      let e := t.entry
      let cf := b2n (st.noEffect noEffect) + 2 * (e.flags.toNat % 2) + 4 * b2n t.auto
      let d := d.modTask tag (fun t => { t with state := .completing })
      d.deliver ⟨t.pair, tag, st == .ok, e.onOk.toNat,
        cplBytes t.op tag cf st.code e.index.toNat e.user.toNat result⟩

/-- An entry refused before it has a tag (R217): the completion carries its TAG byte. -/
def Device.refuseTag (d : Device) (op : Nat) (e : Entry) : Device :=
  let cf := 1 + 2 * (e.flags.toNat % 2)
  (d.deliver ⟨e.pair.val, 256, false, 0,
    cplBytes op e.tag.toNat cf Status.noTag.code e.index.toNat e.user.toNat []⟩).mbEvt 1

/-- Write the held completions of a pair while its ring has room, with LATE (R232). -/
def Device.writeHeld (d : Device) (q : Nat) : Nat → Device
  | 0 => d
  | k + 1 =>
    match d.sched.held.find? (fun h => h.pair == q) with
    | none => d
    | some h =>
      if d.ringRoom (2 * q + 1) 1 then
        let d := d.modSched (fun s => { s with held := s.held.erase h })
        (d.writeCpl h true).writeHeld q k
      else d

/-! ### Taking entries (R216 to R220, R635) -/

/-- Step 6 may take an entry from pair `q` (R220, R240). -/
def Device.canTake (d : Device) (q : Nat) : Bool :=
  d.on Reg.MB_STAT.MB_READY && !d.hostless && d.ringOn (2 * q + 1)
  && d.ringCount (2 * q + 1) + (d.sched.held.filter (fun h => h.pair == q)).length < d.ringSize (2 * q + 1)
  && (d.freeTag q).isSome && d.sched.tasks.length < 128

/-- What a BAD_PARAM of item 6 carries: REASON for the image and security commands (R545), else nothing. For OFFSET or LEN of
IMG_WRITE it is 0x0A (R534; DEDUCED, log entry 63); where no code of Table 18.7 names the fault it is free. -/
def rangeResult (op : Nat) (e : Entry) : List Byte :=
  if 0x0C01 ≤ op && op ≤ 0x0C07 then
    leBytes 1 (if op = 0x0C02 ∧ e.p 1 0 ≤ 1 ∧ e.p 1 1 ≤ 2 then 0x0A else (Config.imageReason op e.params).toNat)
  else []

/-- The judgement of an entry after its tag (R635 items 3 to 6): the status of its refusal, and the result. -/
def Device.judge (d : Device) (op : Nat) (e : Entry) : Option (Status × List Byte) :=
  if !opKnown op then some (.badOpcode, [])
  else if !headOk e then some (.badParam, [])
  else if d.on Reg.IMG_STAT.RESTRICTED && !opRestricted op then some (.restrictedMode, [])
  else if !paramsOk op e then some (.badParam, rangeResult op e)
  else none

/-- Earlier tasks of the pair have all reached COMPLETING (R224). -/
def Device.fenceClear (d : Device) (t : Task) : Bool :=
  (d.sched.tasks.takeWhile (fun x => x.tag != t.tag)).all
    (fun x => x.pair != t.pair || x.state == .completing)

/-- A waiting task is ready: its WAIT condition has been met, and a FENCE has nothing before it (R222, R224). -/
def Device.ready (d : Device) (t : Task) : Bool :=
  t.state == .waiting && t.met && (!bitOf t.entry.flags.toNat 1 || d.fenceClear t)

/-- The scheduler takes an entry: the tag, the judgement, the task (R635). Answers the tag of a task that was not
refused. -/
def Device.admitEntry (d : Device) (op : Nat) (e : Entry) : Device × Option Nat :=
  let q := e.pair.val
  if !d.canTake q then
    ((if d.on Reg.MB_STAT.MB_READY && (d.freeTag q).isNone
      then (d.wr Reg.QP_STAT.TAG_WAIT q 1).mbEvt 3 else d), none)
  else
    let explicit := e.tag != 0xFF
    let tag := if explicit then e.tag.toNat else (d.freeTag q).getD 0
    if explicit && (!(d.ownTags q).contains tag || (d.task? tag).isSome) then (d.refuseTag op e, none)
    else
      let t : Task := ⟨q, tag, !explicit, op, e, .waiting, d.waitHolds e, d.sched.clock, none, false⟩
      let d := (d.modSched (fun s => { s with tasks := s.tasks ++ [t] })).refreshSched
      match d.judge op e with
      | some (st, r) => (d.complete tag st true r, none)
      | none => (d, some tag)

/-- A ready task begins (R219 step 7): `run` is the command's effect for its tag. -/
def Device.begin (run : Nat → Device → Device) (tag : Nat) (d : Device) : Device :=
  match d.task? tag with
  | some t => if d.ready t then run tag (d.modTask tag (fun t => { t with state := .executing })) else d
  | none => d

/-- A pass begins: no flag has been set by ON_OK in it yet. -/
def Device.passBegins (d : Device) : Device := d.modSched (fun s => { s with onOk := [] })

/-- A command entry is taken and, if nothing holds it, started: `run` is the command's effect for its tag. -/
def Device.submit (op : Nat) (run : Nat → Device → Device) (e : Entry) (d : Device) : Device :=
  match d.admitEntry op e with
  | (d, some tag) => d.begin (fun tag d => run tag d.passBegins) tag
  | (d, none) => d

/-- A query or an immediate command completes OK. `noEffect` holds where it changed no state (R214). -/
def Device.ok (d : Device) (tag : Nat) (noEffect : Bool) (result : List Byte) : Device :=
  d.complete tag .ok noEffect result

/-- A command is refused with a status that always carries NO_EFFECT. -/
def Device.refuse (d : Device) (tag : Nat) (st : Status) (result : List Byte := []) : Device :=
  d.complete tag st true result

/-! ### Long commands of one function (R226) -/

/-- A long command waits behind another of its function. -/
def Device.queueLong (d : Device) (tag : Nat) : Device := d.modTask tag (fun t => { t with state := .queued })

/-- The oldest queued task with one of these opcodes. -/
def Device.queuedLong (d : Device) (ops : List Nat) : Option Nat :=
  (d.sched.tasks.find? (fun t => t.state == .queued && ops.contains t.op)).map (·.tag)

/-- The function is idle: its queued commands start, in the order taken, until one keeps it busy. -/
def Device.startQueued (ops : List Nat) (busy : Device → Bool) (run : Nat → Device → Device) : Nat → Device → Device
  | 0, d => d
  | n + 1, d =>
    if busy d then d
    else match d.queuedLong ops with
      | none => d
      | some tag => startQueued ops busy run n (run tag (d.modTask tag (fun t => { t with state := .executing })))

/-- Another task with one of these opcodes executes. -/
def Device.longBusy (d : Device) (ops : List Nat) (tag : Nat) : Bool :=
  d.sched.tasks.any (fun t => t.state == .executing && t.tag != tag && ops.contains t.op)

/-- A long command of the function that has these opcodes begins, or waits behind the one that executes. -/
def Device.runLong (d : Device) (ops : List Nat) (begins : Nat → Device → Device) (tag : Nat) : Device :=
  if d.longBusy ops tag then d.queueLong tag else begins tag d

/-- A long command of the function has ended: the next of those that wait begins. -/
def Device.nextLong (d : Device) (ops : List Nat) (begins : Nat → Device → Device) : Device :=
  Device.startQueued ops (fun d => d.longBusy ops 128) begins d.sched.tasks.length d

/-! ### Axis rings (R43, R214, R221, R228) -/

/-- Place a task in the axis ring of its axis: the entry is written to ring memory and published. -/
def Device.placeSlot (d : Device) (n tag : Nat) : Device :=
  match d.task? tag with
  | none => d
  | some t =>
    let d := d.ringPush (16 + n) (entryBytes t.op t.entry)
    d.modAx n (fun a => { a with ring := a.ring ++ [⟨tag, false⟩] })

/-- A task that passes through the axis ring of axis `n` becomes QUEUED, in the ring if there is space. -/
def Device.enqueueAxis (d : Device) (n tag : Nat) : Device :=
  let d := d.modTask tag (fun t => { t with state := .queued, axis := some n })
  if (d.ax n).ring.length < 16 then d.placeSlot n tag else d

/-- Tasks of axis `n` that wait for space in its ring, in the order taken; the one taken from the head does not. -/
def Device.unplaced (d : Device) (n : Nat) : List Nat :=
  (d.sched.tasks.filter (fun t => t.axis == some n && t.state == .queued
    && (d.ax n).ring.all (fun s => s.tag != t.tag) && (d.ax n).taken.map (·.1) != some t.tag)).map (·.tag)

/-- The head leaves the ring of axis `n`: CI advances, and the next waiting task takes the space. -/
def Device.popRing (d : Device) (n : Nat) : Device :=
  let d := d.modAx n (fun a => { a with ring := a.ring.drop 1, armed := none })
  let d := d.count Reg.RING_CI.CI (16 + n)
  match d.unplaced n with
  | [] => d
  | tag :: _ => if (d.ax n).ring.length < 16 then d.placeSlot n tag else d

/-- Dead entries at the head are passed without being taken (R228). -/
def Device.skipDead (d : Device) (n : Nat) : Nat → Device
  | 0 => d
  | k + 1 =>
    match (d.ax n).ring with
    | ⟨_, true⟩ :: _ => (d.popRing n).skipDead n k
    | _ => d

/-- PENDING and ARMED of AX_STAT follow the ring head (R43, R62). -/
def Device.refreshHead (d : Device) (n : Nat) : Device :=
  let a := d.ax n
  let d := d.wr Reg.AX_STAT.ARMED n (b2n a.armed.isSome)
  d.wr Reg.AX_STAT.PENDING n
    (b2n (a.armed.isNone && a.ring.any (fun s => !s.dead) && (a.taken.isSome || d.rd Reg.AX_STAT.STATE n != 1)))

/-- A task that stands in or waits for the ring of axis `n` ends with a status: its slot is marked dead and left to
the head (R228, R71, R72). -/
def Device.endQueued (d : Device) (n tag : Nat) (st : Status) : Device :=
  let d := d.modAx n (fun a => { a with
    ring := a.ring.map (fun s => if s.tag = tag then { s with dead := true } else s)
    armed := if a.armed = some tag then none else a.armed
    taken := if a.taken.map (·.1) = some tag then none else a.taken })
  ((d.complete tag st true []).skipDead n 16).refreshHead n

/-- Every entry of the ring of axis `n`, and every task waiting for space in it, ends with a status (R71, R72, R569). -/
def Device.flushAxis (d : Device) (n : Nat) (st : Status) : Device :=
  let tags := (((d.ax n).ring.filter (fun s => !s.dead)).map (·.tag)) ++ d.unplaced n
  tags.foldl (fun d tag => d.endQueued n tag st) d

end Sys2Proof.Machine
end

