-- ==== Sys2Proof/Machine/Wake.lean ====
section
/-! DEFINITION. What several functions share of the power modes: the restart of the cyclic port, the return of the
host paths on leaving GRAIN, and the wake-reason latches (R268, R348, R350, R353). -/
namespace Sys2Proof.Machine

/-- A unit's lasting effect is no longer in force; its latch stays (R558). -/
def Device.endEffect (d : Device) (c u : Nat) : Device :=
  let x := d.scrUnit c u
  if x.inForce then d.setScrUnit { x with inForce := false } else d

/-- A step from, or toward, a mode with another bus clock (R269, Table 11.1). -/
def Device.changesBusClock (d : Device) : Bool := decide (d.mode ≤ 1) || decide (d.power.goal ≤ 1)

/-- A step that changes the bus clock is under way: it waits while the port clocks a frame (R269). -/
def Device.busClockStep (d : Device) : Bool :=
  (d.power.step == .entering || d.power.step == .committed || d.power.step == .rising) && d.changesBusClock
    && !d.cyclic.frozen

/-- The port runs: enabled, booted, with the host paths on (R242, R269, R615). -/
def Device.cycOn (d : Device) : Bool :=
  d.on Reg.CYC_CTRL.EN && d.on Reg.MB_STAT.MB_READY && !d.hostless && !d.power.devrst

/-- SDO is driven, else high-impedance (R242, R269). -/
def Device.sdoDriven (d : Device) : Bool := d.cycOn && !d.pads.scsN

/-- SRDY follows the port: high while it runs with its next reply ready, but for a change of the bus clock (R242, R247,
R269, R615). -/
def Device.refreshSrdy (d : Device) : Device :=
  let up := d.cycOn && !d.busClockStep
  d.modCyclic (fun c => { c with srdy := up })

/-- The cyclic port restarts (R268). A restart by REINIT also clears the BAD_LASTING cause and the latch of its class. -/
def Device.cycRestart (d : Device) (reinit : Bool) : Device :=
  let d := d.modCyclic (fun c => { Cyclic.reset with unjudged := c.unjudged, live := c.live })
  let d := ((d.wr Reg.CYC_STAT.LAST_RES 0 0xF).wr Reg.CYC_STAT.ALIVE_REF 0 0).wr Reg.CYC_STAT.REF_VALID 0 0
  let d := ((d.wr Reg.CYC_STAT.MASTER_LOST 0 0).wr Reg.CYC_STAT.DALIVE 0 0).wr Reg.CYC_STAT.HIST 0 0
  let d := ((d.wr Reg.CYC_OK.COUNT 0 0).wr Reg.CYC_BAD.COUNT 0 0).wr Reg.CYC_SKIPS.COUNT 0 0
  let d := (d.wr Reg.CYC_STRETCH.COUNT 0 0).endEffect 0x0A 0
  let d := if reinit then
      (d.wr Reg.CYC_EVT.CAUSE2 0 (clrBitOf (d.rd Reg.CYC_EVT.CAUSE2) 2)).clearLatch 0x09 0
    else if d.lasting 0x09 0 then (d.setScrUnit { d.scrUnit 0x09 0 with times := [], due := false }).refreshScr 0x09
    else d.clearLatch 0x09 0
  d.refreshSrdy

/-- The steps under way are over. -/
def Device.stopSteps (d : Device) : Device :=
  (((d.wr Reg.PWR_STAT.TARGET 0 0).wr Reg.PWR_STAT.DEFER_CAUSE 0 0).modPower (fun p => { p with
    step := .none, wakeLate := false, wakeGoal := 0 })).refreshSrdy

/-- The next upward step begins. -/
def Device.beginRise (d : Device) : Device :=
  (d.modPower (fun p => { p with step := .rising, goal := d.mode + 1 })).refreshSrdy

/-- TARGET code of a mode: 1 DOZE, 2 RUN, 3 FULL, 4 GRAIN (Table 11.7). -/
def modeCode (m : Nat) : Nat := if m = 0 then 4 else m

/-- Result of a MODE_SET (Table 11.7). -/
def Device.modeResult (d : Device) (cause : Nat) : List Byte :=
  let p := d.power
  let grainPart :=
    if p.target = 0 ∧ cause = 0 ∧ p.step ≠ .deferred ∧ p.step ≠ .ready then
      leBytes 6 (p.wakeAt - p.commitAt) ++ leBytes 2 (d.rd Reg.WAKE_REASON.REASON) ++ leBytes 1 (min 255 p.excursions)
    else []
  leBytes 1 (modeCode p.fromMode) ++ leBytes 1 (modeCode d.mode) ++ leBytes 1 p.deferred ++ leBytes 1 cause
    ++ leBytes 4 p.micros ++ grainPart

/-- The MODE_SET under way completes; PWR_STAT shows no target. -/
def Device.endMode (d : Device) (st : Status) (noEffect : Bool) (cause : Nat) : Device :=
  let r := d.modeResult cause
  let d := (d.wr Reg.PWR_STAT.TARGET 0 0).wr Reg.PWR_STAT.DEFER_CAUSE 0 0
  let d := match d.power.task with
    | some tag => d.complete tag st noEffect r
    | none => d
  d.modPower (fun p => { p with task := none })

/-- The completion code of a MODE_SET that made its steps (R343). -/
def Device.modeStatus (d : Device) : Status := if d.power.deferred = 0 then .ok else .deferred

/-- The host paths return on leaving GRAIN (R348): the port restarts, PI and CI of every enabled ring are zeroed, and
the MODE_SET that entered GRAIN completes. -/
def Device.hostReturns (d : Device) : Device :=
  let d := d.modPower (fun p => { p with excursion := none })
  let d := d.each 256 (fun r d =>
    if d.ringOn r then (d.wr Reg.RING_PI.PI r 0).wr Reg.RING_CI.CI r 0 else d)
  let d := d.each 64 (fun n d => d.modAx n (fun a => { a with ring := [], armed := none }))
  let d := d.cycRestart false
  if d.power.task.isSome ∧ d.power.target = 0 then d.endMode d.modeStatus false 0 else d

/-- The return of an excursion that has turned into a normal wake (R350): a step that waits is given up for the way
back to FULL, one under way leads back there from its end, and a commit point that has passed is left at once. -/
def Device.turnBack (d : Device) (step : ModeStep) : Device :=
  match step with
  | .none => d
  | .deferred => if d.mode < 3 then (d.modPower (fun p => { p with target := 3 })).beginRise else d
  | .ready => (d.modPower (fun p => { p with target := 3 })).beginRise
  | .entering => d.modPower (fun p => { p with target := 3 })
  | .committed => d.modPower (fun p => { p with wakeLate := true, wakeGoal := 3, wakeAt := d.grain })
  | .rising => d

/-- An excursion turns into a normal wake (R350). -/
def Device.turnNormal (d : Device) : Device :=
  match d.power.excursion with
  | none => d
  | some m =>
    let step := d.power.step
    let d := if step = .deferred ∨ step = .ready then d.stopSteps else d
    let d := if m = 0 ∧ !d.power.grain then d.hostReturns else d.modPower (fun p => { p with excursion := none })
    d.turnBack step

/-- PEND shows each enabled bit that is latched (R289). -/
def Device.refreshPend (d : Device) : Device :=
  d.wr Reg.USB_RWAKE.PEND 0 (d.rd Reg.USB_RWAKE_EN.EN &&& d.rd Reg.WAKE_REASON.REASON)

/-- A wake reason latches; a newly latched bit raises EV010 and shows in PEND (R353, R359, R289). Any reason but VAD
ends an excursion (R350). -/
def Device.wakeLatch (d : Device) (bit : Nat) : Device :=
  let d := if bit = 0 then d else d.turnNormal
  if bitOf (d.rd Reg.WAKE_REASON.REASON) bit then d
  else
    (d.wr Reg.WAKE_REASON.REASON 0 (setBitOf (d.rd Reg.WAKE_REASON.REASON) bit)).refreshPend.latchEvent 10

end Sys2Proof.Machine
end

