-- ==== Sys2Proof/Machine/Chains.lean ====
section
/-! DEFINITION. Chains of links: their evaluation (R35 to R38, R55), their validation (R39, R46), and the
stop chain (R46 to R51). Positions are integers in 2^-24 counts, velocities in 2^-16 counts per tick. -/
namespace Sys2Proof.Machine

/-! ### Positions -/

/-- Integer position in counts, signed 40 bits, of a 40.24 position (Table 2.1). -/
def counts (p : BitVec 64) : Int := divF p.toInt (2 ^ 24)

/-- The 40.24 position nearest in form to an integer of 2^-24 counts: modulo 2^64 (R32). -/
def fix (x : Int) : BitVec 64 := BitVec.ofInt 64 x

/-- Electrical angle of a position (R30). -/
def Device.angleAt (d : Device) (n : Nat) (p : BitVec 64) : Nat :=
  toBits 12 (counts p + d.rd Reg.ANGLE_OFS.OFS n)

/-- Five little-endian bytes of a 40-bit position. -/
def posBytes (x : Int) : List Byte := leBytes 5 (toBits 40 x)

/-- Round num/den to the nearest integer, ties away from zero (R35); `den` is positive. -/
def roundDiv (num : Int) (den : Nat) : Int :=
  let q := ((2 * num.natAbs + den) / (2 * den) : Nat)
  if num < 0 then -(q : Int) else q

/-! ### Link offsets -/

/-- Full scale of the advisory scale: chain time is held in 1/65535 tick (R55). -/
def fullScale : Nat := 65535

/-- The offset of R35 at chain time `t` (in 1/65535 tick) of a finite link, and of R38 for an unbounded one. -/
def Link.offset (l : Link) (v0 : Int) (t : Nat) : Int :=
  let k : Int := fullScale
  let n : Int := t
  if l.unbounded then roundDiv (l.endVel * 2 ^ 8 * n) fullScale
  else
    let u : Int := l.duration
    let num := l.delta * 2 ^ 24 * (3 * n ^ 2 * u * k - 2 * n ^ 3)
      + 2 ^ 8 * u * (v0 * (n ^ 3 - 2 * n ^ 2 * u * k + n * u ^ 2 * k ^ 2) + l.endVel * (n ^ 3 - n ^ 2 * u * k))
    roundDiv num (l.duration ^ 3 * fullScale ^ 3)

/-! ### Validation (R39, Table 2.3) -/

/-- What a chain is validated against: VMAX and, with soft limits enabled, the start position and the limits. -/
structure ChainLimits where
  vmax : Nat
  limits : Option (Int × Int × Int)
deriving DecidableEq, Repr

/-- A 40-bit field held in an _L and an _H register, signed. -/
def Device.rd40 (d : Device) (lo hi : Field) (n : Nat) : Int := sext 40 (d.rd lo n + 2 ^ 32 * d.rd hi n)

/-- The soft limits of axis `n` in force. -/
def Device.slim (d : Device) (n : Nat) : Int × Int :=
  (d.rd40 Reg.SLIM_LO_L.LIMIT Reg.SLIM_LO_H.LIMIT n, d.rd40 Reg.SLIM_HI_L.LIMIT Reg.SLIM_HI_H.LIMIT n)

/-- The limits of axis `n` in force, from its accumulator's present position (log entry 48). -/
def Device.chainLimits (d : Device) (n : Nat) : ChainLimits where
  vmax := d.rd Reg.VMAX.VMAX n
  limits := if d.on Reg.AX_OPT.SLIM_EN n
    then some (counts (d.ax n).acc, (d.slim n).1, (d.slim n).2) else none

/-- Lowest reason of Table 2.3 that link `l` breaks, entered at velocity `v0` with the deltas before it summing to
`sum`; `stop` asks for the rules of R46. An end position beyond the 40-bit range lies outside every limit: with soft
limits enabled a wrap cannot occur (R32; DEDUCED, log entry 47). -/
def linkReason (lim : ChainLimits) (stop : Bool) (v0 sum : Int) (l : Link) : Option Nat :=
  let unb := l.unbounded
  let tt : Int := l.duration
  let mono : Bool :=
    decide ((v0.natAbs + 2 * l.endVel.natAbs : Int) * tt ≤ 3 * (l.delta.natAbs : Int) * 2 ^ 16)
    && decide (3 * (l.delta.natAbs : Int) * 2 ^ 16 ≤ (2 * v0.natAbs + l.endVel.natAbs : Int) * tt)
  let outside : Bool :=
    match lim.limits with
    | none => false
    | some (start, lo, hi) =>
      let e := start + sum + (if unb then 0 else l.delta)
      e < lo || hi < e
  if l.duration = 0 then some 1
  else if unb && !l.last then some 3
  else if unb && (l.delta != 0 || l.endVel != v0) then some 4
  else if decide ((lim.vmax : Int) < l.endVel.natAbs) then some 5
  else if l.last && !unb && l.endVel != 0 then some 6
  else if !stop && outside then some 7
  else if stop && (unb || !mono || l.endVel < 0 || l.delta < 0) then some 8
  else if l.flags / 4 != 0 || l.reserved != 0 then some 9
  else none

/-- Links are checked in ascending order up to the LAST one (R39): the first offending link and its reason, or the
number of the LAST link and the sum of the deltas. -/
def checkLinks (lim : ChainLimits) (stop : Bool) : List Link → Nat → Int → Int → Except (Nat × Nat) (Nat × Int)
  | [], _, _, _ => .error (99, 2)
  | l :: t, m, v0, sum =>
    match linkReason lim stop v0 sum l with
    | some r => .error (m, r)
    | none => if l.last then .ok (m, sum + l.delta) else checkLinks lim stop t (m + 1) l.endVel (sum + l.delta)

/-- Validation of a chain as a move (`stop = false`) or as a stop chain, which starts at VMAX (R46). -/
def Device.checkChain (d : Device) (c : Nat) (lim : ChainLimits) (mirror stop : Bool) :
    Except (Nat × Nat) (Nat × Int) :=
  checkLinks lim stop (d.links c mirror) 0 (if stop then lim.vmax else 0) 0

/-- The reason for which the stop chain `c` fails validation under `vmax` (R46, R48). -/
def Device.stopChainFault (d : Device) (c vmax : Nat) : Option Nat :=
  match d.checkChain c ⟨vmax, none⟩ false true with
  | .ok _ => none
  | .error (_, reason) => some reason

/-- The stop chain `c` is valid for `vmax` (R46). -/
def Device.stopChainOk (d : Device) (c vmax : Nat) : Bool := (d.stopChainFault c vmax).isNone

/-! ### Chain locks (R40) -/

/-- Axis `n` has taken a start of chain `c` from its ring head that has not begun yet: it locks the chain (Table 2.8). -/
def Device.takenChain (d : Device) (c n : Nat) : Bool :=
  match (d.ax n).taken with
  | none => false
  | some (tag, _) => (d.task? tag).any (fun t => t.op == 0x0201 && t.entry.p 1 1 == c)

/-- Whether axis `n`, if enabled, runs chain `c`, has taken a start of it, or holds it as its stop chain. -/
def Device.holdsChain (d : Device) (c n : Nat) : Bool :=
  d.on Reg.AX_CTRL.ENABLE n &&
    (d.rd Reg.STOP_CHAIN.CHAIN n == c
      || (match (d.ax n).run with | some r => r.chain == c | none => false)
      || (match (d.ax n).stop with | some s => s.chain == c | none => false)
      || d.takenChain c n)

/-- Chain `c` is locked. -/
def Device.chainLocked (d : Device) (c : Nat) : Bool := (List.range 64).any (fun n => d.holdsChain c n)

/-! ### The stop chain as a ramp (R50) -/

/-- Position of a stop chain at its tick `j`, from 0 at its start: link by link from VMAX (R50, R52). -/
def stopPos : List Link → Int → Nat → Int
  | [], _, _ => 0
  | l :: t, v0, j =>
    if j ≤ l.duration then l.offset v0 (j * fullScale)
    else l.delta * 2 ^ 24 + (if l.last then 0 else stopPos t l.endVel (j - l.duration))

/-- Length of a stop chain in ticks. -/
def stopTicks : List Link → Nat
  | [] => 0
  | l :: t => l.duration + (if l.last then 0 else stopTicks t)

/-- Index of the link that tick `j` of a stop chain belongs to (AX_STAT.LINK). -/
def stopLink : List Link → Nat → Nat
  | [], _ => 0
  | l :: t, j => if j ≤ l.duration || l.last then 0 else stopLink t (j - l.duration) + 1

/-- Motion of tick `j` of a stop chain, in 2^-24 counts. -/
def stopStep (ls : List Link) (vmax j : Nat) : Int := stopPos ls vmax j - stopPos ls vmax (j - 1)

/-- The entry rule of R50: the smallest `j ≥ 1` whose tick moves by at most `v`, looked for from `j` on. -/
def stopEntry (ls : List Link) (vmax : Nat) (v : Nat) : Nat → Nat → Option Nat
  | 0, _ => none
  | k + 1, j => if (stopStep ls vmax j).natAbs ≤ v then some j else stopEntry ls vmax v k (j + 1)

end Sys2Proof.Machine
end

