-- ==== Sys2Proof/Machine/Axis.lean ====
section
/-! DEFINITION. The states of an axis and what moves it between them: starting, stopping, settling, faulting
(chapters 02, 04 and 05). -/
namespace Sys2Proof.Machine

/-! ### State codes (Table 2.4) and position states (Table 2.7) -/

/-- OFF. -/
abbrev stOff : Nat := 0
/-- AT_REST. -/
abbrev stRest : Nat := 1
/-- SETTLING. -/
abbrev stSettling : Nat := 2
/-- MOVING. -/
abbrev stMoving : Nat := 3
/-- PAUSED. -/
abbrev stPaused : Nat := 4
/-- STOPPING. -/
abbrev stStopping : Nat := 5
/-- FOLLOW. -/
abbrev stFollow : Nat := 6
/-- HOMING. -/
abbrev stHoming : Nat := 7
/-- FAULT. -/
abbrev stFault : Nat := 8

/-- POS_STATE VALID. -/
abbrev posValid : Nat := 0
/-- POS_STATE UNVERIFIED. -/
abbrev posUnverified : Nat := 1
/-- POS_STATE LOST. -/
abbrev posLost : Nat := 2

/-- State of axis `n` now. -/
def Device.axSt (d : Device) (n : Nat) : Nat := d.rd Reg.AX_STAT.STATE n
/-- Give axis `n` a state. -/
def Device.setAxSt (d : Device) (n v : Nat) : Device := d.wr Reg.AX_STAT.STATE n v
/-- Axis `n` is AT_REST or OFF. -/
def Device.quiet (d : Device) (n : Nat) : Bool := d.axSt n == stRest || d.axSt n == stOff
/-- Every axis is AT_REST or OFF (R26). -/
def Device.allQuiet (d : Device) : Bool := (List.range 64).all (fun n => d.quiet n)
/-- A stop cause of R49 acts on axis `n`: MOVING, PAUSED, FOLLOW or HOMING. -/
def Device.stoppable (d : Device) (n : Nat) : Bool :=
  d.axSt n == stMoving || d.axSt n == stPaused || d.axSt n == stFollow || d.axSt n == stHoming

/-- The tile of an axis, and its bridge there (R15). -/
def tileOf (n : Nat) : Nat := n / 4

/-- The tile link of axis `n` is UP or in REALIGN: its loop periods have words or are held (R190). -/
def Device.linkOn (d : Device) (n : Nat) : Bool :=
  d.rd Reg.TL_STAT.LSTATE (tileOf n) == 4 || d.rd Reg.TL_STAT.LSTATE (tileOf n) == 5

/-- The tile link of axis `n` runs for R41 and R44: UP or REALIGN, with no inhibit in force (R193). -/
def Device.linkRuns (d : Device) (n : Nat) : Bool := d.linkOn n && !d.on Reg.TL_STAT.INHIBIT (tileOf n)

/-- The SHUTDOWN output of the die or of the axis's tile is set (R481). -/
def Device.shutFor (d : Device) (n : Nat) : Bool :=
  bitOf (d.rd Reg.TH_STAT.OUT 0) 2 || bitOf (d.rd Reg.TH_STAT.OUT (1 + tileOf n)) 2

/-- Set POS_STATE; a change to LOST sets POS_LOST (R165). -/
def Device.setPosState (d : Device) (n v : Nat) : Device :=
  let was := d.rd Reg.AX_STAT.POS_STATE n
  let d := d.wr Reg.AX_STAT.POS_STATE n v
  if v = posLost ∧ was ≠ posLost then d.homeEvt n 4 else d

/-- What a stopping tile link does to the position of an axis at rest or OFF (Table 5.3). -/
def Device.keepPosition (d : Device) (n : Nat) : Device :=
  if d.on Reg.HOME_CFG.PWR_KEEP n then
    if d.rd Reg.AX_STAT.POS_STATE n = posValid then d.setPosState n posUnverified else d
  else d.setPosState n posLost

/-! ### Results (Tables 2.5, 5.4, 3.4) -/

/-- Integer position of axis `n` now. -/
def Device.posNow (d : Device) (n : Nat) : Int := counts (d.ax n).acc

/-- Copper energy of the move in µJ, truncated (R23). -/
def Axis.copperMicro (a : Axis) : Nat := a.copper / 40000000

/-- Result of CHAIN_START (Table 2.5). -/
def Device.moveResult (d : Device) (n badLink badReason : Nat) : List Byte :=
  let a := d.ax n
  posBytes (d.posNow n) ++ leBytes 1 a.endReason ++ leBytes 2 0 ++ leBytes 4 a.ticks
    ++ leBytes 4 a.copperMicro ++ leBytes 1 badLink ++ leBytes 1 badReason

/-- Result of HOME_START and HOME_VERIFY (Table 5.4). -/
def Device.homeResult (d : Device) (n : Nat) (h : HomeRun) : List Byte :=
  let flags := b2n h.derated + 2 * b2n h.switchAtStart + 4 * b2n h.stallCapture
  let fin := posBytes (d.posNow n)
  if h.verify then
    leBytes 4 (toBits 32 (clampI (-(2 ^ 31)) (2 ^ 31 - 1) h.dev)) ++ [0] ++ leBytes 1 h.fail
      ++ leBytes 1 flags ++ [0] ++ fin
  else
    (match h.capt with | some c => leBytes 5 c.toNat | none => leBytes 5 0) ++ leBytes 1 h.fail
      ++ leBytes 1 flags ++ [0] ++ fin ++ leBytes 3 0 ++ leBytes 4 (d.ax n).ticks

/-- The count of the input an axis follows. -/
def Device.srcCount (d : Device) (n : Nat) : BitVec 32 :=
  BitVec.ofNat 32 (d.rd Reg.SDI_CNT.CNT (d.rd Reg.FOL_CFG.SRC n))

/-! ### Endings -/

/-- Status of a move by its END_REASON (Table 2.6). -/
def moveStatus (reason : Nat) (jog : Bool) : Status :=
  if reason = 0 then .ok
  else if reason = 1 then (if jog then .ok else .aborted)
  else if reason = 5 then .functionDown
  else .aborted

/-- The motion of axis `n` is over: its task completes (R45, R70, R163). -/
def Device.endOwner (d : Device) (n : Nat) : Device :=
  let a := d.ax n
  match a.home with
  | some h =>
    let d := (d.wr Reg.HOME_STAT.PHASE n 0).wr Reg.HOME_STAT.FAIL n h.fail
    let d := d.homeEvt n (if h.fail = 0 then 0 else 1)
    let d := match a.owner with
      | some tag =>
        d.complete tag (if h.fail = 0 then .ok
          else if h.fail = 5 || a.endReason = 5 then .functionDown else .aborted) false (d.homeResult n h)
      | none => d
    d.modAx n (fun a => { a with home := none, owner := none })
  | none =>
    match a.owner with
    | some tag =>
      let chain := ((d.task? tag).map (·.op)) == some 0x0201
      let d := if chain then d.axEvt n 0 else d
      let d := d.complete tag (moveStatus a.endReason a.jog) false (if chain then d.moveResult n 0xFF 0 else [])
      d.modAx n (fun a => { a with owner := none })
    | none => d

/-- Axis `n` leaves FOLLOW by any path (R102): its leave requests complete OK with the exit reason. -/
def Device.exitFollow (d : Device) (n reason : Nat) : Device :=
  let a := d.ax n
  let res := posBytes (d.posNow n) ++ leBytes 1 reason ++ leBytes 2 0 ++ leBytes 4 (d.srcCount n).toNat
  let d := a.leave.foldl (fun d l => d.complete l.tag .ok false res) d
  (d.modAx n (fun a => { a with follow := none, leave := [] })).wr Reg.FOL_LAG.LAG n 0

/-- The loops and the lean current of an axis that is switched off stop (R134). -/
def Axis.quench (a : Axis) : Axis :=
  { a with phaseA := Phase.reset, phaseB := Phase.reset, lean := 0, want := 0, blend := none, blendAsk := none, ramp := none
           stallRun := 0, ident := none }

/-- The checker that carried axis `n` resumes its rotation (R567). -/
def Device.carryEnds (d : Device) (n : Nat) : Device :=
  if d.rd Reg.CHK_STAT.STATE = 1 ∧ d.rd Reg.CHK_STAT.CARRIED = n then
    (d.wr Reg.CHK_STAT.STATE 0 0).wr Reg.CHK_STAT.CARRIED 0 0
  else d

/-- Axis `n` goes to OFF with its bridges off. What it moved in this tick shows at the tick's end (R37). -/
def Device.goOff (d : Device) (n : Nat) : Device :=
  (((d.setAxSt n stOff).carryEnds n).wr Reg.AX_STAT.LINK n 0x7F).modAx n (fun a => { a.quench with
    run := none, stop := none, mulLeft := 0, delta := 0, stopReq := none, settle := 0 })

/-- Axis `n` enters SETTLING (R45, R53). -/
def Device.goSettling (d : Device) (n : Nat) : Device :=
  ((d.setAxSt n stSettling).wr Reg.AX_STAT.LINK n 0x7F).modAx n (fun a => { a with
    run := none, stop := none, mulLeft := 0, delta := 0, settle := 0 })

/-- A stop chain has ended (R53, R567): SETTLING, or OFF after SSTOP_N or a carry. DESIGN CHOICE (log entry 49): the axis
that SSTOP_N sent to OFF is disabled too, since an enabled axis on a running link would leave OFF at once (R41). -/
def Device.stopEnds (d : Device) (n : Nat) (toOff : Bool) : Device :=
  if toOff then
    let d := (d.goOff n).endOwner n
    if d.on Reg.AX_STAT.DEGRADED n then d else d.wr Reg.AX_CTRL.ENABLE n 0
  else
    let d := d.goSettling n
    if (d.ax n).home.isSome then d.wr Reg.HOME_STAT.PHASE n 5 else d

/-- Rank of the causes of a stop: SSTOP_N, soft fault, host STOP (Table 2.8). A cancel stands above the host STOP, since
the move it reaches completes ABORTED (R230), a jog too (DEDUCED, log entry 50). -/
def stopRank (r : Nat) : Nat := if r = 2 then 4 else if r = 3 || r = 6 then 3 else if r = 4 then 2 else 1

/-- A stop cause reaches axis `n`: it acts in the next tick, the highest rank recorded (R49, R76). -/
def Device.askStop (d : Device) (n reason : Nat) : Device :=
  d.modAx n (fun a => { a with stopReq := match a.stopReq with
    | none => some reason
    | some r => if stopRank r < stopRank reason then some reason else some r })

/-- Axis `n` enters its stop chain with `v` the motion of the last tick (R49 to R52, R103). The axis leaves FOLLOW
with it; a homing keeps its record. -/
def Device.enterStop (d : Device) (n reason : Nat) (v : Int) : Device :=
  let toOff := reason == 2 || d.on Reg.AX_STAT.DEGRADED n
  let d := if d.axSt n = stFollow then (d.exitFollow n 1).folEvt n 2 else d
  let d := d.modAx n (fun a => { a with
    stopReq := none, endReason := reason, run := none,
    home := a.home.map (fun h => if h.fail = 0 then { h with fail := 4 } else h) })
  let d := d.axEvt n 1
  let c := d.rd Reg.STOP_CHAIN.CHAIN n
  let vmax := d.rd Reg.VMAX.VMAX n
  let ls := d.links c
  let d := if vmax * 2 ^ 8 < v.natAbs then d.axEvt n 8 else d
  let d := d.wr Reg.AX_STAT.CHAIN n c
  match (if v = 0 then none else stopEntry ls vmax v.natAbs (stopTicks ls) 1) with
  | none => d.stopEnds n toOff
  | some e =>
    let m := stopStep ls vmax e
    let dx := fix (if v < 0 then -m else m)
    ((d.setAxSt n stStopping).wr Reg.AX_STAT.LINK n (stopLink ls e)).modAx n (fun a => { a with
      stop := some ⟨c, e, vmax, v < 0, toOff⟩, delta := dx, mulLeft := dx, sub := 0 })

/-- The next tick of a running stop chain. SSTOP_N or a cancel that reaches it meanwhile becomes its END_REASON by rank,
and SSTOP_N its ending in OFF (DESIGN CHOICE, log entry 49: R53 speaks of chains entered for it). -/
def Device.stopTick (d : Device) (n : Nat) : Device :=
  match (d.ax n).stop with
  | none => d
  | some s =>
    let ls := d.links s.chain
    let d := d.modAx n (fun a => { a with stopReq := none, endReason := match a.stopReq with
      | some r => if stopRank a.endReason < stopRank r then r else a.endReason
      | none => a.endReason })
    let off := s.toOff || ((d.ax n).endReason == 2)
    if stopTicks ls ≤ s.idx then
      d.modAx n (fun a => { a with stop := some { s with idx := stopTicks ls + 1, toOff := off }, delta := 0 })
    else
      let m := stopStep ls s.vmax (s.idx + 1)
      let dx := fix (if s.neg then -m else m)
      (d.wr Reg.AX_STAT.LINK n (stopLink ls (s.idx + 1))).modAx n (fun a => { a with stop := some { s with idx := s.idx + 1, toOff := off }, delta := dx, mulLeft := dx })

/-- The KILL word of a mask (R176). -/
def killWord (m : Nat) : Nat := 0xE69A3C * 256 + (m % 16) * 16 + (15 - m % 16)

/-- The 24 slots of an outbound frame (Table 6.1): FILL, or the KILL word of a mask. -/
def slotBits (m : Nat) : List Bool :=
  (List.replicate 24 (msbBits 32 (if m = 0 then 0x55555555 else killWord m))).flatten

/-- A frame with the KILL word of a mask in its slots. -/
def killSlots (f : BitVec 1000) (m : Nat) : BitVec 1000 :=
  BitVec.ofNat 1000 (f.toNat % 2 ^ 224 + bitsToNat (slotBits m) * 2 ^ 224 + f.toNat / 2 ^ 992 * 2 ^ 992)

/-- KILL words for bridges of a mask go into the frame that tile `t` is sending, with those already there (R179). DESIGN
CHOICE (log entry 51): the detection falls before SLOT0, so that every slot carries them. -/
def Device.killBridges (d : Device) (t mask : Nat) : Device :=
  if d.rd Reg.TL_STAT.LSTATE t = 0 ∨ (d.tile t).sent = 0 then d
  else d.modTile t (fun x =>
    let k := x.kill ||| BitVec.ofNat 4 mask
    { x with kill := k, sent := killSlots x.sent k.toNat })

/-- Axis `n` takes the hard-fault path (R54, R72, R104): bridges off with a KILL word, FAULT, its move FUNCTION_DOWN
in the tick of the fault, its ring flushed; `cause` is the byte of the HARD_FAULT record entry. What it moved in this
tick shows at the tick's end (R32, R37). The position state is not touched here. -/
def Device.enterFault (d : Device) (n cause : Nat) : Device :=
  if d.axSt n = stFault then d
  else
    let d := d.killBridges (tileOf n) (2 ^ (n % 4))
    let d := d.modAx n (fun a => { a.quench with
      run := none, stop := none, mulLeft := 0, delta := 0, stopReq := none, taken := none,
      endReason := 5, home := a.home.map (fun h => { h with fail := if h.fail = 3 then 3 else 5 }) })
    let d := if d.axSt n = stFollow then d.exitFollow n 2 else d
    let d := ((d.setAxSt n stFault).carryEnds n).wr Reg.AX_STAT.LINK n 0x7F
    let d := (d.endOwner n).flushAxis n .functionDown
    d.record 0x0032 (leBytes 1 n ++ leBytes 1 cause)

/-- A hard fault of axis `n` (R54): unless it was AT_REST its position is LOST (Table 5.3). -/
def Device.hardFault (d : Device) (n cause : Nat) : Device :=
  if d.axSt n = stFault then d
  else (if d.axSt n = stRest then d else d.setPosState n posLost).enterFault n cause

/-- A hard fault for which Table 17.6 gives no cause code: the byte is a free value. -/
def Device.hardFaultFree (d : Device) (n : Nat) : Device :=
  let (k, d) := d.draw
  d.hardFault n (Config.faultCause k)

/-- A tile link that stops running acts on axis `n`: R54 unless AT_REST or OFF, which keep or lose their position;
an axis at rest goes OFF (R25, R193, R203). With FORGET an axis in FAULT loses its position too (Table 5.3). -/
def Device.linkStops (d : Device) (n cause : Nat) : Device :=
  if d.quiet n then
    let d := d.keepPosition n
    if d.axSt n = stRest then d.goOff n else d
  else if d.axSt n = stFault then (if d.on Reg.HOME_CFG.PWR_KEEP n then d else d.setPosState n posLost)
  else d.hardFault n cause

/-- Axis `n` leaves OFF (R41, R167, R199): SETTLING under the ramp of 800 loop periods. -/
def Device.energise (d : Device) (n : Nat) : Device :=
  (d.setAxSt n stSettling).modAx n (fun a => { a.quench with ramp := some ⟨true, 0⟩, settle := 0 })

/-- Under a SHUTDOWN output an axis at rest is disabled and goes OFF, its position state unchanged (R481). -/
def Device.shutRest (d : Device) (n : Nat) : Device :=
  if d.shutFor n && d.axSt n == stRest then (d.goOff n).wr Reg.AX_CTRL.ENABLE n 0 else d

/-- Axis `n` becomes AT_REST and takes its standstill mode (R134); what it was doing completes. -/
def Device.goRest (d : Device) (n : Nat) : Device :=
  let d := (d.setAxSt n stRest).modAx n (fun a => { a with dwell := 0, dwellDone := false, settle := 0 })
  let d := d.endOwner n
  let d := if d.rd Reg.CUR_CTRL.STANDSTILL n = 1 ∨ d.rd Reg.CUR_CTRL.STANDSTILL n = 2
    then d.modAx n (fun a => { a with phaseA := Phase.reset, phaseB := Phase.reset }) else d
  d.shutRest n

end Sys2Proof.Machine
end

