-- ==== Sys2Proof/Machine/Homing.lean ====
section
/-! DEFINITION. Limits, home switches, homing sequences and the redefinition of a position (chapter 05). -/
namespace Sys2Proof.Machine

/-! ### Inputs (R149, R151) -/

/-- Accepted level of GPIO `g` is active at polarity `pol` (1 = active low); 48 to 63 name no ball (R590). -/
def Device.gpioActive (d : Device) (g : Nat) (pol : Bool) : Bool :=
  g < 48 && (d.pads.accepted.getLsbD g != pol)

/-- The limit of axis `n` for one direction is active. -/
def Device.limitActive (d : Device) (n : Nat) (neg : Bool) : Bool :=
  d.on Reg.HOME_CFG.LIM_EN n &&
    d.gpioActive (if neg then d.rd Reg.HOME_CFG.LIM_NEG_GPIO n else d.rd Reg.HOME_CFG.LIM_POS_GPIO n)
      (d.on Reg.HOME_CFG.LIM_POL n)

/-- The home switch of axis `n` is active. -/
def Device.switchActive (d : Device) (n : Nat) : Bool :=
  d.gpioActive (d.rd Reg.HOME_CFG.SW_GPIO n) (d.on Reg.HOME_CFG.SW_POL n)

/-- LIM_NEG_NOW, LIM_POS_NOW and SW_NOW. -/
def Device.refreshLimits (d : Device) (n : Nat) : Device :=
  d.wr Reg.HOME_STAT.LIMNOW n
    (b2n (d.limitActive n true) + 2 * b2n (d.limitActive n false) + 4 * b2n (d.switchActive n))

/-- A limit that serves as the home switch in the seek direction of a SWITCH homing is no limit (R170). -/
def Device.limitIsSwitch (d : Device) (n : Nat) (neg : Bool) : Bool :=
  d.axSt n == stHoming && d.rd Reg.HOME_CFG.METHOD n == 0 && (neg == !d.on Reg.HOME_CFG.DIR n)
  && (if neg then d.rd Reg.HOME_CFG.LIM_NEG_GPIO n else d.rd Reg.HOME_CFG.LIM_POS_GPIO n)
      == d.rd Reg.HOME_CFG.SW_GPIO n

/-- R152: a limit active for the direction of the last tick's motion `v` is a soft fault. -/
def Device.checkLimit (d : Device) (n : Nat) (v : Int) : Device :=
  let neg := decide (v < 0)
  if v ≠ 0 ∧ (d.axSt n = stMoving ∨ d.axSt n = stFollow ∨ d.axSt n = stHoming ∨ d.axSt n = stSettling)
      ∧ d.limitActive n neg ∧ !d.limitIsSwitch n neg then
    ((d.homeEvt n 2).askStop n 6).modAx n (fun a => { a with
      home := a.home.map (fun h => if h.fail = 0 then { h with fail := 2 } else h) })
  else d

/-! ### Starting (R155 to R161) -/

/-- R161, R164: what refuses a homing with BAD_PARAM. -/
def Device.homeRefused (d : Device) (n : Nat) (verify : Bool) : Bool :=
  let m := d.rd Reg.HOME_CFG.METHOD n
  let seek := d.rd Reg.HOME_VEL.SEEK_VEL n
  let latch := d.rd Reg.HOME_VEL.LATCH_VEL n
  let vmax := d.rd Reg.VMAX.VMAX n
  (m == 1 && (decide (seek < d.rd Reg.STALL_CFG.OBS_VMIN n * 256) || decide (64 * 256 < seek)))
  || (m == 0 && decide (48 ≤ d.rd Reg.HOME_CFG.SW_GPIO n))
  || d.rd Reg.HOME_ACC.ACC n == 0
  || seek == 0 || latch == 0 || decide (vmax < seek * 256) || decide (vmax < latch * 256)
  || ((m == 2 || (m == 0 && d.on Reg.HOME_CFG.USE_INDEX n))
      && !d.on Reg.QE_CFG.EN (d.rd Reg.HOME_CFG.QE n))
  || (verify && m == 3)

/-- A homing record at its start. -/
def HomeRun.start (verify atSwitch : Bool) : HomeRun :=
  ⟨verify, 0, 0, none, false, false, false, false, false, 0, false, atSwitch, false, false, 0⟩

/-- The lean value starts from the demand in force; an axis in standstill OFF or SHORT ramps up from 0 (R122, R127,
R135). -/
def Device.wakeCurrent (d : Device) (n : Nat) : Device :=
  let s := d.rd Reg.CUR_CTRL.STANDSTILL n
  let l := d.rd Reg.CUR_STAT.DEMAND n
  d.modAx n (fun a => { a with
    lean := l, want := l, stallRun := 0, ramp := if s = 1 ∨ s = 2 then some ⟨false, 0⟩ else a.ramp })

/-- A homing begins at a tick boundary. HERE captures the present position at once (R159). -/
def Device.beginHome (d : Device) (n : Nat) (verify : Bool) : Device :=
  let m := d.rd Reg.HOME_CFG.METHOD n
  let sw := m == 0 && d.switchActive n
  let h := HomeRun.start verify sw
  if m = 3 then
    d.modAx n (fun a => { a with home := some { h with
      capt := some (BitVec.ofInt 40 (counts a.acc)), redefine := true } })
  else
    ((((d.wakeCurrent n).modAx n (fun a => { a with home := some h })).setAxSt n stHoming).wr
      Reg.HOME_STAT.PHASE n (if sw then 3 else 1)).wr Reg.HOME_STAT.FAIL n 0

/-! ### One tick of a homing (R156, R157) -/

/-- Velocity moved toward a target by at most `acc`. -/
def approach (v target acc : Int) : Int := clampI (v - acc) (v + acc) target

/-- Distance of the ramp at multiples of `acc` that follows a tick of velocity `u`. -/
def rampAfter (acc u : Nat) : Nat := let m := (u + acc - 1) / acc - 1; acc * (m * (m + 1) / 2)

/-- Next velocity of a trapezoid with `r` still to go, all magnitudes in 2^-16 counts; the last tick carries the
remainder (R156). -/
def trapezoid (acc vmax v r : Nat) : Nat :=
  let up := min (v + acc) vmax
  if up + rampAfter acc up ≤ r then up
  else if 0 < v ∧ v + rampAfter acc v ≤ r then v
  else
    let m := (v + acc - 1) / acc - 1
    if m ≤ 1 ∨ r ≤ m * acc then r else m * acc

/-- The motion of the coming tick of a homing is `vel`, in 2^-16 counts, signed. -/
def Device.homeMove (d : Device) (n : Nat) (h : HomeRun) (vel : Int) : Device :=
  let dx := fix (vel * 2 ^ 8)
  d.modAx n (fun a => { a with
    home := some { h with vel := vel, dist := h.dist + vel.natAbs * 2 ^ 8 }, delta := dx, mulLeft := dx })

/-- Distance that the phase has travelled so far: what is planned less what the tick under way still has to move. -/
def Device.homeTravelled (d : Device) (n : Nat) (h : HomeRun) : Nat := h.dist - (d.ax n).mulLeft.toInt.natAbs

/-- A homing comes to its SETTLE phase. -/
def Device.homeSettles (d : Device) (n : Nat) (h : HomeRun) : Device :=
  ((d.modAx n (fun a => { a with home := some { h with vel := 0 }, delta := 0 })).goSettling n).wr
    Reg.HOME_STAT.PHASE n 5

/-- LATCH: toward DIR at LATCH_VEL until the capture, then to zero (Table 5.1). -/
def Device.homeLatch (d : Device) (n : Nat) (h : HomeRun) : Device :=
  let acc : Int := d.rd Reg.HOME_ACC.ACC n
  let sgn : Int := if d.on Reg.HOME_CFG.DIR n then 1 else -1
  let v := approach h.vel (if h.detected then 0 else sgn * (d.rd Reg.HOME_VEL.LATCH_VEL n * 256)) acc
  if h.detected && v == 0 then d.homeSettles n h else d.homeMove n h v

/-- The end of BACKOFF: the switch must be inactive (FAIL 6); STALL settles, the others latch. -/
def Device.homeBacked (d : Device) (n : Nat) (h : HomeRun) : Device :=
  let m := d.rd Reg.HOME_CFG.METHOD n
  if m = 0 ∧ d.switchActive n then d.homeSettles n { h with fail := 6 }
  else if m = 1 then d.homeSettles n h
  else (d.wr Reg.HOME_STAT.PHASE n 4).homeLatch n { h with vel := 0, dist := 0, detected := false }

/-- BACKOFF: away from DIR by BACKOFF counts at LATCH_VEL. -/
def Device.homeBack (d : Device) (n : Nat) (h : HomeRun) : Device :=
  let total := d.rd Reg.HOME_POS_H.BACKOFF n * 2 ^ 16
  let r := total - h.dist / 2 ^ 8
  if r = 0 then d.homeBacked n h
  else
    let v := trapezoid (d.rd Reg.HOME_ACC.ACC n) (d.rd Reg.HOME_VEL.LATCH_VEL n * 256) h.vel.natAbs r
    d.homeMove n h (if d.on Reg.HOME_CFG.DIR n then -(v : Int) else v)

/-- DECEL: to zero at HOME_ACC; after a failure the homing settles, else it backs off. -/
def Device.homeDecel (d : Device) (n : Nat) (h : HomeRun) : Device :=
  let v := approach h.vel 0 (d.rd Reg.HOME_ACC.ACC n)
  if v ≠ 0 then d.homeMove n h v
  else if h.fail ≠ 0 then d.homeSettles n h
  else (d.wr Reg.HOME_STAT.PHASE n 3).homeBack n { h with vel := 0, dist := 0, detected := false }

/-- The homing of axis `n` evaluates its next tick. -/
def Device.homeTick (d : Device) (n : Nat) : Device :=
  match (d.ax n).home with
  | none => d
  | some h =>
    let p := d.rd Reg.HOME_STAT.PHASE n
    let acc : Int := d.rd Reg.HOME_ACC.ACC n
    let sgn : Int := if d.on Reg.HOME_CFG.DIR n then 1 else -1
    if p = 1 then d.homeMove n h (approach h.vel (sgn * (d.rd Reg.HOME_VEL.SEEK_VEL n * 256)) acc)
    else if p = 2 then d.homeDecel n h
    else if p = 3 then d.homeBack n h
    else if p = 4 then d.homeLatch n h
    else d

/-! ### Detections and captures (R150, R157, R160, R162) -/

/-- Change the homing record of axis `n`. -/
def Device.modHome (d : Device) (n : Nat) (f : HomeRun → HomeRun) : Device :=
  d.modAx n (fun a => { a with home := a.home.map f })

/-- What the engine sees of the switch and the index in a loop period of a homing, the accumulator standing at the
period's end (R150, R157). -/
def Device.homeSense (d : Device) (n : Nat) : Device :=
  match (d.ax n).home with
  | none => d
  | some h =>
    let m := d.rd Reg.HOME_CFG.METHOD n
    let p := d.rd Reg.HOME_STAT.PHASE n
    let c : BitVec 40 := BitVec.ofInt 40 (d.posNow n)
    let sw := m == 0 && (h.swEdge || d.switchActive n)
    let ix := h.idxSeen
    let d := d.modHome n (fun h => { h with idxSeen := false, swEdge := false })
    if d.axSt n ≠ stHoming ∨ h.detected ∨ h.fail ≠ 0 then d
    else if p = 1 ∧ (sw ∨ (m = 2 ∧ ix)) then
      (d.modHome n (fun h => { h with detected := true })).wr Reg.HOME_STAT.PHASE n 2
    else if p = 4 ∧ m = 0 ∧ !h.seekIndex ∧ sw then
      if d.on Reg.HOME_CFG.USE_INDEX n then d.modHome n (fun h => { h with capt := some c, seekIndex := true })
      else d.modHome n (fun h => { h with capt := some c, detected := true, redefine := true })
    else if p = 4 ∧ ix ∧ (m = 2 ∨ h.seekIndex) then
      d.modHome n (fun h => { h with capt := some c, detected := true, redefine := true })
    else d

/-- What the commanded position of axis `n` steps back by in 2^-24 counts on a stall of load angle δ (R160). -/
def Device.stepBack (d : Device) (n : Nat) (delta : Int) : Int :=
  (if d.on Reg.HOME_CFG.DIR n then -delta else delta) * 2 ^ 24

/-- A stall in the SEEK phase of a STALL homing: the commanded motion stops, steps back by δ, and the result is the
capture (R160). -/
def Device.homeStall (d : Device) (n : Nat) (delta : Int) : Device :=
  let back := d.stepBack n delta
  let d := d.modAx n (fun a => { a with acc := a.acc + fix back, mulLeft := 0, delta := 0 })
  let c : BitVec 40 := BitVec.ofInt 40 (d.posNow n)
  (d.modHome n (fun h => { h with
    capt := some c, redefine := true, stallCapture := true, vel := 0, dist := 0, detected := false })).wr
      Reg.HOME_STAT.PHASE n 3

/-- R158: the position takes the home frame; R164: a verify compares instead. -/
def Device.redefine (d : Device) (n : Nat) : Device :=
  match (d.ax n).home with
  | none => d
  | some h =>
    match h.redefine, h.capt with
    | true, some c =>
      let home := d.rd40 Reg.HOME_POS_L.POS Reg.HOME_POS_H.POS n
      let dev := c.toInt - home
      let d := d.modHome n (fun h => { h with redefine := false, redefined := !h.verify, dev := dev })
      if h.verify then
        if dev.natAbs ≤ d.rd Reg.HOME_LIM.VERIFY_TOL n then d.setPosState n posValid
        else (d.setPosState n posLost).homeEvt n 3
      else
        let s := fix ((home - c.toInt) * 2 ^ 24)
        let d := d.modAx n (fun a => { a with acc := a.acc + s, pos := a.pos + s })
        let d := d.wr Reg.ANGLE_OFS.OFS n (toBits 12 ((d.rd Reg.ANGLE_OFS.OFS n : Int) + c.toInt - home))
        let d := d.setPosState n posValid
        if d.rd Reg.HOME_CFG.METHOD n = 3 ∧ d.axSt n = stRest then d.endOwner n else d
    | _, _ => d

/-- R162: a SEEK or LATCH phase has travelled MAXDIST without a detection. -/
def Device.maxdistReached (d : Device) (n : Nat) : Bool :=
  match (d.ax n).home with
  | none => false
  | some h =>
    let p := d.rd Reg.HOME_STAT.PHASE n
    let m := d.rd Reg.HOME_MAXD.MAXDIST n
    d.axSt n == stHoming && (p == 1 || p == 4) && !h.detected && h.fail == 0 && m != 0
      && decide (m * 2 ^ 24 ≤ d.homeTravelled n h)

end Sys2Proof.Machine
end

