-- ==== Sys2Proof/Machine/Follow.lean ====
section
/-! DEFINITION. Step and encoder inputs, the follow interpolator, address output and the microstep tables
(chapter 03). -/
namespace Sys2Proof.Machine

/-! ### Step and direction inputs (R79, R92, R98) -/

/-- STEP_SIZE as it acts: 1 to 1024 (Table 3.5). -/
def Device.stepSize (d : Device) (n : Nat) : Nat := min 1024 (max 1 (d.rd Reg.FOL_CFG.STEP_SIZE n))

/-- Step and direction input `m`. -/
def Device.sdiIn (d : Device) (m : Nat) : SdiIn := nth ⟨none, []⟩ m d.sdi

/-- The mean of the kept intervals, 400,000 while there is none (R92); the rounding of a mean that is not whole is free (log
entry 52). -/
def periodOf (hist : List Nat) : Nat := if hist.isEmpty then 400000 else (nearQuot hist.sum hist.length).toNat

/-- FOLLOW_PENDING counts one step, saturating at ±(2^23 - 1) (R98). -/
def Device.pendStep (d : Device) (n : Nat) (dx : Int) : Device :=
  let p := sext 24 (d.rd Reg.FOL_PEND.PENDING n) + dx
  let c := clampI (-(2 ^ 23 - 1)) (2 ^ 23 - 1) p
  let d := d.wr Reg.FOL_PEND.PENDING n (toBits 24 c)
  if c = p then d else d.folEvt n 1

/-- P_EST of axis `n` from the intervals of SRC that count (R92). -/
def Device.estimate (d : Device) (n : Nat) : Device :=
  let k := min (2 ^ d.rd Reg.FOL_CFG.AVG n) (d.ax n).histN
  d.wr Reg.FOL_PER.P_EST n (periodOf ((d.sdiIn (d.rd Reg.FOL_CFG.SRC n)).intervals.take k))

/-- Input `m` accepts a step edge at CD03 time `now`: the interval from the edge before it joins its history, which an idle
time of 2 ms has cleared (R92). -/
def SdiIn.edge (x : SdiIn) (now : Nat) : SdiIn :=
  match x.last with
  | none => ⟨some now, []⟩
  | some t => if t + 400000 ≤ now then ⟨some now, []⟩ else ⟨some now, ((now - t) :: x.intervals).take 8⟩

/-- An accepted step edge of the input that axis `n` follows, already in the record of the input. -/
def Device.followEdge (d : Device) (n : Nat) (dx : Int) : Device :=
  let fresh := (d.sdiIn (d.rd Reg.FOL_CFG.SRC n)).intervals.isEmpty
  let d := (d.modAx n (fun a => { a with histN := if fresh then 0 else min 8 (a.histN + 1) })).estimate n
  if d.axSt n = stFollow then d else d.pendStep n dx

/-- Axis `n` counts the steps of input `m`. -/
def Device.follows (d : Device) (n m : Nat) : Bool :=
  d.on Reg.FOL_CFG.SRC_EN n && d.rd Reg.FOL_CFG.SRC n == m

/-- No edge of SRC has been accepted for 2 ms (R92, R101). -/
def Device.inputIdle (d : Device) (n : Nat) : Bool :=
  match (d.sdiIn (d.rd Reg.FOL_CFG.SRC n)).last with
  | none => true
  | some t => t + 400000 ≤ d.cd03

/-- P_EST is preset and the interval history cleared (R92). -/
def Device.presetPeriod (d : Device) (n : Nat) : Device :=
  (d.modAx n (fun a => { a with histN := 0 })).wr Reg.FOL_PER.P_EST n 400000

/-- A strobe gave axis `n` another input (R92): P_EST is that of the input it names now. -/
def Device.newSource (d : Device) (n : Nat) : Device :=
  if d.inputIdle n then d.presetPeriod n else (d.modAx n (fun a => { a with histN := 8 })).estimate n

/-! ### Hand-over (R98 to R103) -/

/-- FOLLOW_ENTER takes effect: BASE, C0 and the steps applied (R100). DESIGN CHOICE (log entry 54): before the
interpolator has run the last increment u counts as 0. -/
def Device.enterFollow (d : Device) (n tag : Nat) (apply : Bool) : Device :=
  let c := d.srcCount n
  let pend := if apply then sext 24 (d.rd Reg.FOL_PEND.PENDING n) else 0
  let base : BitVec 40 := BitVec.ofInt 40 (d.posNow n)
  let d := (d.wakeCurrent n).presetPeriod n
  let d := (d.wr Reg.FOL_PEND.PENDING n 0).setAxSt n stFollow
  let d := d.modAx n (fun a => { a with follow := some ⟨base, c - BitVec.ofInt 32 pend, 0⟩, leave := [] })
  d.complete tag .ok false (leBytes 4 (toBits 32 pend) ++ leBytes 5 base.toNat)

/-- The conditions of R101: the input idle for 2 ms and the last increment 0. -/
def Device.mayLeave (d : Device) (n : Nat) : Bool :=
  match (d.ax n).follow with
  | some f => d.inputIdle n && f.lastU == 0
  | none => false

/-- Follow target less accumulator, R of R93, in 2^-24 counts. -/
def Device.followResidual (d : Device) (n : Nat) (f : FollowRun) : Int :=
  let steps := (d.srcCount n - f.c0).toInt * d.stepSize n
  let g := f.base.toInt + sext 40 (toBits 40 (if d.on Reg.FOL_CFG.INVERT n then -steps else steps))
  (fix (g * 2 ^ 24) - (d.ax n).acc).toInt

/-- P_EFF of R92. -/
def Device.pEff (d : Device) (n : Nat) : Nat :=
  let since := match (d.sdiIn (d.rd Reg.FOL_CFG.SRC n)).last with
    | some t => d.cd03 - t
    | none => 400000
  min (max (d.rd Reg.FOL_PER.P_EST n) since) 400000

/-- One loop period of the interpolator (R93, R95). FOL_LAG shows G - I in whole counts (Table 3.5); the rounding is free
(log entry 53). -/
def Device.interpolate (d : Device) (n : Nat) : Device :=
  match (d.ax n).follow with
  | none => d
  | some f =>
    let r := d.followResidual n f
    let p := max 1 (d.pEff n)
    let nom := d.stepSize n * 2 ^ 24 * 5000 / p
    let prop := r.natAbs * 5000 / p
    let u := min (min (max nom prop) r.natAbs) (d.rd Reg.VMAX.VMAX n * 2 ^ 8 / 4)
    let dx : Int := if r < 0 then -(u : Int) else u
    let d := d.modAx n (fun a => { a with acc := a.acc + fix dx, follow := some { f with lastU := u } })
    let d := if d.rd Reg.FOL_LAG_MAX.LAG_MAX n * 2 ^ 24 < r.natAbs then d.folEvt n 0 else d
    d.wr Reg.FOL_LAG.LAG n (toBits 24 (clampI (-(2 ^ 23)) (2 ^ 23 - 1) (nearQuot (r - dx) (2 ^ 24))))

/-! ### Quadrature inputs (R82 to R84) -/

/-- Place of an (A, B) state in the order 00, 10, 11, 01. -/
def quadPlace (a b : Bool) : Nat := if a then (if b then 2 else 1) else (if b then 3 else 0)

/-- The count step that a change of the accepted state gives, or `none` for a skipped state. -/
def quadStep (mode : Nat) (a0 b0 a1 b1 : Bool) : Option Int :=
  if a0 != a1 && b0 != b1 then none
  else if a0 == a1 && b0 == b1 then some 0
  else
    let dir : Int := if (quadPlace a0 b0 + 1) % 4 = quadPlace a1 b1 then 1 else -1
    if mode = 1 then some (if a0 != a1 then dir else 0)
    else if mode = 2 then some (if !a0 && a1 then dir else 0)
    else some dir

/-- The levels last accepted at encoder `k`. -/
def Device.qeLevels (d : Device) (k : Nat) : QeLevels := nth ⟨false, false, false⟩ k d.pads.qe

/-- The wake counter of the grain domain follows encoder QE_SEL in DOZE and GRAIN: the signed ×4 count of R82, with the
INVERT of the input (R354, R636). -/
def Device.qeWakeMotion (d : Device) (k : Nat) (old new : QeLevels) : Device :=
  if d.mode < 2 ∧ d.rd Reg.WAKE_CFG.QE_SEL = k then
    let s := (quadStep 0 old.a old.b new.a new.b).getD 0
    d.modPower (fun p => { p with qeWake := p.qeWake + (if d.on Reg.QE_CFG.INVERT k then -s else s) })
  else d

/-- IDX_GATE holds for the levels of A and B (R83). -/
def gateOk (gate : Nat) (a b : Bool) : Bool := if gate = 1 then a else if gate = 2 then a && b else true

/-- An index edge of encoder `k` (R83): the count is copied, the edge counted, the count cleared with IDX_CLR; a homing that
names the input sees it (R150). -/
def Device.indexEdge (d : Device) (k : Nat) : Device :=
  let d := d.wr Reg.QE_IDX.CNT k (d.rd Reg.QE_CNT.CNT k)
  let d := (d.count Reg.QE_STAT.IDX_CNT k).qeEvt k 1
  let d := if d.on Reg.QE_CFG.IDX_CLR k then d.wr Reg.QE_CNT.CNT k 0 else d
  d.each 64 (fun n d => if d.rd Reg.HOME_CFG.QE n = k then d.modHome n (fun h => { h with idxSeen := true }) else d)

/-- The accepted change of I to its active level, while A and B as accepted with it meet IDX_GATE (R83). -/
def Device.indexTaken (d : Device) (k : Nat) (old new : QeLevels) : Bool :=
  old.i != new.i && new.i != d.on Reg.QE_CFG.IDX_POL k && gateOk (d.rd Reg.QE_CFG.IDX_GATE k) new.a new.b

/-- Encoder `k` accepts levels (R82 to R84): the wake counter, and while it decodes the levels of QE_STAT, the count or
PHASE_ERR, and then the index edge. While EN is 0 and in GRAIN the balls are only followed. -/
def Device.quadSample (d : Device) (k : Nat) (new : QeLevels) : Device :=
  let old := d.qeLevels k
  let d := { d with pads := { d.pads with qe := modNth (fun _ => new) k d.pads.qe } }
  let d := d.qeWakeMotion k old new
  if d.power.grain || !d.on Reg.QE_CFG.EN k then d
  else
    let d := d.wr Reg.QE_STAT.ABI k (b2n new.a + 2 * b2n new.b + 4 * b2n new.i)
    let d := match quadStep (d.rd Reg.QE_CFG.MODE k) old.a old.b new.a new.b with
      | none => d.qeEvt k 0
      | some s =>
        let s := if d.on Reg.QE_CFG.INVERT k then -s else s
        d.wr Reg.QE_CNT.CNT k (toBits 32 ((d.rd Reg.QE_CNT.CNT k : Int) + s))
    if d.indexTaken k old new then d.indexEdge k else d

/-! ### Address output (R106 to R108) -/

/-- The axes whose address word a port carries, in ascending CS order. -/
def Device.addrAxes (d : Device) (p : Nat) : List Nat :=
  (List.range 4).flatMap (fun cs => (List.range 64).filter (fun n =>
    d.on Reg.ADDR_OUT.ADDR_EN n && d.rd Reg.ADDR_OUT.PORT n == p && d.rd Reg.ADDR_OUT.CS n == cs))

/-- CS_GAP as it acts. -/
def Device.csGap (d : Device) (p : Nat) : Nat := max 1 (d.rd Reg.SPM_CTRL.CS_GAP p)

/-- An SCK period of a port in CD03 cycles: SCK is 200 MHz / (2 (DIV + 1)), a DIV of 0 acting as 1 (R110). -/
def Device.sckCycles (d : Device) (p : Nat) : Nat := 2 * (max 1 (d.rd Reg.SPM_CTRL.DIV p) + 1)

/-- CD03 cycles that `k` address words of a port take (R108). -/
def Device.addrCycles (d : Device) (p k : Nat) : Nat := k * (32 + d.csGap p) * d.sckCycles p

/-- `k` address words of a port exceed 20 µs (R108, R110). -/
def Device.portOverrun (d : Device) (p k : Nat) : Bool := decide (4000 < d.addrCycles p k)

/-- The axis would energise its coils (Table 3.2 ON). -/
def Device.wouldEnergise (d : Device) (n : Nat) : Bool :=
  let s := d.axSt n
  let m := d.rd Reg.CUR_CTRL.STANDSTILL n
  s != stOff && s != stFault && !(s == stRest && (m == 1 || m == 2))

/-- The address word of a loop period (Table 3.2), or ADDR_LATE where the port is off. -/
def Device.addressOut (d : Device) (n angle demand ceil : Nat) : Device :=
  if !d.on Reg.ADDR_OUT.ADDR_EN n then d
  else if !d.on Reg.SPM_CTRL.EN (d.rd Reg.ADDR_OUT.PORT n) then d.folEvt n 4
  else if d.portOverrun (d.rd Reg.ADDR_OUT.PORT n) (d.addrAxes (d.rd Reg.ADDR_OUT.PORT n)).length then d
  else
    let al := (d.ax n).alive + 1
    let ampl := min 0xFFF ((if d.on Reg.ADDR_OUT.ADDR_ONLY n then ceil else demand) / 2)
    let w := al.toNat * 2 ^ 28 + ampl * 2 ^ 16 + b2n (d.wouldEnergise n) * 2 ^ 15
      + d.rd Reg.MTAB.MT n * 2 ^ 12 + angle
    d.modAx n (fun a => { a with alive := al, addrWord := BitVec.ofNat 32 w })

/-- The address words of a loop period go out on port `p`, in ascending CS order, from 1 µs after its boundary; the
transfer queue has the time after them (R107). -/
def Device.sendAddresses (d : Device) (p : Nat) : Device :=
  let ns := d.addrAxes p
  let sends := d.on Reg.SPM_CTRL.EN p && !d.portOverrun p ns.length && !ns.isEmpty
  { d with spm := modNth (fun x => { x with
      used := if sends then 200 + d.addrCycles p ns.length else 0
      addr := if sends then ns.map (fun n => (d.rd Reg.ADDR_OUT.CS n, (d.ax n).addrWord)) else [] }) p d.spm }

/-! ### Microstep tables (R86 to R90) -/

/-- Enabled axes name table `t` in force or in the shadow (R89). -/
def Device.tableInUse (d : Device) (t : Nat) : Bool :=
  (List.range 64).any (fun n => d.on Reg.AX_CTRL.ENABLE n
    && (d.rd Reg.MTAB.MT n == t || d.rdSh Reg.MTAB.MT n == t))

end Sys2Proof.Machine
end

