-- ==== Sys2Proof/Machine/Current.lean ====
section
/-! DEFINITION. One loop period of an axis: measurement, observer, lean rule, arbitration, budget, current loop,
ledgers and step pulses (R31, R63 to R65, R87, R117 to R145). Currents in mA, voltages in mV. -/
namespace Sys2Proof.Machine

/-! ### Configuration as it acts -/

/-- CEIL and FLOOR as they act (R129). -/
def Device.ceil (d : Device) (n : Nat) : Nat := min 8000 (d.rd Reg.CUR_BOUND.CEIL n)
/-- FLOOR as it acts. -/
def Device.floor (d : Device) (n : Nat) : Nat := min 8000 (d.rd Reg.CUR_BOUND.FLOOR n)

/-- The lean parameters of the policy in force (Table 4.1, R123): MARGIN, RISE, FALL, GAIN. -/
def Device.policy (d : Device) (n : Nat) : Nat × Nat × Nat × Nat :=
  let p := d.rd Reg.CUR_CTRL.POLICY n
  if p = 1 then (512, 50, 5, 64)
  else if p = 2 then (683, 50, 5, 64)
  else if p = 3 then (853, 50, 2, 64)
  else (d.rd Reg.LEAN_CFG.MARGIN n, min 50 (d.rd Reg.LEAN_CFG.RISE n), max 1 (d.rd Reg.LEAN_CFG.FALL n),
    d.rd Reg.LEAN_CFG.GAIN n)

/-- The thermal derate ceiling of axis `n` (R480). -/
def Device.derate (d : Device) (n : Nat) : Nat :=
  let one (x : Nat) : Nat := if bitOf (d.rd Reg.TH_STAT.OUT x) 1 then d.rd Reg.TH_DER.DERATE_MA x else 0xFFFF
  min (one 0) (one (1 + tileOf n))

/-- Axis `n` is energised (R126). -/
def Device.energised (d : Device) (n : Nat) : Bool := d.wouldEnergise n && !d.on Reg.ADDR_OUT.ADDR_ONLY n

/-- A homing that seeks by stall (R160). -/
def Device.stallSeek (d : Device) (n : Nat) : Bool :=
  d.axSt n == stHoming && d.rd Reg.HOME_CFG.METHOD n == 1 && d.rd Reg.HOME_STAT.PHASE n == 1

/-! ### Words (R117, R190, R197) -/

/-- The words of the present loop period are valid for the loop. -/
def Device.wordsValid (d : Device) (t : Nat) : Bool := (d.tile t).tag == .valid || (d.tile t).tag == .subst

/-- The present loop period is held (R190): the link is UP or in REALIGN, and its word is absent or SETTLING. -/
def Device.heldPeriod (d : Device) (t : Nat) : Bool :=
  (d.rd Reg.TL_STAT.LSTATE t == 4 || d.rd Reg.TL_STAT.LSTATE t == 5)
    && ((d.tile t).tag == .absent || (d.tile t).tag == .settling)

/-- Current of phase `ph` (0 A, 1 B) of axis `n` in mA (R197). -/
def Device.milliamps (d : Device) (n ph : Nat) : Int :=
  divZ (nth 0 (2 * (n % 4) + ph) (d.tile (tileOf n)).words * 10000) 32768

/-- Measured bus voltage in mV, limited below to 8000 (R182, R197). -/
def Device.busMilli (d : Device) (t : Nat) : Int := max 8000 (divZ (nth 0 8 (d.tile t).words * 100000) 32768)

/-! ### Observer (R119 to R121) -/

/-- One phase measures: its current, and the voltage applied in the period just measured (R117, R119, R182). -/
def Phase.sense (p : Phase) (vb i duty : Int) : Phase :=
  { p with iPrev := p.i, i := i, u := divZ (duty * vb) 32768, eFwd := p.eHat }

/-- The observer of one phase, on the period just measured (R119). -/
def Phase.observe (p : Phase) (rcoil lcoil : Int) : Phase :=
  let e := p.u - divZ (rcoil * p.i) 1000 - divZ (lcoil * (p.i - p.iPrev)) 25
  { p with eHat := p.eHat + divZ (e - p.eHat) 16 }

/-- The load angle δ (R120). -/
def Device.loadAngle (d : Device) (n angle : Nat) : Int :=
  let a := d.ax n
  let vel := sext 32 (d.rd Reg.VEL.VEL n)
  let rotor := rotorAngle a.phaseA.eHat a.phaseB.eHat vel
  let w := sext 12 (toBits 12 ((angle : Int) - rotor))
  if vel < 0 then -w else w

/-- Bits of CUR_STAT.FLAGS. -/
def flagHeld : Nat := 1
/-- MARGIN_STARVED. -/
def flagStarved : Nat := 2
/-- FLOOR_VIOLATED. -/
def flagFloor : Nat := 4
/-- BUDGET_CUT. -/
def flagCut : Nat := 8
/-- DERATED. -/
def flagDerated : Nat := 16
/-- BLENDING. -/
def flagBlending : Nat := 32
/-- OBS_VALID. -/
def flagObs : Nat := 64

/-- Speed enough for the observer (R121). -/
def Device.obsFast (d : Device) (n : Nat) : Bool :=
  decide (d.rd Reg.STALL_CFG.OBS_VMIN n * 65536 ≤ (sext 32 (d.rd Reg.VEL.VEL n)).natAbs)

/-! ### Ledgers (R23, R140) -/

/-- A 64-bit quantity kept in 1/40000 nJ, as the registers show it: whole nJ. -/
def ledgerNano (x : Int) : Nat := toBits 64 (divF x 40000)

/-- The ledgers of axis `n` add the amounts of this period, or in a held one those of the last that was not held. A period
that has no word and is not held, its link not running, adds nothing. -/
def Device.ledger (d : Device) (n : Nat) : Device :=
  if !d.wordsValid (tileOf n) && !d.heldPeriod (tileOf n) then d.modAx n (fun a => { a with copInc := 0, delInc := 0 })
  else
    let a := d.ax n
    let ok := d.wordsValid (tileOf n)
    let cop := if ok then (a.phaseA.i.natAbs ^ 2 + a.phaseB.i.natAbs ^ 2) * d.rd Reg.MOTOR.RCOIL n else a.copInc
    let short := d.axSt n == stRest && d.rd Reg.CUR_CTRL.STANDSTILL n == 2
    let del := if ok then (if short then 0 else (a.phaseA.u * a.phaseA.i + a.phaseB.u * a.phaseB.i) * 1000)
      else a.delInc
    let d := d.modAx n (fun a => { a with
      copInc := cop, delInc := del, ecop := a.ecop + cop, edel := a.edel + del
      copper := if a.owner.isSome then a.copper + cop else a.copper })
    let c := ledgerNano (d.ax n).ecop
    let e := ledgerNano (d.ax n).edel
    (((d.wr Reg.ECOP_L.ECOP n c).wr Reg.ECOP_H.ECOP n (c / 2 ^ 32)).wr Reg.EDEL_L.EDEL n e).wr
      Reg.EDEL_H.EDEL n (e / 2 ^ 32)

/-! ### Measurement -/

/-- The measurement of a loop period (R119, R120, R139, R140): currents and voltages, the observer and δ of an energised
axis (Table 4.3, R109), the ledgers, and then the overcurrent judgement of every axis that is not in FAULT already. The
copper of the period in which a fault kills a move counts in its COPPER_E (DEDUCED, log entry 22). A held period only
repeats the amounts of the ledgers. -/
def Device.measure (d : Device) (n angle : Nat) : Device :=
  let t := tileOf n
  if !d.wordsValid t then d.ledger n
  else
    let vb := d.busMilli t
    let r : Int := d.rd Reg.MOTOR.RCOIL n
    let l : Int := d.rd Reg.MOTOR.LCOIL n
    let du (ph : Nat) : Int := nth 0 (2 * (n % 4) + ph) (d.tile t).echoDuties
    let ia := d.milliamps n 0
    let ib := d.milliamps n 1
    let runs := d.energised n
    let d := d.modAx n (fun a => { a with phaseA := a.phaseA.sense vb ia (du 0), phaseB := a.phaseB.sense vb ib (du 1) })
    let d := if runs then d.modAx n (fun a => { a with phaseA := a.phaseA.observe r l, phaseB := a.phaseB.observe r l })
      else d
    let d := d.ledger n
    let lim := min 9800 (d.rd Reg.CUR_LIM.OC_LIMIT n)
    if d.axSt n ≠ stFault ∧ (lim < ia.natAbs ∨ lim < ib.natAbs) then ((d.curEvt n 4).occur 0x03 n).hardFault n 1
    else if runs then d.wr Reg.CUR_LOAD.DELTA n (toBits 12 (d.loadAngle n angle))
    else d

/-! ### Lean value and arbitration (R122, R125 to R127, R131, R134) -/

/-- The lean value of the next period (R122). -/
def leanStep (obs : Bool) (delta target gain rise fall floor cap l : Int) : Int :=
  let step := if obs then clampI (-fall) rise (divZ ((delta - target) * gain) 256) else min (cap - l) rise
  min (max (l + step) floor) cap

/-- The value of item 6 moves toward a target at RISE or FALL (Table 4.2). -/
def toward (v target rise fall : Nat) : Nat :=
  if v < target then min target (v + rise) else max target (v - fall)

/-- The state gives axis `n` the lean value as item 6 (Table 4.2). -/
def Device.leanState (d : Device) (n : Nat) : Bool :=
  d.axSt n == stMoving || d.axSt n == stFollow || d.axSt n == stHoming

/-- The lean value L of axis `n` after a loop period (R122); a held period keeps it (R118). -/
def Device.leanOf (d : Device) (n : Nat) (obs held : Bool) : Nat :=
  let l := (d.ax n).lean
  let (margin, rise, fall, gain) := d.policy n
  if d.on Reg.CUR_CTRL.LEAN_EN n && d.leanState n && !held then
    (leanStep obs (sext 12 (d.rd Reg.CUR_LOAD.DELTA n)) (1024 - (margin : Int)) gain rise fall (d.floor n)
      (min (d.derate n) (d.ceil n)) l).toNat
  else l

/-- The demand that a motor identification under way asks for: TEST_I for 150 ms, then 20 % more (R145). -/
def Device.identDemand (d : Device) (n : Nat) : Option Nat :=
  (d.ax n).ident.map (fun r =>
    let e := (((d.ax n).owner.map d.entryOf).map (fun e => e.p 2 1)).getD 0
    if r.k < 6000 then e else e + e / 5)

/-- Value of item 6 of R125 for axis `n` (Table 4.2, R134, R145, R160); `obs` is OBS_VALID, `held` a held period. -/
def Device.wantOf (d : Device) (n : Nat) (obs held : Bool) : Nat :=
  let a := d.ax n
  let (_, rise, fall, _) := d.policy n
  let s := d.axSt n
  match d.identDemand n with
  | some i => i
  | none =>
    if d.stallSeek n then d.rd Reg.HOME_LIM.HOME_I n
    else if d.leanState n then
      if d.on Reg.CUR_CTRL.LEAN_EN n then d.leanOf n obs held else d.rd Reg.CUR_SET.FIXED_I n
    else if s = stStopping then min (d.derate n) (d.ceil n)
    else if s = stRest ∧ d.on Reg.CUR_CTRL.HOLD_LEAN n ∧ a.dwellDone then toward a.want (d.floor n) rise fall
    else toward a.want (d.rd Reg.CUR_SET.HOLD_I n) rise fall

/-- The ramp of R127 limits the demand; answers the demand, whether FLOOR acts, and the ramp after the period. -/
def rampDemand (ramp : Option Ramp) (want holdI rise floor cap : Nat) : Nat × Bool × Option Ramp :=
  match ramp with
  | none => (min (max want floor) cap, true, none)
  | some rp =>
    let k := if rp.hold then min 800 (rp.k + 1) else rp.k + rise
    let r := if rp.hold then holdI * k / 800 else k
    if rp.hold = false ∧ want ≤ r then (min (max want floor) cap, true, none)
    else if r < floor then (min r cap, false, some { rp with k := k })
    else (min r cap, true, some { rp with k := k })

/-- A demand before the tile budget cut, with the ceiling CAP, whether FLOOR acts, and whether a blend runs. -/
structure Demand where
  d : Nat
  cap : Nat
  floorActs : Bool
  blending : Bool
deriving DecidableEq, Repr

/-- What items 3 to 6 of R125 give before a blend: the lean value, item 6, the arbitrated value, whether FLOOR acts, and
the ramp after the period. -/
structure Arbitrated where
  lean : Nat
  want : Nat
  value : Nat
  floorActs : Bool
  ramp : Option Ramp
deriving DecidableEq, Repr

/-- Items 3 to 6 of R125 for axis `n` under the settings in force. -/
def Device.arbitrated (d : Device) (n : Nat) (obs held : Bool) : Arbitrated :=
  let want := d.wantOf n obs held
  let (_, rise, _, _) := d.policy n
  let (v, floorActs, ramp) := rampDemand (d.ax n).ramp want (d.rd Reg.CUR_SET.HOLD_I n) rise (d.floor n)
    (min (d.derate n) (d.ceil n))
  ⟨d.leanOf n obs held, want, v, floorActs, ramp⟩

/-- The fields whose change by a strobe may start a blend (R131). -/
def Device.blendFields (d : Device) (n : Nat) : List Nat :=
  [d.rd Reg.CUR_CTRL.LEAN_EN n, d.rd Reg.CUR_CTRL.POLICY n, d.rd Reg.CUR_BOUND.CEIL n, d.rd Reg.CUR_BOUND.FLOOR n,
   d.rd Reg.CUR_SET.FIXED_I n, d.rd Reg.CUR_SET.HOLD_I n]

/-- Those fields given other values. -/
def Device.withBlendFields (d : Device) (n : Nat) (l : List Nat) : Device :=
  ((((((d.wr Reg.CUR_CTRL.LEAN_EN n (nth 0 0 l)).wr Reg.CUR_CTRL.POLICY n (nth 0 1 l)).wr Reg.CUR_BOUND.CEIL n
    (nth 0 2 l)).wr Reg.CUR_BOUND.FLOOR n (nth 0 3 l)).wr Reg.CUR_SET.FIXED_I n (nth 0 4 l)).wr Reg.CUR_SET.HOLD_I n
    (nth 0 5 l))

/-- The blend of axis `n` in a period that arbitrates `v` (R131, R133): a strobe that moved the arbitrated value starts one
afresh; any other leaves the blend under way. -/
def Device.blendNow (d : Device) (n v : Nat) (obs held : Bool) : Option Blend :=
  match (d.ax n).blendAsk with
  | none => (d.ax n).blend
  | some q =>
    if ((d.withBlendFields n q.old).arbitrated n obs held).value = v then (d.ax n).blend else some ⟨q.d0, 0, 0⟩

/-- One period of a blend (R131, R133): Nb is fixed in its first period; it ends when it reaches Nb. -/
def blendDemand (b : Option Blend) (d1 ceil : Nat) : Nat × Option Blend × Bool :=
  match b with
  | none => (d1, none, false)
  | some b =>
    let n := if b.n ≠ 0 then b.n
      else if ceil < 4 * ((d1 : Int) - b.d0).natAbs then 40 else 8
    let k := b.k + 1
    let v := (b.d0 : Int) + divZ (((d1 : Int) - b.d0) * k) n
    (v.toNat, if k < n then some ⟨b.d0, k, n⟩ else none, decide (n ≤ k))

/-- Axis `n` is not energised: no demand, no blend; the re-energisation ramp of an ADDR_ONLY axis goes on all the same
(R109, R126, R167). -/
def Axis.idleDemand (a : Axis) (ramps : Bool) : Axis :=
  { a with blend := none, blendAsk := none, want := 0
           ramp := if ramps then a.ramp.map (fun r => if r.hold then { r with k := min 800 (r.k + 1) } else r) else a.ramp }

/-- Items 3 to 6 of R125 with ramp and blend: the demand of axis `n` before the budget cut. -/
def Device.arbitrate (d : Device) (n : Nat) : Device × Demand :=
  let held := !d.wordsValid (tileOf n)
  let obs := !held && d.obsFast n
  let der := d.derate n
  let cap := min der (d.ceil n)
  if !d.energised n then (d.modAx n (fun a => a.idleDemand (d.wouldEnergise n)), ⟨0, cap, false, false⟩)
  else
    let q := d.arbitrated n obs held
    let blend := if (d.ax n).ramp.isSome then none else d.blendNow n q.value obs held
    let (v, rest, ended) := blendDemand blend q.value (d.ceil n)
    let leans := d.on Reg.CUR_CTRL.LEAN_EN n && d.leanState n
    let d := d.modAx n (fun a => { a with
      want := q.want, ramp := q.ramp, blend := rest, blendAsk := none
      lean := if ended && leans then q.value else q.lean })
    let d := if (d.rd Reg.HOME_STAT.PHASE n == 1 || d.rd Reg.HOME_STAT.PHASE n == 4) && decide (der < d.ceil n)
      then d.modHome n (fun h => { h with derated := true }) else d
    (d, ⟨min v der, cap, q.floorActs, blend.isSome⟩)

/-! ### The tile budget cut (R130) -/

/-- The tile budget B in mA. -/
def tileBudget : Nat := 19798

/-- Weight of a priority. -/
def prioWeight (p : Nat) : Nat := 2 ^ (3 - p)

/-- The smallest `x` of R130 as numerator and denominator, over demands with their weights: axes that the cut takes
to 0 leave the sum, at most once for each of the four axes. -/
def budgetX : Nat → List (Nat × Nat) → Nat × Nat
  | 0, _ => (0, 1)
  | k + 1, l =>
    let sd := (l.map (·.1)).sum
    let sw := (l.map (fun p => p.1 * p.2)).sum
    if sd ≤ tileBudget ∨ sw = 0 then (0, 1)
    else
      let x := sd - tileBudget
      let rest := l.filter (fun p => x * p.2 < sw)
      if rest.length = l.length then (x, sw) else budgetX k rest

/-- The demands of a tile's axes after the cut. -/
def budgetCut (l : List (Nat × Nat)) : List Nat :=
  let (x, y) := budgetX 5 l
  l.map (fun p => if p.2 * x < y then p.1 * (y - p.2 * x) / y else 0)

/-! ### The current loop (R86, R87, R117, R118) -/

/-- Entry `i` of table `t` (R86, R88). -/
def Device.tableEntry (d : Device) (t i : Nat) : Nat :=
  if t = 0 then mt0 i
  else match sparseGet t d.tables with
    | some l => nth 0 i l
    | none => mt0 i

/-- The factors of phases A and B (Table 3.1). -/
def Device.factors (d : Device) (t angle : Nat) : Int × Int :=
  let i := angle % 1024
  let s : Int := d.tableEntry t i
  let c : Int := d.tableEntry t (1023 - i)
  match angle / 1024 % 4 with
  | 0 => (s, c)
  | 1 => (c, -s)
  | 2 => (-s, -c)
  | _ => (-c, s)

/-- Sign of an integer. -/
def signOf (x : Int) : Int := if x < 0 then -1 else if x = 0 then 0 else 1

/-- The PI loop of one phase (R117). -/
def Phase.regulate (p : Phase) (kp ki rcoil vb iSet : Int) (ff : Bool) : Phase :=
  let e := iSet - p.i
  let acc := if p.sat && signOf e == signOf p.duty then p.integ else clampI (-(vb * 256)) (vb * 256) (p.integ + ki * e)
  let v := divZ (kp * e + acc) 256 + (if ff then divZ (rcoil * iSet) 1000 + p.eFwd else 0)
  let raw := divZ (v * 32768) vb
  { p with integ := acc, duty := clampI (-32767) 32767 raw, sat := decide (raw < -32767 ∨ 32767 < raw) }

/-- The current loop of axis `n` on demand `dem` at an angle. A held period repeats the last duty. -/
def Device.regulate (d : Device) (n angle dem : Nat) : Device :=
  if !d.energised n then d.modAx n (fun a => { a with
    phaseA := { a.phaseA with integ := 0, duty := 0, sat := false }
    phaseB := { a.phaseB with integ := 0, duty := 0, sat := false } })
  else if !d.wordsValid (tileOf n) then d
  else
    let (fa, fb) := d.factors (d.rd Reg.MTAB.MT n) angle
    let kp : Int := d.rd Reg.LOOP_GAIN.KP n
    let ki : Int := d.rd Reg.LOOP_GAIN.KI n
    let r : Int := d.rd Reg.MOTOR.RCOIL n
    let vb := d.busMilli (tileOf n)
    let ff := d.on Reg.CUR_CTRL.FF_EN n
    d.modAx n (fun a => { a with
      phaseA := a.phaseA.regulate kp ki r vb (divZ ((dem : Int) * fa) 65535) ff
      phaseB := a.phaseB.regulate kp ki r vb (divZ ((dem : Int) * fb) 65535) ff })

/-! ### Closing the period of an axis -/

/-- The stall count (R137): a held period neither advances nor resets it. -/
def stallCount (held obs beyond : Bool) (k : Nat) : Nat := if held then k else if obs && beyond then k + 1 else 0

/-- Flags, stall count, loop and address word of axis `n` with its demand `dem` after the cut. LEAN_HELD shows every held
period (R118). -/
def Device.closePeriod (d : Device) (n angle : Nat) (q : Demand) (dem : Nat) : Device :=
  let t := tileOf n
  let held := d.heldPeriod t
  let obs := d.wordsValid t && d.obsFast n && !d.on Reg.ADDR_OUT.ADDR_ONLY n
  let cut := decide (dem < q.d)
  let ceilNow := if cut then dem else q.cap
  let delta := sext 12 (d.rd Reg.CUR_LOAD.DELTA n)
  let (margin, _, _, _) := d.policy n
  let en := d.energised n
  let der := d.derate n
  let floorV := en && q.floorActs && decide (dem < d.floor n) && (cut || decide (der < d.floor n))
  let starved := en && ((obs && decide (1024 - (margin : Int) < delta) && dem == ceilNow) || cut)
  let lean := d.on Reg.CUR_CTRL.LEAN_EN n && !d.stallSeek n
  let beyond := en && decide ((d.rd Reg.STALL_CFG.STALL_ANG n : Int) < delta) && (dem == ceilNow || !lean)
  let flags := b2n held * flagHeld + b2n starved * flagStarved + b2n floorV * flagFloor + b2n cut * flagCut
    + b2n (der < 0xFFFF) * flagDerated + b2n q.blending * flagBlending + b2n obs * flagObs
  let d := ((d.wr Reg.CUR_STAT.DEMAND n dem).wr Reg.CUR_STAT.FLAGS n flags).wr Reg.CUR_LOAD.L n (d.ax n).lean
  let d := (d.wr Reg.CEIL_NOW.CEIL n ceilNow).wr Reg.CEIL_NOW.DERATE n der
  let d := if starved then d.curEvt n 1 else d
  let d := if floorV then d.curEvt n 2 else d
  let d := if cut then d.curEvt n 3 else d
  let d := if held then d.curEvt n 5 else d
  let d := d.modAx n (fun a => { a with stallRun := stallCount held obs beyond a.stallRun })
  (d.regulate n angle dem).addressOut n angle dem (d.ceil n)

/-! ### Step pulses (R63 to R67) -/

/-- SHIFT and PW as they act (R67). -/
def Device.stepShift (d : Device) (n : Nat) : Nat := min 10 (d.rd Reg.STEP_OUT.SHIFT n)
/-- PW as it acts, in CD04 cycles of 6.25 ns. -/
def Device.stepWidth (d : Device) (n : Nat) : Nat := max 16 (d.rd Reg.STEP_OUT.PW n)

/-- The level at DIR_GPIO of axis `n` while DIR_EN is set: high for positive motion, low with DIR_POL set (R65, Table 2.7). -/
def Device.dirBall (d : Device) (n : Nat) : Bool := (d.ax n).stepOut.dirNeg == d.on Reg.STEP_OUT.DIR_POL n

/-- The level at STEP_GPIO of axis `n` during a pulse and between pulses: STEP_POL 1 is active low (R63, Table 2.7). -/
def Device.stepBall (d : Device) (n : Nat) (pulse : Bool) : Bool := pulse != d.on Reg.STEP_OUT.STEP_POL n

/-- The CD04 cycles of a loop period in which the accumulator crosses a multiple of `m`, moving from `p` by `dx`
spread evenly over 4000 cycles; at most `k` of them. -/
def crossings (p dx m : Int) : List Nat :=
  let q := p + dx
  if 0 < dx then
    (List.range (divF q m - divF p m).toNat).map (fun (k : Nat) =>
      (((divF p m + 1 + k) * m - p) * 4000 / dx).toNat)
  else if dx < 0 then
    (List.range (divF p m - divF q m).toNat).map (fun (k : Nat) =>
      ((p - (divF p m - k) * m) * 4000 / (-dx)).toNat)
  else []

/-- The STEP_OUT in force as the pulses see it: direction output on, DSU in CD04 cycles, PW, ball and polarity. -/
structure StepCfg where
  dirEn : Bool
  dsu : Nat
  width : Nat
  gpio : Nat
  low : Bool
deriving DecidableEq, Repr

/-- The step output of axis `n` as it acts. -/
def Device.stepCfg (d : Device) (n : Nat) : StepCfg where
  dirEn := d.on Reg.STEP_OUT.DIR_EN n
  dsu := d.rd Reg.STEP_OUT.DSU n * 160
  width := d.stepWidth n
  gpio := d.rd Reg.STEP_OUT.STEP_GPIO n
  low := d.on Reg.STEP_OUT.STEP_POL n

/-- What the output can do before `limit`, step by step: the direction changes once the pulses of the old one have left and
their spacing has passed, and the setup time runs from then (R65); a pulse starts once it is due, spaced and set up. -/
def StepOut.issue (c : StepCfg) (limit : Nat) : Nat → StepOut → StepOut
  | 0, o => o
  | k + 1, o =>
    match o.queue with
    | [] => o
    | (t, neg) :: rest =>
      let due := max t o.free
      if c.dirEn && neg != o.dirNeg then
        if due < limit then { o with dirNeg := neg, ready := due + c.dsu }.issue c limit k else o
      else
        let s := max due (if c.dirEn then o.ready else 0)
        if s < limit then
          { o with queue := rest, free := s + 2 * c.width, issued := o.issued + 1
                   pulse := some ⟨c.gpio, c.low, s + c.width⟩ }.issue c limit k
        else o

/-- Queue the crossings of a period; a sixteenth waiting pulse is dropped. -/
def StepOut.enqueue (c : StepCfg) (neg : Bool) : List Nat → StepOut → StepOut × Bool
  | [], o => (o, false)
  | t :: rest, o =>
    let o := o.issue c (t + 1) 32
    if o.queue.length < 15 then
      { o with queue := o.queue ++ [(t, neg)] }.enqueue c neg rest
    else ((o.enqueue c neg rest).1, true)

/-- The times of an output count from the next loop period. -/
def StepOut.age (o : StepOut) : StepOut :=
  { o with queue := o.queue.map (fun q => (q.1 - 4000, q.2)), free := o.free - 4000, ready := o.ready - 4000
           pulse := o.pulse.bind (fun p => if p.ends ≤ 4000 then none else some { p with ends := p.ends - 4000 }) }

/-- The pulses of a motion of the accumulator of axis `n` from `p` by `dx` are queued (R63, R64). -/
def Device.queuePulses (d : Device) (n : Nat) (p dx : Int) : Device :=
  if !d.on Reg.STEP_OUT.STEP_EN n then d
  else
    let (o, lost) := (d.ax n).stepOut.enqueue (d.stepCfg n) (decide (dx < 0)) (crossings p dx (2 ^ (d.stepShift n + 24)))
    let d := d.modAx n (fun a => { a with stepOut := o })
    if lost then d.axEvt n 6 else d

/-- The step output of axis `n` in a loop period in which its accumulator moved from `p` by `dx`. While STEP_EN is 0 none is
issued and those that wait are discarded. -/
def Device.stepPulses (d : Device) (n : Nat) (p dx : Int) : Device :=
  let on := d.on Reg.STEP_OUT.STEP_EN n
  let c := d.stepCfg n
  (d.queuePulses n p dx).modAx n (fun a => { a with stepOut :=
    (if on then a.stepOut.issue c 4000 32 else { a.stepOut with queue := [] }).age })

/-- The ball and the level of a step pulse still in progress at the loop-period boundary: that of the STEP_OUT under which
it started (R64). -/
def Device.pulseBall (d : Device) (n : Nat) : Option (Nat × Bool) :=
  (d.ax n).stepOut.pulse.map (fun p => (p.gpio, !p.low))

/-! ### The motion of a loop period (R31, R93, R150) -/

/-- Axis `n` is in the tick for which a migration holds it (R565). -/
def Axis.heldTick (a : Axis) : Bool := a.heldFor.any (fun h => h.2)

/-- The rate multiplier or the interpolator advances axis `n` by one loop period; an axis that a migration holds stands. -/
def Device.advance (d : Device) (n : Nat) : Device :=
  let a := d.ax n
  let p := a.acc.toInt
  let d :=
    if d.axSt n = stFollow then (if a.heldTick then d else d.interpolate n)
    else
      let q := divF a.delta.toInt 4
      let dx := if a.sub < 3 then fix q else if a.sub = 3 then a.mulLeft else 0
      d.modAx n (fun a => { a with acc := a.acc + dx, mulLeft := a.mulLeft - dx, sub := a.sub + 1 })
  let moved := ((d.ax n).acc - a.acc).toInt
  let d := d.stepPulses n p moved
  let d := (d.homeSense n).refreshLimits n
  d.wr Reg.ANGLE.ANGLE n (d.angleAt n (d.ax n).acc)

/-- An enabled axis whose link delivers valid words leaves OFF (R41, R199). -/
def Device.leaveOff (d : Device) (n : Nat) : Device :=
  if d.axSt n = stOff ∧ d.on Reg.AX_CTRL.ENABLE n ∧ d.linkRuns n ∧ d.wordsValid (tileOf n)
      ∧ !d.on Reg.AX_STAT.DEGRADED n ∧ !d.shutFor n then d.energise n else d

end Sys2Proof.Machine
end

