-- ==== Sys2Proof/Machine/Strobes.lean ====
section
/-! DEFINITION. Shadows, strobes and their application (R13, R47, R61, R67, R98, R105, R108, R129, R131, R136,
R154, R315 to R325, R590, R595). -/
namespace Sys2Proof.Machine

/-! ### GPIO uses (R590, R591) -/

/-- The step or direction output in force of axis `n` maps GPIO `g`. -/
def Device.stepMaps (d : Device) (n g : Nat) : Bool :=
  (d.on Reg.STEP_OUT.STEP_EN n && d.rd Reg.STEP_OUT.STEP_GPIO n == g)
  || (d.on Reg.STEP_OUT.DIR_EN n && d.rd Reg.STEP_OUT.DIR_GPIO n == g)

/-- GPIO_OE of GPIO `g`. -/
def Device.gpioOe (d : Device) (g : Nat) : Bool :=
  if g < 32 then bitOf (d.rd Reg.GPIO_OE_L.OE) g else bitOf (d.rd Reg.GPIO_OE_H.OE) (g - 32)

/-- GPIO `g` is an output: by GPIO_OE, or mapped by a step output in force (R590). -/
def Device.gpioOutput (d : Device) (g : Nat) : Bool :=
  d.gpioOe g || (List.range 64).any (fun n => d.stepMaps n g)

/-- A limit or home switch in force of axis `n` maps GPIO `g` (R154). -/
def Device.homeMaps (d : Device) (n g : Nat) : Bool :=
  (d.on Reg.HOME_CFG.LIM_EN n && (d.rd Reg.HOME_CFG.LIM_NEG_GPIO n == g || d.rd Reg.HOME_CFG.LIM_POS_GPIO n == g))
  || (d.rd Reg.HOME_CFG.METHOD n == 0 && d.rd Reg.HOME_CFG.SW_GPIO n == g)

/-! ### Raising (R315, R316, R319, R322) -/

/-- Keys of the block of axis `n`. -/
def inAxisBlock (n k : Nat) : Bool := 0x4000 + n * 0x100 ≤ keyAddr k && keyAddr k < 0x4100 + n * 0x100

/-- A strobe stages the block of axis `n`; a set that still waits is replaced. -/
def Device.stageAxis (g n : Nat) (d : Device) : Device :=
  let fs := d.regs.sh.filter (fun p => inAxisBlock n p.1)
  let other := d.staged.any (fun s => s.axis == n && s.group != g)
  let d := { d with staged := d.staged.filter (fun s => s.axis != n) ++ [⟨n, g, fs⟩] }
  if other then d.regEvt 1 else d

/-- The strobe of group `g` is raised. -/
def Device.raiseStrobe (g : Nat) (d : Device) : Device :=
  let d := if bitOf (d.rd Reg.STROBE_STAT.PEND) g then d.regEvt 1 else d
  let d := d.each 64 (fun n d => if d.rd Reg.AX_CTRL.SG n = g then d.stageAxis g n else d)
  d.wr Reg.STROBE_STAT.PEND 0 (setBitOf (d.rd Reg.STROBE_STAT.PEND) g)

/-- The strobes of a mask of groups are raised (R315). -/
def Device.raiseStrobes (d : Device) (mask : Nat) : Device := d.eachIn mask 8 (fun g d => d.raiseStrobe g)

/-! ### Applying (R317, R321, R323, R324) -/

/-- The value a staged set would give a field: its staged shadow, else the value in force. -/
def Device.staged? (d : Device) (fs : RegFile) (f : Field) (n : Nat) : Nat := (sparseGet (f.key n) fs).getD (d.rd f n)

/-- Put the staged shadows whose key is not held back into force. -/
def Device.putStaged (d : Device) (fs : RegFile) (hold : Nat → Bool) : Device :=
  fs.foldl (fun d p =>
    if hold p.1 then d else { d with regs := { d.regs with val := sparsePut p.1 p.2 d.regs.val } }) d

/-- R67: STEP_OUT would map a ball that has another function, or one ball twice. -/
def Device.stepConflict (d : Device) (fs : RegFile) (n : Nat) : Bool :=
  let v (f : Field) : Nat := d.staged? fs f n
  let sg := v Reg.STEP_OUT.STEP_GPIO
  let dg := v Reg.STEP_OUT.DIR_GPIO
  let se := v Reg.STEP_OUT.STEP_EN != 0
  let de := v Reg.STEP_OUT.DIR_EN != 0
  let taken (g : Nat) : Bool := g < 48 && (d.gpioOe g || (List.range 64).any (fun m =>
    (m != n && d.stepMaps m g) || d.homeMaps m g))
  (se && taken sg) || (de && taken dg) || (se && de && sg == dg && sg < 48)

/-- R108: ADDR_OUT would map one select twice or overrun the 20 µs of its port. -/
def Device.addrConflict (d : Device) (fs : RegFile) (n : Nat) : Bool :=
  let v (f : Field) : Nat := d.staged? fs f n
  let p := v Reg.ADDR_OUT.PORT
  v Reg.ADDR_OUT.ADDR_EN != 0 &&
    ((List.range 64).any (fun m => m != n && d.on Reg.ADDR_OUT.ADDR_EN m && d.rd Reg.ADDR_OUT.PORT m == p
        && d.rd Reg.ADDR_OUT.CS m == v Reg.ADDR_OUT.CS)
      || d.portOverrun p (((d.addrAxes p).filter (fun m => m != n)).length + 1))

/-- R154: HOME_CFG would map a limit or a home switch onto an output. -/
def Device.homeConflict (d : Device) (fs : RegFile) (n : Nat) : Bool :=
  let v (f : Field) : Nat := d.staged? fs f n
  let bad (g : Nat) : Bool := g < 48 && d.gpioOutput g
  (v Reg.HOME_CFG.LIM_EN != 0 && (bad (v Reg.HOME_CFG.LIM_NEG_GPIO) || bad (v Reg.HOME_CFG.LIM_POS_GPIO)))
  || (v Reg.HOME_CFG.METHOD == 0 && bad (v Reg.HOME_CFG.SW_GPIO))

/-- MT_LOAD is copying table `t` (Table 3.7). -/
def Device.tableCopying (d : Device) (t : Nat) : Bool :=
  d.sched.tasks.any (fun k => k.op == 0x0212 && k.state == .executing && k.entry.p 1 0 == t)

/-- What the shadows of FOL_CFG name takes the place of another input or none (R92). -/
def Device.follow? (d : Device) (n : Nat) : Option Nat :=
  if d.on Reg.FOL_CFG.SRC_EN n then some (d.rd Reg.FOL_CFG.SRC n) else none

/-- A staged set applies to the block of axis `n`. -/
def Device.applyAxis (d : Device) (n : Nat) (fs : RegFile) : Device :=
  let off (k : Nat) : Nat := keyAddr k - (0x4000 + n * 0x100)
  let v (f : Field) : Nat := d.staged? fs f n
  let key (f : Field) : Nat := f.key n
  let badStop := !d.stopChainOk (v Reg.STOP_CHAIN.CHAIN) (v Reg.VMAX.VMAX)
  let badTable := v Reg.MTAB.MT != d.rd Reg.MTAB.MT n && d.tableCopying (v Reg.MTAB.MT)
  let badBound := decide (min 8000 (v Reg.CUR_BOUND.CEIL) < min 8000 (v Reg.CUR_BOUND.FLOOR))
  let badStep := d.stepConflict fs n
  let badAddr := d.addrConflict fs n
  let inFollow := d.axSt n == stFollow
  let homing := (d.ax n).home.isSome
  let oldBlend := d.blendFields n
  let oldSrcEn := d.rd Reg.FOL_CFG.SRC_EN n
  let oldSrc := d.follow? n
  let oldDirEn := d.on Reg.STEP_OUT.DIR_EN n
  let oldMode := d.rd Reg.CUR_CTRL.STANDSTILL n
  let oldSlim := d.slim n
  let demand := d.rd Reg.CUR_STAT.DEMAND n
  let hold (k : Nat) : Bool :=
    (badStop && (k == key Reg.STOP_CHAIN.CHAIN || k == key Reg.VMAX.VMAX))
    || (badBound && off k == 0xA4) || (badStep && off k == 0x4C) || (badAddr && off k == 0x98)
    || (badTable && k == key Reg.MTAB.MT)
    || (inFollow && (k == key Reg.FOL_CFG.SRC || k == key Reg.FOL_CFG.SRC_EN || k == key Reg.FOL_CFG.STEP_SIZE
        || k == key Reg.FOL_CFG.INVERT))
    || off k == 0xE0
  let d := d.putStaged fs hold
  let badHome := !homing && d.homeConflict fs n
  let d := d.putStaged fs (fun k => off k != 0xE0 || homing || badHome)
  let d := if badStop then d.axEvt n 4 else d
  let d := if badBound then d.curEvt n 6 else d
  let d := if badStep then d.axEvt n 7 else d
  let d := if badAddr then d.folEvt n 3 else d
  let d := if badTable then d.folEvt n 5 else d
  let d := if badHome then d.homeEvt n 5 else d
  let d := if d.rd Reg.FOL_CFG.SRC_EN n ≠ oldSrcEn then d.wr Reg.FOL_PEND.PENDING n 0 else d
  let d := if (d.follow? n).isSome && d.follow? n != oldSrc then d.newSource n else d
  let d := if d.on Reg.STEP_OUT.DIR_EN n && !oldDirEn
    then d.modAx n (fun a => { a with stepOut := { a.stepOut with dirNeg := false, ready := 0 } }) else d
  let d := if d.slim n ≠ oldSlim then d.modAx n (fun a => { a with softOut := false }) else d
  let mode := d.rd Reg.CUR_CTRL.STANDSTILL n
  let d := if d.axSt n = stRest ∧ (oldMode = 1 ∨ oldMode = 2) ∧ mode ≠ 1 ∧ mode ≠ 2
    then d.modAx n (fun a => { a with want := d.rd Reg.CUR_SET.HOLD_I n, ramp := some ⟨false, 0⟩ }) else d
  if d.blendFields n ≠ oldBlend ∧ d.energised n
  then d.modAx n (fun a => { a with blendAsk := some (a.blendAsk.getD ⟨demand, oldBlend⟩) }) else d

end Sys2Proof.Machine
end

