-- ==== Sys2Proof/Machine/Engines.lean ====
section
/-! DEFINITION. Engines, spares, the checker's rotation, and the FUNC reset of an axis (R29, R561 to R569, R572). -/
namespace Sys2Proof.Machine

/-- Engine `e` is retired (ENG_RETIRED). -/
def Device.retired (d : Device) (e : Nat) : Bool := bitOf (d.rd Reg.ENG_RETIRED.MASK (e / 32)) (e % 32)

/-- Set or clear ENG_RETIRED of engine `e`. -/
def Device.setRetired (d : Device) (e : Nat) (v : Bool) : Device :=
  let m := d.rd Reg.ENG_RETIRED.MASK (e / 32)
  d.wr Reg.ENG_RETIRED.MASK (e / 32) (if v then setBitOf m (e % 32) else clrBitOf m (e % 32))

/-- The engine that serves axis `n`; 0x7F when none does. -/
def Device.engineOf (d : Device) (n : Nat) : Nat := d.rd Reg.AX_STAT.ENGINE n

/-- Engine `e` is an idle spare: not retired, serving no axis, promised to none (R566). -/
def Device.idle (d : Device) (e : Nat) : Bool :=
  !d.retired e && (List.range 64).all (fun n => d.engineOf n != e
    && (d.ax n).heldFor.map (·.1) != some e)

/-- The idle engines in ascending order. -/
def Device.idleEngines (d : Device) : List Nat := (List.range 68).filter (fun e => d.idle e)

/-- CHK_STAT.SPARES follows the idle engines. -/
def Device.refreshSpares (d : Device) : Device := d.wr Reg.CHK_STAT.SPARES 0 (min 15 d.idleEngines.length)

/-- Axis `n` is served by engine `e` from now on (R566). -/
def Device.assignEngine (d : Device) (n e : Nat) : Device :=
  (((d.wr Reg.AX_STAT.ENGINE n e).wr Reg.AX_STAT.MIGRATED n (b2n (e != n))).modAx n
    (fun a => { a with heldFor := none })).refreshSpares

/-- Record entry RETIRED (Table 17.6). -/
def Device.recordRetired (d : Device) (kind unit axis : Nat) : Device :=
  d.record 0x0031 (leBytes 1 kind ++ leBytes 1 unit ++ leBytes 1 axis)

/-! ### The checker in a tick (R561 to R564) -/

/-- The axis the rotation comes to: the first served one from `next` on. -/
def Device.checkAxis (d : Device) : Option Nat :=
  ((List.range 64).map (fun k => (d.events.checker.next + k) % 64)).find? (fun n => d.engineOf n != 0x7F)

/-- Change the checker. -/
def Device.modChecker (d : Device) (f : Checker → Checker) : Device :=
  d.modEvents (fun v => { v with checker := f v.checker })

/-! ### Retirement and migration (R565 to R569) -/

/-- The axis that engine `e` serves. -/
def Device.servedBy (d : Device) (e : Nat) : Option Nat := (List.range 64).find? (fun n => d.engineOf n == e)

/-- Axis `n` is left without an engine: DEGRADED, every entry of its ring FUNCTION_DOWN (R567, R569). -/
def Device.degrade (d : Device) (n : Nat) : Device :=
  (((d.wr Reg.AX_STAT.ENGINE n 0x7F).wr Reg.AX_STAT.DEGRADED n 1).wr Reg.AX_STAT.MIGRATED n 0).flushAxis n .functionDown

/-- The checker starts to carry axis `n`. -/
def Device.beginCarry (d : Device) (n : Nat) : Device := (d.wr Reg.CHK_STAT.STATE 0 1).wr Reg.CHK_STAT.CARRIED 0 n

/-- No spare is idle and the checker is rotating (R567): the axis is carried to OFF. -/
def Device.carry (d : Device) (n : Nat) : Device :=
  let d := ((d.degrade n).chkEvt 3).chkEvt 4
  if d.stoppable n then (d.askStop n 6).beginCarry n
  else if d.axSt n = stStopping then
    (d.modAx n (fun a => { a with stop := a.stop.map (fun s => { s with toOff := true }) })).beginCarry n
  else
    let d := d.modAx n (fun a => { a with
      endReason := if a.owner.isSome then 6 else a.endReason
      home := a.home.map (fun h => if h.fail = 0 then { h with fail := 4 } else h) })
    (d.goOff n).endOwner n

/-- Engine `e` is retired (R565): its axis is held for a tick and goes to the lowest idle spare (R566), is carried to
OFF (R567), or takes the hard-fault path (R568). -/
def Device.retireEngine (d : Device) (e : Nat) : Device :=
  let d := ((d.setRetired e true).engEvt e 1).refreshSpares
  match d.servedBy e with
  | none => d.recordRetired 0 e 0xFF
  | some n =>
    match d.idleEngines with
    | x :: _ => ((d.modAx n (fun a => { a with heldFor := some (x, false) })).refreshSpares).recordRetired 0 e n
    | [] =>
      let d := d.recordRetired 0 e 0xFF
      if d.rd Reg.CHK_STAT.STATE = 0 then d.carry n else ((d.chkEvt 3).hardFault n 3).degrade n

/-- Class 0x00: retirement, held for the verdict while the checker is suspect; none while it is DOWN. -/
def Device.engineLasting (d : Device) (e : Nat) : Device :=
  if d.events.checker.suspect then d.modChecker (fun c => { c with heldRetire := c.heldRetire ++ [e] })
  else if d.rd Reg.CHK_STAT.STATE = 3 then d
  else d.retireEngine e

/-- A unit turns lasting: the latch, the record entry LASTING, and LASTING in FAULT_EVT (R556). -/
def Device.latchUnit (d : Device) (c u : Nat) : Device :=
  let d := (d.setScrUnit { d.scrUnit c u with due := false, latched := true, inForce := true }).refreshScr c
  (d.record 0x0030 (leBytes 2 (unitEvent c u) ++ leBytes 1 c ++ leBytes 1 u)).faultEvt 0

/-- A mismatch of engine `e` (R562, R564): the occurrence, a checker that turns suspect, and the retirement at the
boundary that ends the checked tick (R565). -/
def Device.mismatch (d : Device) (e : Nat) : Device :=
  let now := d.grain
  let d := (d.count Reg.CHK_MISMATCH.COUNT).engEvt e 0
  let d := d.modChecker (fun c => { c with
    mismatches := (e, now) :: c.mismatches.filter (fun m => now - m.2 < 32768) })
  let d := d.occur 0x00 e
  let d := if d.events.checker.mismatches.any (fun m => m.1 != e) then
      ((d.modChecker (fun c => { c with suspect := true })).chkEvt 0).wr Reg.CHK_STAT.STATE 0 2
    else d
  if (d.scrUnit 0x00 e).due then (d.latchUnit 0x00 e).engineLasting e else d

/-- The check of the tick that ends (R561): none where the checker carried, tested itself, was DOWN or ran a held axis;
the rotation then resumes with the same axis. -/
def Device.judgeCheck (d : Device) (mismatch : Bool) : Device :=
  let c := d.events.checker.checking
  let d := d.modChecker (fun c => { c with checking := none })
  match c with
  | none => d
  | some n =>
    if d.rd Reg.CHK_STAT.STATE != 0 || d.axes.any (fun a => a.heldFor.isSome) || d.engineOf n == 0x7F then d
    else
      let d := (d.wr Reg.CHK_STAT.AXIS 0 n).count Reg.CHK_COUNT.COUNT
      let d := d.modChecker (fun c => { c with next := (n + 1) % 64 })
      if mismatch then d.mismatch (d.engineOf n) else d

/-- The axis that the checker checks in the tick that begins (R561). -/
def Device.chooseCheck (d : Device) : Device :=
  if !d.on Reg.CHK_CTRL.EN || d.rd Reg.CHK_STAT.STATE != 0 || d.axes.any (fun a => a.heldFor.isSome)
      || d.events.checker.checking.isSome then d
  else d.modChecker (fun c => { c with checking := d.checkAxis })

/-! ### AXIS_REINIT (R572, R574) -/

/-- The keys of the axis block that AXIS_REINIT keeps. -/
def axisKept (n : Nat) : List Nat :=
  [Reg.POS_L.POS.key n, Reg.POS_H.POS.key n, Reg.POS_F.FRAC.key n, Reg.ANGLE_OFS.OFS.key n,
   Reg.AX_STAT.POS_STATE.key n, Reg.AX_STAT.ENGINE.key n, Reg.AX_STAT.MIGRATED.key n, Reg.AX_STAT.DEGRADED.key n,
   Reg.ECOP_L.ECOP.key n, Reg.ECOP_H.ECOP.key n, Reg.EDEL_L.EDEL.key n, Reg.EDEL_H.EDEL.key n]

/-- Clear the latches of some classes of a unit (R558). -/
def Device.clearLatches (d : Device) (cs : List Nat) (u : Nat) : Device := cs.foldl (fun d c => d.clearLatch c u) d

/-- The FUNC reset of axis `n`; answers whether the axis was given an engine. -/
def Device.axisReinit (d : Device) (n : Nat) : Device × Bool :=
  let d := if d.quiet n || d.axSt n == stFault then d else d.hardFaultFree n
  let d := d.flushAxis n .functionDown
  let d := { d with staged := d.staged.filter (fun s => s.axis != n) }
  let d := d.funcReset (0x4000 + n * 0x100) (0x4100 + n * 0x100) (axisKept n)
  let d := d.modAx n (fun a => { Axis.reset with
    acc := a.acc, pos := a.acc, ecop := a.ecop, edel := a.edel, ring := a.ring, heldFor := a.heldFor })
  let d := d.modTile (tileOf n) (fun t => { t with clrFaults := true })
  let d := d.clearLatches [0x02, 0x03, 0x07] n
  if (d.ax n).heldFor.isSome then (d, false)
  else if d.on Reg.AX_STAT.DEGRADED n then
    match d.idleEngines with
    | e :: _ => ((d.wr Reg.AX_STAT.DEGRADED n 0).assignEngine n (if d.idle n then n else e), true)
    | [] => (d, false)
  else if d.idle n && d.engineOf n != n then (d.assignEngine n n, true)
  else (d, false)

/-- AXIS_REINIT acts on its mask: at the tick boundary after it was taken, or its refusal. -/
def Device.finishReinit (d : Device) (tag : Nat) : Device :=
  let e := d.entryOf tag
  let m := e.p 8 0
  if !e.flag 8 0 && (bitsBelow m 64).any (fun n => !(d.quiet n || d.axSt n == stFault)) then d.refuse tag .busyMoving
  else
  let (d, given) := (bitsBelow m 64).foldl (fun (p : Device × Nat) n =>
    let (d, g) := p.1.axisReinit n
    (d, if g then setBitOf p.2 n else p.2)) (d, 0)
  d.say.complete tag .ok false (leBytes 8 m ++ leBytes 8 given)

end Sys2Proof.Machine
end

