-- ==== Sys2Proof/Machine/Motion.lean ====
section
/-! DEFINITION. The motion machine's events: the trajectory tick, the ring head, the loop period, stops, settling,
homing and follow events (chapters 02 to 05), one meaning each. -/
namespace Sys2Proof.Machine

/-- The motion machine runs: CD04 is clocked and the device is in RUN or FULL. -/
def Device.motionRuns (d : Device) : Bool := d.power.motion && d.running

/-- An event of the device that leaves fuses and queue alone. -/
def State.devStep (s : State) (f : Device → Device) : Host.Outcome State Fault Refusal := .next { s with dev := f s.dev }

/-! ### The end of a tick (R31, R32, R37, R56, R59, R74) -/

/-- The position `p` of axis `n` in its registers. -/
def Device.showPos (d : Device) (n : Nat) (p : BitVec 64) : Device :=
  let x := p.toNat / 2 ^ 24
  ((d.wr Reg.POS_L.POS n x).wr Reg.POS_H.POS n (x / 2 ^ 32)).wr Reg.POS_F.FRAC n p.toNat

/-- Publish the tick-boundary values of axis `n`. -/
def Device.publishAxis (d : Device) (n : Nat) (p : BitVec 64) (v : Int) : Device :=
  (d.showPos n p).wr Reg.VEL.VEL n (toBits 32 (divF v (2 ^ 8)))

/-- The scale in force moves toward SCALE (R56). -/
def Device.slewScale (d : Device) (n : Nat) : Device :=
  let t := d.rd Reg.SCALE.SCALE n
  let s := d.rd Reg.SCALE_NOW.SCALE n
  let k := d.rd Reg.SCALE_SLEW.SLEW n
  d.wr Reg.SCALE_NOW.SCALE n (if k = 0 then t else if s < t then min t (s + k) else max t (s - k))

/-- Soft limits are checked on axis `n` (R59, R97, R156). -/
def Device.slimActive (d : Device) (n : Nat) : Bool :=
  d.on Reg.AX_OPT.SLIM_EN n &&
    (match (d.ax n).home with
     | none => true
     | some h => h.redefined && !h.verify)

/-- The first tick that ends outside the soft limits while they are checked sets SOFT_LIMIT and asks for the stop chain; a
stop chain that runs goes on (R49, R59). -/
def Device.checkSoft (d : Device) (n : Nat) (now : Int) : Device :=
  let (lo, hi) := d.slim n
  let outside := d.slimActive n && decide (now < lo ∨ hi < now)
  let first := outside && !(d.ax n).softOut
  let d := d.modAx n (fun a => { a with softOut := outside })
  if first then
    let d := d.axEvt n 2
    if d.stoppable n then d.askStop n 3 else d
  else d

/-- The tick of axis `n` ends: the accumulator stands at p(k); v is its motion, that of a tick cut short by a fault too. -/
def Device.closeTick (d : Device) (n : Nat) : Device :=
  let a := d.ax n
  let p := a.acc + a.mulLeft
  let v := (p - a.pos).toInt
  let d := d.modAx n (fun a => { a with
    acc := p, pos := p, moved := p - a.pos, mulLeft := 0, sub := 0, ticks := a.ticks + 1
    leave := a.leave.map (fun l => { l with ticks := l.ticks + 1 }) })
  let d := if a.pos.toInt + v ≠ p.toInt then d.axEvt n 9 else d
  let d := (d.publishAxis n p v).slewScale n
  (d.checkSoft n (counts p)).checkLimit n v

/-! ### Chains in a tick (R35 to R38, R55, R57) -/

/-- Axis `n` is set to move by `x` units of 2^-24 counts in the coming tick. -/
def Device.giveTick (d : Device) (n : Nat) (target : BitVec 64) : Device :=
  d.modAx n (fun a => { a with delta := target - a.acc, mulLeft := target - a.acc, sub := 0 })

/-- A finite link sets LINK_EVT, if its flag asks for it, in the tick in which the chain time comes from `was` to its end
(Table 2.2). -/
def Device.linkEnds (d : Device) (n : Nat) (l : Link) (was now : Nat) : Device :=
  let full := l.duration * fullScale
  if bitOf l.flags 1 && decide (was < full ∧ full ≤ now) then d.axEvt n 3 else d

/-- The chain of axis `n` advances by the scale in force. -/
def Device.chainTick (d : Device) (n : Nat) : Device :=
  match (d.ax n).run with
  | none => d
  | some r =>
    let s := if d.on Reg.AX_OPT.NO_SCALE n then fullScale else d.rd Reg.SCALE_NOW.SCALE n
    let l := d.link r.chain r.link r.mirror
    let full := l.duration * fullScale
    let t := r.time + s
    let d := d.setAxSt n (if s = 0 then stPaused else stMoving)
    if l.unbounded then
      (d.modAx n (fun a => { a with run := some { r with time := t } })).giveTick n
        (r.linkStart + fix (l.offset r.v0 t))
    else if l.last && decide (full ≤ r.time) then
      (d.modAx n (fun a => { a with run := some { r with done := true } })).giveTick n (d.ax n).acc
    else if l.last && decide (full ≤ t) then
      ((d.modAx n (fun a => { a with run := some { r with time := full } })).giveTick n
        (r.linkStart + fix (l.delta * 2 ^ 24))).linkEnds n l r.time full
    else if decide (full < t) then
      let m := r.link + 1
      let l2 := d.link r.chain m r.mirror
      let start := r.linkStart + fix (l.delta * 2 ^ 24)
      let t2 := t - full
      let d := ((d.wr Reg.AX_STAT.LINK n m).modAx n (fun a => { a with
        run := some { r with link := m, time := t2, linkStart := start, v0 := l.endVel } })).giveTick n
          (start + fix (l2.offset l.endVel t2))
      (d.linkEnds n l r.time full).linkEnds n l2 0 t2
    else
      ((d.modAx n (fun a => { a with run := some { r with time := t } })).giveTick n
        (r.linkStart + fix (l.offset r.v0 t))).linkEnds n l r.time t

/-- The chain contains an unbounded link: a jog (R38). -/
def Device.isJog (d : Device) (c : Nat) : Bool :=
  let ls := d.links c
  (ls.takeWhile (fun l => !l.last)).any Link.unbounded
    || ((ls.dropWhile (fun l => !l.last)).head?.map Link.unbounded).getD false

/-- The first tick of a move: CHAIN_START has its first effect (R42, R229). -/
def Device.beginChain (d : Device) (n tag : Nat) (e : Entry) : Device :=
  let c := e.p 1 1
  let d := (d.wakeCurrent n).modAx n (fun a => { a with
    run := some ⟨c, 0, 0, a.acc, 0, e.flag 2 2, false⟩, owner := some tag, ticks := 0, copper := 0, endReason := 0,
    jog := d.isJog c })
  ((d.wr Reg.AX_STAT.CHAIN n c).wr Reg.AX_STAT.LINK n 0).chainTick n

/-- A start taken from the ring head of axis `n` takes effect at this boundary. -/
def Device.beginTaken (d : Device) (n tag : Nat) : Device :=
  match d.task? tag with
  | none => d
  | some t =>
    let d := d.modTask tag (fun t => { t with state := .executing })
    if t.op = 0x0201 then d.beginChain n tag t.entry
    else if t.op = 0x0210 then d.enterFollow n tag (t.entry.flag 1 1)
    else if t.op = 0x0401 || t.op = 0x0402 then
      let d := d.modAx n (fun a => { a with owner := some tag, ticks := 0, copper := 0, endReason := 0, jog := false })
      (d.beginHome n (t.op == 0x0402)).homeTick n
    else
      (d.setAxSt n stSettling).modAx n (fun a => { a with
        owner := some tag, ident := some ⟨0, 0, 0, 0, 0, none⟩, ticks := 0, copper := 0, endReason := 0, jog := false })

/-- A start taken from the ring head acts, waits one more boundary, or is found unfit (R44). -/
def Device.actTaken (d : Device) (n tag : Nat) (wait : Bool) : Device :=
  if wait then d.modAx n (fun a => { a with taken := some (tag, false) })
  else
    let d := d.modAx n (fun a => { a with taken := none })
    let ident := ((d.task? tag).map (·.op)) == some 0x0305
    if d.axSt n = stRest ∧ (d.pads.sstopN ∨ ident) then d.beginTaken n tag else d.complete tag .functionDown true []

/-- A stop cause acts on axis `n` in this tick: in SETTLING only the ending changes. -/
def Device.actStop (d : Device) (n reason : Nat) (v : Int) : Device :=
  if d.stoppable n then d.enterStop n reason v
  else if d.axSt n = stSettling then
    d.modAx n (fun a => { a with
      stopReq := none, endReason := if a.owner.isSome then reason else a.endReason
      settle := if a.ramp.isSome then a.settle else a.settle + 1
      home := a.home.map (fun h => if h.fail = 0 then { h with fail := 4 } else h) })
  else d.modAx n (fun a => { a with stopReq := none })

/-- The motion that the state of axis `n` gives it in the coming tick. -/
def Device.moveTick (d : Device) (n : Nat) : Device :=
  let s := d.axSt n
  if s = stMoving ∨ s = stPaused then d.chainTick n
  else if s = stHoming then d.homeTick n
  else if s = stSettling then
    d.modAx n (fun a => { a with settle := if a.ramp.isSome || a.ident.isSome then a.settle else a.settle + 1 })
  else if s = stRest then d.modAx n (fun a => { a with dwell := a.dwell + 1 })
  else d

/-- The motion of axis `n` in the coming tick; a migrated axis is held for one tick and then served by its spare
(R565). -/
def Device.planTick (d : Device) (n : Nat) : Device :=
  let v := (d.ax n).moved.toInt
  let d := d.modAx n (fun a => { a with delta := 0 })
  match (d.ax n).heldFor with
  | some (e, false) => d.modAx n (fun a => { a with heldFor := some (e, true) })
  | held =>
    let d := match held with
      | some (e, _) => (d.assignEngine n e).engEvt e 3
      | none => d
    match (d.ax n).taken with
    | some (tag, wait) => d.actTaken n tag wait
    | none =>
      if d.axSt n = stStopping then d.stopTick n
      else match (d.ax n).stopReq with
        | some r => d.actStop n r v
        | none => d.moveTick n

/-! ### TRAJECTORY_TICK -/

/-- The mask of the axes that satisfy a test. -/
def axisMask (p : Nat → Bool) : Nat := (List.range 64).foldl (fun m n => if p n then m + 2 ^ n else m) 0

/-- The tasks of an opcode that are executing, in the order taken. -/
def Device.executing (d : Device) (op : Nat) : List Nat :=
  (d.sched.tasks.filter (fun t => t.op == op && t.state == .executing)).map (·.tag)

/-- The bits of each axis that its live-block word carries beside the class S fields (R263). -/
def Device.liveBits (d : Device) : List Nat := (List.range 64).map (fun n =>
  d.rd Reg.AX_STAT.PENDING n + 2 * d.rd Reg.AX_STAT.ARMED n + 4 * d.rd Reg.AX_STAT.MIGRATED n
    + 8 * d.rd Reg.AX_STAT.DEGRADED n)

/-- Publish the snapshots of the class S fields of the motion blocks (R74, R142, R202), and with them what the cyclic
port's live block shows (R263). Fusion publishes its own. -/
def Device.publish (d : Device) (fusion : Bool) : Device :=
  let own (t : RegFile) : RegFile := t.filter (fun p => 0xB400 ≤ keyAddr p.1 && keyAddr p.1 < 0xB700)
  let below (t : RegFile) : RegFile := t.filter (fun p => keyAddr p.1 < 0xB400)
  let above (t : RegFile) : RegFile := t.filter (fun p => 0xB700 ≤ keyAddr p.1)
  let (mid, rest) := if fusion then (d.regs.ss, d.regs.ssSnap) else (d.regs.ssSnap, d.regs.ss)
  let d := if fusion then d else d.modCyclic (fun c => { c with live := d.liveBits })
  { d with regs := { d.regs with ssSnap := below rest ++ own mid ++ above rest } }

/-- POS_INVALIDATE acts at the boundary (R168). -/
def Device.invalidateAxes (d : Device) : Device :=
  let d := d.each 64 (fun n d =>
    if (d.ax n).invalidate then (d.setPosState n posLost).modAx n (fun a => { a with invalidate := false }) else d)
  (d.executing 0x0403).foldl (fun d tag => d.complete tag .ok false []) d

/-- STOP completes when the stop chains are entered, with the axes that entered one (R68, R71). -/
def Device.finishStops (d : Device) (entered : Nat) : Device :=
  (d.executing 0x0202).foldl (fun d tag =>
    d.complete tag .ok false (leBytes 8 ((d.entryOf tag).p 8 0 &&& entered))) d

/-- One trajectory tick (R55): the boundary that ends a tick with its check (`mismatch` is what the check found), and
the motion of the next. -/
def Device.tick (d : Device) (mismatch : Bool) : Device :=
  if !d.motionRuns then d
  else
    let d := d.each 64 (fun n d => d.closeTick n)
    let d := d.invalidateAxes
    let d := d.judgeCheck mismatch
    let d := (d.executing 0x0D05).foldl (fun d tag => d.finishReinit tag) d
    let entered := axisMask (fun n => (d.ax n).stopReq.isSome && d.stoppable n)
    let d := d.each 64 (fun n d => d.planTick n)
    let d := d.finishStops entered
    d.chooseCheck.publish false

/-- TRAJECTORY_TICK (R55). -/
def execTrajectoryTick (mismatch : Bool) (s : State) : Host.Outcome State Fault Refusal :=
  s.devStep (fun d => d.tick mismatch)

/-! ### The ring head (R39, R43, R44, R69, R99, R145, R153, R155, R161, R573) -/

/-- A start on axis `n` completes FUNCTION_DOWN: OFF or FAULT, SSTOP_N low, link not running, DEGRADED, a lasting
stall or CRC class, or a SHUTDOWN output (R44, R192, R193, R481, R569, R573). -/
def Device.startDown (d : Device) (n : Nat) : Bool :=
  d.axSt n == stOff || d.axSt n == stFault || !d.pads.sstopN || !d.linkRuns n
  || d.on Reg.AX_STAT.DEGRADED n || d.on Reg.CUR_STAT.STALL_LASTING n
  || (d.on Reg.TL_STAT.CRC_LASTING (tileOf n) && d.rd Reg.TL_CFG.ERR_ACT (tileOf n) == 1)
  || d.shutFor n

/-- R153: the first motion of a chain, its first link with DELTA ≠ 0, points into an active limit; that link. -/
def Device.intoLimit (d : Device) (n : Nat) (ls : List Link) : Option Nat :=
  let m := (ls.takeWhile (fun l => l.delta == 0)).length
  match ls[m]? with
  | none => none
  | some l => if d.limitActive n (decide (l.delta < 0)) then some m else none

/-- What validation says of a CHAIN_START on axis `n` (R39, R69, R153): BAD_LINK and BAD_REASON. -/
def Device.startFault (d : Device) (n : Nat) (e : Entry) : Option (Nat × Nat) :=
  let c := e.p 1 1
  let mirror := e.flag 2 2
  match d.checkChain c (d.chainLimits n) mirror false with
  | .error r => some r
  | .ok (last, sum) =>
    if e.flag 2 3 && toBits 40 (d.posNow n + sum) != e.p 5 4 then some (last, 0x0A)
    else (d.intoLimit n ((d.links c mirror).take (last + 1))).map (fun m => (m, 0x0B))

/-- The result of a CHAIN_START that is refused at validation. -/
def Device.badStart (d : Device) (n link reason : Nat) : List Byte :=
  posBytes (d.posNow n) ++ leBytes 11 0 ++ leBytes 1 link ++ leBytes 1 reason

/-- The judgement of a start at the ring head of an axis AT_REST: a status and its result, or none. DESIGN CHOICE (log
entry 55): a FOLLOW_ENTER into a limit shows its BAD_REASON where a CHAIN_START does, at +17. -/
def Device.headJudge (d : Device) (n : Nat) (t : Task) : Option (Status × List Byte) :=
  if t.op = 0x0201 then (d.startFault n t.entry).map (fun r => (.badParam, d.badStart n r.1 r.2))
  else if t.op = 0x0210 then
    let pend := sext 24 (d.rd Reg.FOL_PEND.PENDING n)
    if !d.on Reg.FOL_CFG.SRC_EN n then some (.badParam, [])
    else if t.entry.flag 1 1 && pend != 0 && d.limitActive n (decide (pend < 0))
    then some (.badParam, leBytes 17 0 ++ leBytes 1 0x0B)
    else none
  else if t.op = 0x0305 then
    let i := t.entry.p 2 1
    if d.rd Reg.CUR_CTRL.STANDSTILL n = 1 ∨ d.rd Reg.CUR_CTRL.STANDSTILL n = 2 then some (.busyMoving, [])
    else if d.rd Reg.CEIL_NOW.CEIL n < i then some (.badParam, []) else none
  else if d.homeRefused n (t.op == 0x0402) then some (.badParam, []) else none

/-- NO_WAIT and SYNC of a start. -/
def startFlags (t : Task) : Bool × Bool :=
  if t.op = 0x0201 then (t.entry.flag 2 0, t.entry.flag 2 1)
  else if t.op = 0x0210 then (t.entry.flag 1 0, false)
  else if t.op = 0x0305 then (false, false)
  else (t.entry.flag 1 0, t.entry.flag 1 1)

/-- The head of the ring of axis `n` completes and leaves the ring. -/
def Device.headEnds (d : Device) (n tag : Nat) (st : Status) (result : List Byte) : Device :=
  ((d.complete tag st true result).popRing n).skipDead n 16

/-- The engine looks at the ring head of axis `n` (R43). DESIGN CHOICE (log entry 56): a start on an axis that is both LOST
and not AT_REST completes NOT_HOMED at once (R44) instead of waiting (R43). A MOTOR_IDENT never waits for the axis
(Table 4.4). -/
def Device.takeHead (d : Device) (n : Nat) : Device :=
  let d := d.skipDead n 16
  match (d.ax n).ring with
  | [] => d.refreshHead n
  | slot :: _ =>
    match d.task? slot.tag with
    | none => d.refreshHead n
    | some t =>
      let ident := t.op == 0x0305
      let homing := t.op == 0x0401 || t.op == 0x0402
      let (noWait, sync) := startFlags t
      let d :=
        if (d.ax n).armed.isSome || (d.ax n).taken.isSome then d
        else if ident && d.axSt n != stRest then d.headEnds n slot.tag .busyMoving []
        else if !ident && d.startDown n then d.headEnds n slot.tag .functionDown []
        else if !ident && !homing && d.rd Reg.AX_STAT.POS_STATE n == posLost then d.headEnds n slot.tag .notHomed []
        else if d.axSt n != stRest then (if noWait then d.headEnds n slot.tag .busyMoving [] else d)
        else match d.headJudge n t with
          | some (st, r) => d.headEnds n slot.tag st r
          | none =>
            if sync then d.modAx n (fun a => { a with armed := some slot.tag })
            else ((d.modAx n (fun a => { a with taken := some (slot.tag, false) })).popRing n).skipDead n 16
      d.refreshHead n

/-- RING_HEAD_TAKE (R43). -/
def execRingHeadTake (n : Fin 64) (s : State) : Host.Outcome State Fault Refusal :=
  s.devStep (fun d => if d.motionRuns then (d.takeHead n.val).publish false else d)

/-! ### Strobes at a boundary (R62, R76, R317, R318, R320, R325, R631) -/

/-- An armed SYNC start of axis `n` meets its strobe: validated again, then taken (R325). A STOP of the same tick
wins (R76). -/
def Device.startArmed (d : Device) (n : Nat) : Device :=
  match (d.ax n).armed with
  | none => d
  | some tag =>
    if (d.ax n).stopReq.isSome then d
    else match d.task? tag with
      | none => d
      | some t =>
        let d := d.modAx n (fun a => { a with armed := none })
        (match d.headJudge n t with
        | some (st, r) => d.headEnds n tag st r
        | none => ((d.modAx n (fun a => { a with taken := some (tag, true) })).popRing n).skipDead n 16).refreshHead n

/-- The staged sets apply at a tick boundary: axes in ascending number, then the armed starts. -/
def Device.strobeApply (d : Device) : Device :=
  if !d.motionRuns then d
  else
    let sets := d.staged
    let pend := d.rd Reg.STROBE_STAT.PEND
    let d := { d with staged := [] }
    let d := d.each 64 (fun n d =>
      match sets.find? (fun s => s.axis == n) with
      | some s => d.applyAxis n s.fields
      | none => d)
    let d := d.each 64 (fun n d => if sets.any (fun s => s.axis == n) then d.startArmed n else d)
    let d := d.eachIn pend 8 (fun g d => d.wr Reg.SG_TICK.COUNT g d.loops)
    d.wr Reg.STROBE_STAT.PEND 0 0

/-- STROBE_APPLY (R317). -/
def execStrobeApply (s : State) : Host.Outcome State Fault Refusal := s.devStep Device.strobeApply

/-- AUTO_STROBE (R320). -/
def execAutoStrobe (s : State) : Host.Outcome State Fault Refusal :=
  s.devStep (fun d => if d.motionRuns then d.raiseStrobes (d.rd Reg.STROBE_CFG.AUTO) else d)

/-! ### Ends of phases of a move (R45, R53, R134, R158, R162, R167)

What ends at a tick boundary shows in the snapshot of that boundary (R74). -/

/-- CHAIN_END (R45). -/
def execChainEnd (n : Fin 64) (s : State) : Host.Outcome State Fault Refusal :=
  s.devStep (fun d =>
    match (d.ax n).run with
    | some r => if r.done then (d.goSettling n).publish false else d
    | none => d)

/-- STOP_CHAIN_END (R53). -/
def execStopChainEnd (n : Fin 64) (s : State) : Host.Outcome State Fault Refusal :=
  s.devStep (fun d =>
    match (d.ax n).stop with
    | some r =>
      if stopTicks (d.links r.chain) < r.idx then
        (d.stopEnds n (r.toOff || d.on Reg.AX_STAT.DEGRADED n)).chooseCheck.publish false
      else d
    | none => d)

/-- SETTLE_DONE (R45). -/
def execSettleDone (n : Fin 64) (s : State) : Host.Outcome State Fault Refusal :=
  s.devStep (fun d =>
    let a := d.ax n
    if d.axSt n = stSettling ∧ a.ramp.isNone ∧ a.ident.isNone ∧ d.rd Reg.SETTLE.TICKS n ≤ a.settle
    then (d.goRest n).publish false else d)

/-- ENERGISE_RAMP_END (R167). -/
def execEnergiseRampEnd (n : Fin 64) (s : State) : Host.Outcome State Fault Refusal :=
  s.devStep (fun d =>
    match (d.ax n).ramp with
    | some r => if r.hold && decide (800 ≤ r.k) then d.modAx n (fun a => { a with ramp := none, settle := 0 }) else d
    | none => d)

/-- HOLD_DWELL_EXPIRED (R134). -/
def execHoldDwellExpired (n : Fin 64) (s : State) : Host.Outcome State Fault Refusal :=
  s.devStep (fun d =>
    if d.axSt n = stRest ∧ d.on Reg.CUR_CTRL.HOLD_LEAN n ∧ d.rd Reg.CUR_LIM.HOLD_DWELL n ≤ (d.ax n).dwell
    then d.modAx n (fun a => { a with dwellDone := true }) else d)

/-- POSITION_REDEFINE (R158). -/
def execPositionRedefine (n : Fin 64) (s : State) : Host.Outcome State Fault Refusal :=
  s.devStep (fun d =>
    match (d.ax n).home with
    | some h =>
      if h.redefine then
        let d := d.redefine n
        (d.showPos n (d.ax n).acc).publish false
      else d
    | none => d)

/-- HOME_MAXDIST (R162). -/
def execHomeMaxdist (n : Fin 64) (s : State) : Host.Outcome State Fault Refusal :=
  s.devStep (fun d =>
    if d.maxdistReached n then (d.modHome n (fun h => { h with fail := 1 })).wr Reg.HOME_STAT.PHASE n 2 else d)

/-! ### Follow events (R79, R82, R83, R92, R101, R102, R354) -/

/-- SDI_STEP_EDGE (R79, R92): an accepted active edge of input `m`, its DIR level, `delay` CD03 cycles after the moment to
which the CD03 count is known: the loop-period boundary, or the last grain edge in DOZE. -/
def execSdiStepEdge (m : Fin 16) (dir : Bool) (delay : BitVec 32) (s : State) : Host.Outcome State Fault Refusal :=
  s.devStep (fun d =>
    if !d.on Reg.SDI_CFG.EN m then d
    else
      let now := d.cd03 + delay.toNat
      let dx : Int := if dir != d.on Reg.SDI_CFG.DIR_POL m then 1 else -1
      let d := (d.wr Reg.SDI_CNT.CNT m (toBits 32 ((d.rd Reg.SDI_CNT.CNT m : Int) + dx))).wr Reg.SDI_TS.TS m now
      let d := { d with sdi := modNth (fun x => x.edge now) m d.sdi }
      d.each 64 (fun n d => if d.follows n m then d.followEdge n dx else d))

/-- FOLLOW_IDLE_PRESET (R92). -/
def execFollowIdlePreset (n : Fin 64) (s : State) : Host.Outcome State Fault Refusal :=
  s.devStep (fun d =>
    if d.inputIdle n then d.presetPeriod n else d)

/-- FOLLOW_IDLE_EXIT (R101). -/
def execFollowIdleExit (n : Fin 64) (s : State) : Host.Outcome State Fault Refusal :=
  s.devStep (fun d =>
    if d.axSt n = stFollow ∧ (d.ax n).leave ≠ [] ∧ d.mayLeave n then (d.exitFollow n 0).goSettling n else d)

/-- FOLLOW_LEAVE_TIMEOUT (R102). -/
def execFollowLeaveTimeout (n : Fin 64) (s : State) : Host.Outcome State Fault Refusal :=
  s.devStep (fun d =>
    let late (l : LeaveReq) : Bool :=
      let tmo := (d.entryOf l.tag).p 2 2
      tmo != 0 && decide (tmo * 10 ≤ l.ticks)
    let gone := (d.ax n).leave.filter late
    let d := d.modAx n (fun a => { a with leave := a.leave.filter (fun l => !late l) })
    gone.foldl (fun d l => d.complete l.tag .busyMoving true []) d)

/-- QE_COUNT_STEP (R82): the levels of A, B and I that encoder `k` accepts. -/
def execQeCountStep (k : Fin 8) (a b i : Bool) (s : State) : Host.Outcome State Fault Refusal :=
  s.devStep (fun d => d.quadSample k ⟨a, b, i⟩)

/-- INDEX_EDGE (R83): encoder `k` accepts A and B at these levels and the index at its active level. -/
def execIndexEdge (k : Fin 8) (a b : Bool) (s : State) : Host.Outcome State Fault Refusal :=
  s.devStep (fun d => d.quadSample k ⟨a, b, !d.on Reg.QE_CFG.IDX_POL k⟩)

/-! ### Inputs (R149, R152, R587) -/

/-- Ball GPIO `g` shows a level (R592); at its active level the wake GPIO latches its reason (R353). -/
def Device.gpioLevel (d : Device) (g : Nat) (level : Bool) : Device :=
  let bits := d.pads.gpio.toNat
  let bits := if level then setBitOf bits g else clrBitOf bits g
  let d := { d with pads := { d.pads with gpio := BitVec.ofNat 48 bits } }
  let d := (d.wr Reg.GPIO_IN_L.IN 0 bits).wr Reg.GPIO_IN_H.IN 0 (bits / 2 ^ 32)
  if d.rd Reg.WAKE_CFG.GPIO_SEL = g ∧ d.on Reg.WAKE_CFG.GPIO_POL ≠ level then d.wakeLatch 3 else d

/-- What the axes see of a level of GPIO `g` accepted in RUN or FULL (R149 to R152): limits and switches, the switch edge of
a homing, and a limit in the direction of the last tick's motion. -/
def Device.inputLevel (d : Device) (g : Nat) (level : Bool) : Device :=
  let bits := d.pads.accepted.toNat
  let bits := if level then setBitOf bits g else clrBitOf bits g
  let d := { d with pads := { d.pads with accepted := BitVec.ofNat 48 bits } }
  d.each 64 (fun n d =>
    let d := if d.rd Reg.HOME_CFG.SW_GPIO n = g ∧ d.switchActive n
      then d.modHome n (fun h => { h with swEdge := true }) else d
    (d.refreshLimits n).checkLimit n (d.ax n).moved.toInt)

/-- LIMIT_INPUT (R149, R152, R636): a new level of GPIO `g` is accepted. No limit or switch is sampled below RUN. -/
def execLimitInput (g : Fin 48) (level : Bool) (s : State) : Host.Outcome State Fault Refusal :=
  s.devStep (fun d =>
    let d := d.gpioLevel g level
    if d.running then d.inputLevel g level else d)

/-- SSTOP_N_CHANGE (R587): every moving axis enters its stop chain; each change sets its cause and is recorded. -/
def execSstopNChange (level : Bool) (s : State) : Host.Outcome State Fault Refusal :=
  s.devStep (fun d =>
    if d.pads.sstopN = level then d
    else
      let d := { d with pads := { d.pads with sstopN := level } }
      let d := (d.sysEvt (if level then 1 else 0)).record 0x0040 (leBytes 1 (b2n (!level)))
      if level then d
      else d.each 64 (fun n d => if d.stoppable n || d.axSt n == stStopping then d.askStop n 2 else d))

/-! ### STALL_DETECTED (R137, R138, R160) -/

/-- A stall ends the homing of axis `n` with FAIL 0x3, and a capture that has not yet redefined the position is given up
(R163, R170). -/
def Device.stallHoming (d : Device) (n : Nat) : Device :=
  let homing := d.axSt n == stHoming
  d.modHome n (fun h => { h with
    fail := if homing && h.fail == 0 then 3 else h.fail
    redefine := false, capt := if h.redefine then none else h.capt })

/-- A stall of axis `n` (R138): report, stop chain, or FAULT; in the SEEK phase of a STALL homing, the capture. DESIGN
CHOICE (log entry 57): where STALL_ACT asks for a report only, a homing that the stall ends decelerates at HOME_ACC. The
step back crosses its multiples of 2^SHIFT too, and their pulses leave in the next loop period (R63; DEDUCED, log entry
58). -/
def Device.stall (d : Device) (n : Nat) : Device :=
  let a := d.ax n
  let limit := max 1 (d.rd Reg.STALL_CFG.STALL_N n)
  if a.stallRun < limit then d
  else
    let d := (d.modAx n (fun a => { a with stallRun := 0 })).curEvt n 0
    if d.stallSeek n then
      let delta := sext 12 (d.rd Reg.CUR_LOAD.DELTA n)
      (d.queuePulses n (d.ax n).acc.toInt (d.stepBack n delta)).homeStall n delta
    else
      let d := (((d.occur 0x02 n).setPosState n posLost).stallHoming n)
      let act := d.rd Reg.CUR_CTRL.STALL_ACT n
      if act = 0 then (if d.axSt n = stHoming then d.wr Reg.HOME_STAT.PHASE n 2 else d)
      else if act = 2 then d.hardFaultFree n
      else if d.stoppable n then d.askStop n 6 else d

/-- STALL_DETECTED (R137). -/
def execStallDetected (n : Fin 64) (s : State) : Host.Outcome State Fault Refusal := s.devStep (fun d => d.stall n)

end Sys2Proof.Machine
end

