-- ==== Sys2Proof/Machine/TileLink.lean ====
section
/-! DEFINITION. The tile links: outbound and return frames, link states, filters and telemetry (chapter 06), and
the loop period that runs on their words. -/
namespace Sys2Proof.Machine

/-! ### Frames (R175 to R182) -/

/-- What an outbound frame carries as it begins; KILL words enter it while it is sent (Table 6.1, R179). -/
structure Outbound where
  seq : Nat
  energise : Bool
  clrFaults : Bool
  mode : Nat
  duties : List Int
deriving DecidableEq, Repr

/-- The 1000 bits of an outbound frame in transmission order (Table 6.1). -/
def Outbound.bits (f : Outbound) : List Bool :=
  let covered := msbBits 8 f.seq ++ msbBits 8 (b2n f.energise + 2 * b2n f.clrFaults) ++ msbBits 8 f.mode
    ++ msbBits 8 (f.seq % 16) ++ f.duties.flatMap (fun x => msbBits 16 (toBits 16 x))
  msbBits 32 0xF0B62D1C ++ covered ++ lsbBits 32 (crcBits covered) ++ slotBits 0 ++ msbBits 8 0x55

/-- A field of a return frame, most significant bit first. -/
def frameField (f : BitVec 3000) (lo w : Nat) : Nat :=
  (List.range w).foldl (fun v i => 2 * v + b2n (f.getLsbD (lo + i))) 0

/-- Bits of SYNC_U that differ from the pattern (R181). -/
def syncDiff (f : BitVec 3000) : Nat := countBits (frameField f 0 32 ^^^ 0x1F4BA6D3) 32

/-- The CRC of a return frame is correct: over bits 32 to 2967, sent bit 0 first (Table 6.2). -/
def frameCrcOk (f : BitVec 3000) : Bool :=
  crcBits ((List.range 2936).map (fun i => f.getLsbD (32 + i))) ==
    bitsToNat ((List.range 32).map (fun i => f.getLsbD (2968 + i)))

/-- ECHO names the frame before the window's own, or the one before that (R181): return frame j ends while outbound
frame j + 1 is being sent. -/
def Tile.echoOk (t : Tile) (f : BitVec 3000) : Bool :=
  let e := frameField f 32 8
  e == (t.seq + 254) % 256 || e == (t.seq + 253) % 256

/-- The 250 samples of a stream in a return frame, sample c as bit c (Table 6.2). -/
def streamBits (f : BitVec 3000) (s : Nat) : BitVec 250 :=
  BitVec.ofNat 250 (bitsToNat ((List.range 250).map (fun c => f.getLsbD (96 + 10 * c + s))))

/-! ### Filters (R195 to R198) -/

/-- T(k) = (k + 1)(k + 2) / 2: the step response of three integrators. -/
def triangle (k : Nat) : Int := ((k + 1) * (k + 2) / 2 : Nat)

/-- Weight of the sample `k` places before the newest: three integrators and three differentiators over 250 samples
(R195); 748 weights are not 0. -/
def sincWeight (k : Nat) : Int :=
  let t (j : Nat) : Int := if j ≤ k then triangle (k - j) else 0
  t 0 - 3 * t 250 + 3 * t 500 - t 750

/-- Weighted sum of one window, `age` windows old; a window before a reset gives nothing. -/
def windowSum (age : Nat) (w : Option (BitVec 250)) : Int :=
  match w with
  | none => 0
  | some b => (List.range 250).foldl (fun s c =>
      s + (if b.getLsbD c then 1 else -1) * sincWeight (250 * age + (249 - c))) 0

/-- The filter word of a stream from its last three windows, newest first (R195). -/
def filterWord (ws : List (Option (BitVec 250))) : Int :=
  let s := windowSum 0 (nth none 0 ws) + windowSum 1 (nth none 1 ws) + windowSum 2 (nth none 2 ws)
  let num := 2 * (s * 1024)
  let q := (num.natAbs + 390625) / 781250
  clampI (-32768) 32767 (if num < 0 then -(q : Int) else q)

/-! ### Link helpers -/

/-- LSTATE of tile `t` (Table 6.7). -/
def Device.lstate (d : Device) (t : Nat) : Nat := d.rd Reg.TL_STAT.LSTATE t
/-- The dwell timers of a sensor stop (R474). -/
def Sensor.holdDwell (s : Sensor) : Sensor := { s with ths := s.ths.map (fun h => { h with since := none }) }
/-- Put tile link `t` into a state, its counts of frames starting again. Outside UP the dwell timers of the tile's sensor
stop (R474); DOWN and FAILED send no frame, so nothing has ENERGISE, and in DOWN the output falls to 0 at once. -/
def Device.setLstate (d : Device) (t v : Nat) : Device :=
  let d := if v = 4 then d else { d with sensors := modNth Sensor.holdDwell (1 + t) d.sensors }
  let d := if v = 0 ∨ v = 7 then d.wr Reg.TL_STAT.ENERGISE t 0 else d
  (d.wr Reg.TL_STAT.LSTATE t v).modTile t (fun x => { x with
    frames := 0, trainHits := List.replicate 8 0, sent := if v = 0 then 0 else x.sent })

/-- TLn_CK is driven at 10 MHz; else it and TLn_DO are held at 0 (R171; Table 6.7 for FAILED). -/
def Device.tileClock (d : Device) (t : Nat) : Bool := d.lstate t != 0 && d.lstate t != 7

/-- The four axes of tile `t`. -/
def tileAxes (t : Nat) : List Nat := [4 * t, 4 * t + 1, 4 * t + 2, 4 * t + 3]

/-- A link leaves DOWN for WAKE (R184, R187). -/
def Device.startLink (d : Device) (t : Nat) : Device :=
  (d.setLstate t 1).modTile t (fun x => { Tile.reset with seq := x.seq, sent := x.sent })

/-- What a link held of the loop is dropped when it stops running. -/
def Device.dropWords (d : Device) (t : Nat) : Device :=
  (d.wr Reg.TL_STAT.SETTLE_LEFT t 0).modTile t (fun x => { x with
    tag := .absent, firstValid := false, syncLoss := 0, substLeft := 0, syncDue := false, syncWait := false })

/-- A running or starting link stops (R25, R203): its axes follow, and it goes through STOPPING to DOWN. -/
def Device.stopLink (d : Device) (t : Nat) : Device :=
  let d := (tileAxes t).foldl (fun d n => d.linkStops n 2) d
  let d := (d.dropWords t).wr Reg.TL_STAT.INHIBIT t 0
  if d.lstate t = 0 then d
  else if d.lstate t = 7 then d.setLstate t 0
  else d.setLstate t 6

/-- Tiles of a mask whose link satisfies a test. -/
def tileMask (mask : Nat) (p : Nat → Bool) : Nat :=
  (bitsBelow mask 16).foldl (fun m t => if p t then m + 2 ^ t else m) 0

/-- TILE_START and TILE_REINIT complete when every masked link has its first valid word, or one has FAILED; TILE_STOP
when every masked link is DOWN; FILTER_SYNC with the first valid word (Table 6.10). -/
def Device.finishTiles (d : Device) : Device :=
  let starts := d.executing 0x0501 ++ d.executing 0x0503
  let d := starts.foldl (fun d tag =>
    let m := (d.entryOf tag).p 2 0
    let failed := tileMask m (fun t => d.lstate t == 7)
    let r := leBytes 2 (tileMask m (fun t => d.lstate t == 4)) ++ leBytes 2 failed
    if failed ≠ 0 then d.complete tag .functionDown false r
    else if tileMask m (fun t => d.lstate t == 4 && (d.tile t).firstValid) = m then d.complete tag .ok false r else d) d
  let d := (d.executing 0x0502).foldl (fun d tag =>
    if tileMask ((d.entryOf tag).p 2 0) (fun t => d.lstate t != 0) = 0 then d.complete tag .ok false [] else d) d
  (d.executing 0x0504).foldl (fun d tag =>
    let m := (d.entryOf tag).p 2 0
    if tileMask m (fun t => d.lstate t != 4 && d.lstate t != 5) ≠ 0 then d.complete tag .functionDown false []
    else if tileMask m (fun t => (d.tile t).syncWait) = 0 then d.complete tag .ok false [] else d) d

/-- A link that goes down takes axis `n` with it (R190, R203): R54 at rest and OFF too, which keep or lose their position as
at a stopping link; any other is LOST, an axis in FAULT too. -/
def Device.linkDownAxis (d : Device) (n : Nat) : Device :=
  if d.quiet n then (d.keepPosition n).enterFault n 2
  else if d.axSt n = stFault then d.setPosState n posLost
  else d.hardFault n 2

/-- A link goes down (R190): KILL words to all bridges, FAILED, its four axes to FAULT. -/
def Device.linkDown (d : Device) (t : Nat) : Device :=
  let d := ((d.killBridges t 0xF).setLstate t 7).dropWords t
  let d := ((d.tlEvt t 1).count Reg.TL_CNT.DOWN t).occur 0x06 t
  ((tileAxes t).foldl (fun d n => d.linkDownAxis n) d).finishTiles

/-! ### The outbound frame (R178, R179) -/

/-- BR_MODE of axis `n` (R178). -/
def Device.bridgeMode (d : Device) (n : Nat) : Nat :=
  let s := d.axSt n
  let m := d.rd Reg.CUR_CTRL.STANDSTILL n
  if s = stOff ∨ s = stFault ∨ d.on Reg.ADDR_OUT.ADDR_ONLY n ∨ (s = stRest ∧ m = 1) then 0
  else if s = stRest ∧ m = 2 then 2
  else 1

/-- Duties of axis `n` in the next frame. -/
def Device.axisDuties (d : Device) (n : Nat) : List Int :=
  if d.bridgeMode n = 1 then [(d.ax n).phaseA.duty, (d.ax n).phaseB.duty] else [0, 0]

/-- Mode and duties of bridge `b` in the next frame: off outside UP and REALIGN (R184). -/
def Device.bridgeOut (d : Device) (t b : Nat) : Nat × List Int :=
  if d.lstate t = 4 ∨ d.lstate t = 5 then (d.bridgeMode (4 * t + b), d.axisDuties (4 * t + b)) else (0, [0, 0])

/-- The next outbound frame of tile `t`. -/
def Device.outbound (d : Device) (t : Nat) : Outbound :=
  let x := d.tile t
  let bs := [d.bridgeOut t 0, d.bridgeOut t 1, d.bridgeOut t 2, d.bridgeOut t 3]
  { seq := (x.seq + 1) % 256
    energise := (d.lstate t == 4 || d.lstate t == 5) && !d.on Reg.TL_STAT.INHIBIT t
    clrFaults := x.clrFaults
    mode := bs.zipIdx.foldl (fun m p => m + p.1.1 * 4 ^ p.2) 0
    duties := bs.flatMap (·.2) }

/-- OUTBOUND_FRAME (R178): in every state but DOWN and FAILED. -/
def execOutboundFrame (t : Fin 16) (s : State) : Host.Outcome State Fault Refusal :=
  s.devStep (fun d =>
    if d.lstate t = 0 ∨ d.lstate t = 7 then d.modTile t (fun x => { x with kill := 0, sent := 0 })
    else
      let f := d.outbound t
      let d := d.wr Reg.TL_STAT.ENERGISE t (b2n f.energise)
      d.modTile t (fun x => { x with
        seq := f.seq, frames := x.frames + 1, kill := 0, clrFaults := false
        sent := BitVec.ofNat 1000 (bitsToNat f.bits), out := (⟨f.seq, f.duties⟩ :: x.out).take 4 }))

/-! ### The return frame (R181, R189 to R195) -/

/-- A bad return frame is counted (R192). -/
def Device.badFrame (d : Device) (t : Nat) : Device :=
  ((d.count Reg.TL_BAD.COUNT t).tlEvt t 3).occur 0x04 t

/-- The filters take the last accepted window again (R191); not while SETTLING words are due (Table 6.12). -/
def Device.substitute (d : Device) (t : Nat) : Device :=
  if d.rd Reg.TL_STAT.SETTLE_LEFT t ≠ 0 ∨ (d.tile t).syncDue then d
  else d.modTile t (fun x => { x with
    substLeft := 2
    windows := x.windows.map (fun w => (nth none 0 w :: w).take 3) })

/-- TSTAT, identity and REJ_CNT of an accepted frame; `counted` judges the rejects (R181, R193, R194, Table 6.8). -/
def Device.takeStatus (d : Device) (t : Nat) (f : BitVec 3000) (counted : Bool) : Device :=
  let idx := frameField f 72 8
  let byte := frameField f 80 8
  let rej := frameField f 88 8
  let old := d.rd Reg.TL_RTT.REJ_CNT t
  let d := (d.wr Reg.TL_TSTAT.TSTAT t (frameField f 40 32)).wr Reg.TL_RTT.REJ_CNT t rej
  let put (r : Field) (d : Device) : Device :=
    let k := idx % 4
    let v := d.rd r t
    d.wr r t (v - bitsOf v (8 * k) 8 * 2 ^ (8 * k) + byte * 2 ^ (8 * k))
  let d := if idx < 4 then put Reg.TL_ID.BYTE d else if idx < 8 then put Reg.TL_ID1.BYTE d
    else if idx < 12 then put Reg.TL_ID2.BYTE d else if idx < 16 then put Reg.TL_ID3.BYTE d else d
  let d := d.modTile t (fun x => { x with idSeen := x.idSeen ||| BitVec.ofNat 16 (2 ^ idx) })
  if counted then (List.range ((rej + 256 - old) % 256)).foldl (fun d _ => d.occur 0x08 t) d else d

/-- The protections a frame accepted in CHECK, UP or REALIGN reports (R193, R194). -/
def Device.takeFaults (d : Device) (t tstat : Nat) : Device :=
  let d := if tstat / 2 % 128 ≠ 0 then d.tlEvt t 10 else d
  let d := (tileAxes t).foldl (fun d n =>
    if bitOf tstat (4 + n % 4) && d.axSt n != stFault
    then ((d.curEvt n 4).occur 0x07 n).hardFault n 1 else d) d
  if tstat % 8 ≠ 0 then
    let d := d.modTile t (fun x => { x with clearRun := 0 })
    if d.on Reg.TL_STAT.INHIBIT t then d
    else
      let d := (d.wr Reg.TL_STAT.INHIBIT t 1).tlEvt t 8
      (tileAxes t).foldl (fun d n => if d.axSt n = stOff ∨ d.axSt n = stFault then d else d.linkStops n 4) d
  else d.modTile t (fun x => { x with clearRun := x.clearRun + 1 })

/-- The window of an accepted frame enters the filters: a synchronising reset first where one is due; the words of the
coming loop period and their tag (R195, R196, R198). -/
def Device.takeWindow (d : Device) (t : Nat) (f : BitVec 3000) : Device :=
  let x := d.tile t
  let reset := x.syncDue
  let left := if reset then 2 else d.rd Reg.TL_STAT.SETTLE_LEFT t
  let ws := x.windows.zipIdx.map (fun p =>
    some (streamBits f p.2) :: (if reset then [none, none] else p.1.take 2))
  let tag : WordTag := if left ≠ 0 then .settling else if x.substLeft ≠ 0 ∧ !reset then .subst else .valid
  let words := ws.map filterWord
  let echo := frameField f 32 8
  let duties := ((x.out.find? (fun o => o.seq == echo)).map (·.duties)).getD (List.replicate 8 0)
  let d := d.modTile t (fun x => { x with
    windows := ws, words := words, tag := tag, echoDuties := duties, syncDue := false,
    substLeft := if reset then 0 else x.substLeft - 1,
    firstValid := x.firstValid || tag == .valid,
    syncWait := x.syncWait && tag != .valid })
  let w (i : Nat) : Nat := toBits 16 (nth 0 (2 * i) words) + 2 ^ 16 * toBits 16 (nth 0 (2 * i + 1) words)
  let d := (((d.wr Reg.TL_WORD0.W t (w 0)).wr Reg.TL_WORD1.W t (w 1)).wr Reg.TL_WORD2.W t (w 2)).wr
    Reg.TL_WORD3.W t (w 3)
  let d := (d.wr Reg.TL_WORD4.W t (w 4)).wr Reg.TL_STAT.SETTLE_LEFT t (left - 1)
  d.wr Reg.TL_TAG.TAG t (b2n (tag == .settling) + 2 * b2n (tag == .subst))

/-- The temperature word of a valid period enters the mean of the tile's sensor (R474). -/
def Device.takeTemp (d : Device) (t : Nat) : Device :=
  if d.wordsValid t then
    let w : Int := nth 0 9 (d.tile t).words
    let ss := modNth (fun s => { s with acc := s.acc + w, n := s.n + 1 }) (1 + t) d.sensors
    { d with sensors := ss }
  else d

/-- An accepted frame of a running link. -/
def Device.acceptFrame (d : Device) (t : Nat) (f : BitVec 3000) : Device :=
  let d := d.modTile t (fun x => { x with syncLoss := 0 })
  let d := (d.takeStatus t f true).takeWindow t f
  (((d.takeFaults t (frameField f 40 32)).takeTemp t)).finishTiles

/-- A frame that arrives while outbound frame `k` (1 to 16) of a sweep is sent is tested with the phase whose turn is the
((k - 1) / 2)-th, from 0; it passes with SYNC_U exact and a correct CRC (R185). -/
def Device.trainFrame (d : Device) (t : Nat) (passes : Bool) : Device :=
  if passes && (d.tile t).frames != 0 then
    d.modTile t (fun x => { x with trainHits := modNth (· + 1) ((x.frames - 1) / 2) x.trainHits })
  else d

/-- A return frame of tile `t` takes effect (R181, R184, R185): in TRAIN it tests a phase, in CHECK it counts toward the
start or fails it, in UP and REALIGN it feeds or holds the loop. `diff` are its wrong SYNC_U bits; `crc` and `echo` say
that CRC and ECHO are right. -/
def Device.judgeReturn (d : Device) (t : Nat) (f : BitVec 3000) (diff : Nat) (crc echo : Bool) : Device :=
  let s := d.lstate t
  let good := crc && echo
  if s = 2 then d.trainFrame t (diff == 0 && crc)
  else if s = 3 then
    if diff ≤ 2 ∧ good then
      ((d.takeStatus t f false).modTile t (fun x => { x with goodRun := x.goodRun + 1 })).takeFaults t (frameField f 40 32)
    else (d.badFrame t).setLstate t 2
  else if s = 4 then
    if diff ≤ 2 ∧ good then d.acceptFrame t f
    else
      let d := (d.badFrame t).modTile t (fun x => { x with
        tag := .absent, syncLoss := if diff ≤ 2 then 0 else x.syncLoss + 1 })
      if 2 ≤ (d.tile t).syncLoss then d.wr Reg.TL_STAT.LSTATE t 5 else d.substitute t
  else if s = 5 then
    if diff = 0 ∧ good then
      let d := (d.wr Reg.TL_STAT.LSTATE t 4).modTile t (fun x => { x with syncDue := true })
      (((d.count Reg.TL_CNT.REALIGN t).tlEvt t 2).occur 0x05 t).acceptFrame t f
    else d.badFrame t
  else d

/-- A return frame of tile `t` arrives. -/
def Device.returnFrame (d : Device) (t : Nat) (f : BitVec 3000) : Device :=
  d.judgeReturn t f (syncDiff f) (frameCrcOk f) ((d.tile t).echoOk f)

/-- RETURN_FRAME (R181). -/
def execReturnFrame (t : Fin 16) (frame : BitVec 3000) (s : State) : Host.Outcome State Fault Refusal :=
  s.devStep (fun d => d.returnFrame t frame)

/-! ### Link states (R184 to R193) -/

/-- LINK_WAKE_END (R184). -/
def execLinkWakeEnd (t : Fin 16) (s : State) : Host.Outcome State Fault Refusal :=
  s.devStep (fun d => if d.lstate t = 1 ∧ 8 ≤ (d.tile t).frames then d.setLstate t 2 else d)

/-- Length of the circular run of passing phases that starts at `p`. -/
def runFrom (pass : Nat → Bool) (p : Nat) : Nat :=
  ((List.range 8).takeWhile (fun k => pass ((p + k) % 8))).length

/-- The longest circular run of passing phases, the lowest start among equals: start and length. -/
def longestRun (pass : Nat → Bool) : Nat × Nat :=
  (List.range 8).foldl (fun b p =>
    let l := runFrom pass p
    if b.2 < l ∧ (l = 8 ∨ !pass ((p + 7) % 8)) then (p, l) else b) (0, 0)

/-- The centre of a run, the lower of two (R185). -/
def runCentre (r : Nat × Nat) : Nat := (r.1 + (r.2 - 1) / 2) % 8

/-- The phase that the sweep of TRAIN chooses: the centre of the longest run of phases that passed both of their frames, if
it has at least three (R185, Table 6.7); `order` names the phases in the order of their turns, which the spec leaves open. -/
def Tile.trainPhase (x : Tile) (order : List (Fin 8)) : Option Nat :=
  let r := longestRun (fun p => decide (2 ≤ nth 0 ((order.map Fin.val).idxOf p) x.trainHits))
  if 3 ≤ r.2 then some (runCentre r) else none

/-- TRAIN_SWEEP_END (R185). -/
def execTrainSweepEnd (t : Fin 16) (order : List (Fin 8)) (s : State) : Host.Outcome State Fault Refusal :=
  s.devStep (fun d =>
    if d.lstate t = 2 ∧ 16 ≤ (d.tile t).frames then
      match (d.tile t).trainPhase order with
      | some p => ((d.wr Reg.TL_STAT.PHASE t p).setLstate t 3).modTile t (fun x => { x with goodRun := 0, idSeen := 0 })
      | none => d.setLstate t 2
    else d)

/-- LINK_CHECK_END (R186): the measured round trip. -/
def execLinkCheckEnd (t : Fin 16) (rtt : BitVec 10) (s : State) : Host.Outcome State Fault Refusal :=
  s.devStep (fun d =>
    if d.lstate t = 3 then
      let r := rtt.toNat
      let d := d.wr Reg.TL_RTT.RTT_BITS t r
      if r < 408 ∨ 468 < r then (d.tlEvt t 6).setLstate t 2
      else if 16 ≤ (d.tile t).goodRun ∧ (d.tile t).idSeen = 0xFFFF ∧ bitsOf (d.rd Reg.TL_ID2.BYTE t) 16 8 = 1 then
        let d := ((d.setLstate t 4).tlEvt t 0).wr Reg.TL_STAT.HELD_RUN t 0
        (d.wr Reg.TL_STAT.SETTLE_LEFT t 2).modTile t (fun x => { x with
          syncDue := true, firstValid := false, tag := .starting, substLeft := 0, syncLoss := 0 })
      else d.setLstate t 2
    else d)

/-- STOPPING has sent its frames: DOWN, and WAKE again where EN is set and the mode lets links run (R184). -/
def Device.stoppingEnd (d : Device) (t : Nat) : Device :=
  let d := (d.setLstate t 0).finishTiles
  if d.on Reg.TL_CTRL.EN t && d.running && !(d.power.step == .entering && decide (d.power.goal ≤ 1))
  then d.startLink t else d

/-- LINK_STOPPING_END (R184). -/
def execLinkStoppingEnd (t : Fin 16) (s : State) : Host.Outcome State Fault Refusal :=
  s.devStep (fun d => if d.lstate t = 6 ∧ 4 ≤ (d.tile t).frames then d.stoppingEnd t else d)

/-- START_TIMEOUT (R187): START_TMO ms are 40 loop periods each; 0 acts as 1. -/
def execStartTimeout (t : Fin 16) (s : State) : Host.Outcome State Fault Refusal :=
  s.devStep (fun d =>
    let x := d.lstate t
    if (x = 1 ∨ x = 2 ∨ x = 3) ∧ max 1 (d.rd Reg.TL_CFG.START_TMO t) * 40 ≤ (d.tile t).sinceDown then
      ((((d.setLstate t 7).tlEvt t 5).count Reg.TL_CNT.DOWN t).occur 0x06 t).finishTiles
    else d)

/-- HOLD_MAX as it acts (Table 6.11). -/
def Device.holdMax (d : Device) (t : Nat) : Nat := min 40 (max 2 (d.rd Reg.TL_CFG.HOLD_MAX t))

/-- HOLD_MAX_REACHED (R190). -/
def execHoldMaxReached (t : Fin 16) (s : State) : Host.Outcome State Fault Refusal :=
  s.devStep (fun d =>
    if (d.lstate t = 4 ∨ d.lstate t = 5) ∧ d.holdMax t ≤ d.rd Reg.TL_STAT.HELD_RUN t then d.linkDown t else d)

/-- PHASE_TRACK (R188): whether the phases below and above the chosen one passed over the last 64 frames. With one of them
passing, the centre of the run lies on its side (DEDUCED, log entry 61). -/
def execPhaseTrack (t : Fin 16) (passing : Neighbours) (s : State) : Host.Outcome State Fault Refusal :=
  s.devStep (fun d =>
    if d.lstate t = 4 ∧ d.on Reg.TL_CFG.TRACK_EN t ∧ 64 ≤ (d.tile t).frames then
      let p := d.rd Reg.TL_STAT.PHASE t
      let d := d.modTile t (fun x => { x with frames := 0 })
      if passing.below = passing.above then d else d.wr Reg.TL_STAT.PHASE t (if passing.above then (p + 1) % 8 else (p + 7) % 8)
    else d)

/-- TILE_INHIBIT_CLEAR (R193). -/
def execTileInhibitClear (t : Fin 16) (s : State) : Host.Outcome State Fault Refusal :=
  s.devStep (fun d =>
    if d.on Reg.TL_STAT.INHIBIT t ∧ max 1 (d.rd Reg.TL_CFG.INH_CLR t) ≤ (d.tile t).clearRun then
      (d.wr Reg.TL_STAT.INHIBIT t 0).tlEvt t 9
    else d)

/-! ### Telemetry (R200) -/

/-- One loop period enters the interval of tile `t`. -/
def Device.telemetryAdd (d : Device) (t : Nat) : Device :=
  if !d.on Reg.TL_CTRL.TEL_EN t then d
  else
    let ok := d.wordsValid t
    let tag := (d.tile t).tag
    let f := b2n (tag == .settling) + 2 * b2n (d.heldPeriod t) + 4 * b2n (tag == .subst)
    d.modTile t (fun x => { x with
      telCnt := x.telCnt + 1, telFlags := x.telFlags ||| BitVec.ofNat 3 f
      telN := if ok then x.telN + 1 else x.telN
      telSum := if ok then List.zipWith (· + ·) x.telSum x.words else x.telSum })

/-- The entry of Table 6.9. -/
def Device.telemetryBytes (d : Device) (t : Nat) : List Byte :=
  let x := d.tile t
  let mean := d.on Reg.TEL_CFG.MEAN t
  let w (s : Nat) : Int := if mean && x.telN != 0 then divZ (nth 0 s x.telSum) x.telN else nth 0 s x.words
  leBytes 4 d.loops ++ (List.range 10).flatMap (fun s => leBytes 2 (toBits 16 (w s)))
    ++ leBytes 4 (d.rd Reg.TL_TSTAT.TSTAT t)
    ++ leBytes 1 (x.telFlags.toNat + 8 * b2n mean + 16 * b2n x.telDrop)
    ++ leBytes 1 (d.lstate t) ++ leBytes 2 (d.rd Reg.TL_BAD.COUNT t)

/-- TELEMETRY_ENTRY (R200). -/
def execTelemetryEntry (t : Fin 16) (s : State) : Host.Outcome State Fault Refusal :=
  s.devStep (fun d =>
    if d.on Reg.TL_CTRL.TEL_EN t ∧ 2 ^ d.rd Reg.TEL_CFG.DEC t ≤ (d.tile t).telCnt then
      let bs := d.telemetryBytes t
      let room := d.ringTakes (80 + t) 32 1
      let d := if room then d.ringPush (80 + t) bs else (d.count Reg.TEL_DROPS.COUNT t).tlEvt t 12
      d.modTile t (fun x => { x with
        telCnt := 0, telSum := List.replicate 10 0, telN := 0, telFlags := 0, telDrop := !room })
    else d)

/-! ### LOOP_PERIOD (R117) -/

/-- HELD_RUN counts the consecutive held periods (R190). -/
def Device.countHeld (d : Device) (t : Nat) : Device :=
  let d := d.modTile t (fun x => { x with sinceDown := x.sinceDown + 1 })
  if d.wordsValid t then d.wr Reg.TL_STAT.HELD_RUN t 0
  else if d.heldPeriod t then
    (d.wr Reg.TL_TAG.TAG t (d.rd Reg.TL_TAG.TAG t % 4 + 4)).countSat Reg.TL_STAT.HELD_RUN t
  else d

/-- A quotient that MOTOR_IDENT measured, for 16 bits: free where the divisor is 0 or it exceeds them, and in the rounding of
one that is not whole (R145 states none). -/
def identQuotient (num den k : Nat) (free : BitVec 16) : Nat :=
  let v := num / den + b2n (num % den != 0 && Config.identUp k)
  if den = 0 ∨ 65535 < v then free.toNat else v

/-- What a motor identification has measured after one more period with valid words (R145): u and i of both phases. -/
def IdentRun.add (r : IdentRun) (a b : Phase) : IdentRun :=
  if r.k < 6000 then { r with ua := r.ua + a.u, ub := r.ub + b.u, ia := r.ia + a.i, ib := r.ib + b.i }
  else
    let di := (a.i - a.iPrev).natAbs + (b.i - b.iPrev).natAbs
    { r with step := match r.step with
        | some x => some x
        | none => if di = 0 then none else some (a.u.natAbs + b.u.natAbs, di) }

/-- RCOIL in mΩ and LCOIL in µH that an identification found. DESIGN CHOICE (log entry 62): magnitudes are summed over the
phases, and the initial rate of change is that of the first period in which a current changes. -/
def IdentRun.found (r : IdentRun) (k : Nat) : Nat × Nat :=
  (identQuotient ((r.ua.natAbs + r.ub.natAbs) * 1000) (r.ia.natAbs + r.ib.natAbs) (2 * k) (Config.identR k),
   match r.step with
   | some (u, di) => identQuotient (u * 25) di (2 * k + 1) (Config.identL k)
   | none => (Config.identL k).toNat)

/-- A cancelled motor identification ends at the next loop period, ABORTED, and the axis comes to rest (Table 7.6). -/
def Device.identAborts (d : Device) (n : Nat) : Device :=
  match (d.ax n).ident, (d.ax n).owner with
  | some _, some tag =>
    if (d.task? tag).any (fun t => t.aborting) then
      ((d.modAx n (fun a => { a with ident := none, owner := none })).complete tag .aborted false []).goRest n
    else d
  | _, _ => d

/-- The motor identification of axis `n` runs one period; after 200 ms it writes the MOTOR shadows (R145). -/
def Device.identStep (d : Device) (n : Nat) : Device :=
  let a := d.ax n
  match a.ident with
  | none => d
  | some r =>
    let r := { (if d.wordsValid (tileOf n) then r.add a.phaseA a.phaseB else r) with k := r.k + 1 }
    if r.k < 8000 then d.modAx n (fun a => { a with ident := some r })
    else
      let (f, d) := d.draw
      let (rc, lc) := r.found f
      let d := (d.wrSh Reg.MOTOR.RCOIL n rc).wrSh Reg.MOTOR.LCOIL n lc
      let d := d.modAx n (fun a => { a with ident := none, owner := none })
      let d := match a.owner with
        | some tag => d.complete tag .ok false (leBytes 2 rc ++ leBytes 2 lc)
        | none => d
      d.goRest n

/-- The loop of one tile: its axes are arbitrated together under the tile budget (R125, R130). -/
def Device.tilePeriod (d : Device) (t : Nat) : Device :=
  let ns := tileAxes t
  let d := ns.foldl (fun d n => (d.identAborts n).leaveOff n) d
  let d := ns.foldl (fun d n => d.measure n (d.rd Reg.ANGLE.ANGLE n)) d
  let (d, qs) := ns.foldl (fun (p : Device × List Demand) n =>
    let (d, q) := p.1.arbitrate n
    (d, p.2 ++ [q])) (d, [])
  let cut := budgetCut (List.zipWith (fun q n => (q.d, prioWeight (d.rd Reg.CUR_CTRL.PRIO n))) qs ns)
  let d := (List.zip ns (List.zip qs cut)).foldl (fun d p =>
    d.closePeriod p.1 (d.rd Reg.ANGLE.ANGLE p.1) p.2.1 p.2.2) d
  ns.foldl (fun d n => d.identStep n) d

/-- The controller ledger adds the supply energy of the period, a free value (R141). -/
def Device.addSupply (d : Device) : Device :=
  let (k, d) := d.draw
  let c := d.rd Reg.CE_L.CE + 2 ^ 32 * d.rd Reg.CE_H.CE + Config.supplyEnergy k
  (d.wr Reg.CE_L.CE 0 c).wr Reg.CE_H.CE 0 (c / 2 ^ 32)

/-- Every level standing at a GPIO ball in RUN or FULL has been accepted by the next loop period (R149). -/
def Device.acceptInputs (d : Device) : Device := { d with pads := { d.pads with accepted := d.pads.gpio } }

/-- One loop period of 25 µs: 5000 CD03 cycles (R93). The address words go out after the loops of their axes (R107). -/
def Device.loopPeriod (d : Device) : Device :=
  if !d.motionRuns then d
  else
    let d := d.modPower (fun p => { p with loops := p.loops + 1, cd03 := p.cd03 + 5000, loopGrain := d.grain })
    let d := d.acceptInputs
    let d := d.each 16 (fun t d => d.countHeld t)
    let d := d.each 64 (fun n d => d.advance n)
    let d := d.each 16 (fun t d => d.tilePeriod t)
    let d := d.each 16 (fun t d => (d.telemetryAdd t).modTile t (fun x => { x with tag := .absent }))
    (d.each 4 (fun p d => d.sendAddresses p)).addSupply

/-- LOOP_PERIOD (R117). -/
def execLoopPeriod (s : State) : Host.Outcome State Fault Refusal := s.devStep Device.loopPeriod

end Sys2Proof.Machine
end

