-- ==== Sys2Proof/Machine/Thermal.lean ====
section
/-! DEFINITION. Temperature sensors, their threshold outputs, and the fans (chapter 16). Readings in 1/128 °C. -/
namespace Sys2Proof.Machine

/-- Sensor `x`: 0 the die, 1 to 16 the tiles, 17 to 24 external. -/
def Device.sensor (d : Device) (x : Nat) : Sensor := nth Sensor.reset x d.sensors
/-- Change sensor `x`. -/
def Device.modSensor (d : Device) (x : Nat) (f : Sensor → Sensor) : Device := { d with sensors := modNth f x d.sensors }
/-- Threshold `k` of sensor `x`: 0 WARN, 1 DERATE, 2 SHUTDOWN. -/
def Device.threshold (d : Device) (x k : Nat) : Threshold := nth ⟨false, false, none, false, none⟩ k (d.sensor x).ths
/-- Change threshold `k` of sensor `x`. -/
def Device.modThreshold (d : Device) (x k : Nat) (f : Threshold → Threshold) : Device :=
  d.modSensor x (fun s => { s with ths := modNth f k s.ths })
/-- Limit `k` of sensor `x`. -/
def Device.thLimit (d : Device) (x k : Nat) : Int :=
  sext 16 (match k with
    | 0 => d.rd Reg.TH_LIM.WARN x
    | 1 => d.rd Reg.TH_LIM.DERATE x
    | _ => d.rd Reg.TH_SHUT.SHUTDOWN x)
/-- Reading of sensor `x`. -/
def Device.reading (d : Device) (x : Nat) : Int := sext 16 (d.rd Reg.TH_STAT.READING x)

/-- A fan is enabled and FAILED. -/
def Device.fanFailed (d : Device) (f : Nat) : Bool := d.on Reg.FAN_CTRL.EN f && d.rd Reg.FAN_STAT.STATE f == 6

/-- TH_STAT of sensor `x` and TH_SUM follow the outputs (Table 16.6). -/
def Device.refreshTh (d : Device) (x : Nat) : Device :=
  let bit3 (p : Threshold → Bool) : Nat :=
    b2n (p (d.threshold x 0)) + 2 * b2n (p (d.threshold x 1)) + 4 * b2n (p (d.threshold x 2))
  let d := (d.wr Reg.TH_STAT.OUT x (bit3 (·.out))).wr Reg.TH_STAT.HOVER x (bit3 (·.hover))
  let any (k : Nat) : Bool := (List.range 25).any (fun y => bitOf (d.rd Reg.TH_STAT.OUT y) k)
  d.wr Reg.TH_SUM.ANY 0 (b2n (any 0) + 2 * b2n (any 1) + 4 * b2n (any 2)
    + 8 * b2n ((List.range 25).any (fun y => d.rd Reg.TH_STAT.HOVER y != 0))
    + 16 * b2n ((List.range 6).any (fun f => d.fanFailed f)))

/-- The axes a sensor governs (R480, R481): the die all, a tile its four, an external sensor none. -/
def governed (x : Nat) : List Nat :=
  if x = 0 then List.range 64 else if x ≤ 16 then tileAxes (x - 1) else []

/-- SHUTDOWN acts on axis `n` (R481): a moving axis stops softly, one at rest is disabled and goes OFF, and one that is
OFF or in FAULT already loses its ENABLE (R497). -/
def Device.shutAxis (d : Device) (n : Nat) : Device :=
  if d.stoppable n then d.askStop n 6
  else if d.axSt n = stOff ∨ d.axSt n = stFault then d.wr Reg.AX_CTRL.ENABLE n 0
  else d.shutRest n

/-- Output `k` of sensor `x` takes a value (R477, R478, R480 to R483). -/
def Device.setOutput (d : Device) (x k : Nat) (v : Bool) : Device :=
  if (d.threshold x k).out = v then d
  else
    let d := (d.modThreshold x k (fun h => { h with out := v, since := none })).refreshTh x
    let d := (d.modSensor x (fun s => { s with since := 0 })).thEvt x (2 * k + b2n (!v))
    let d := if x = 0 ∧ k = 0 ∧ v ∧ d.mode ≤ 1 then d.wakeLatch 6 else d
    if k = 2 then
      let d := d.record 0x0041 (leBytes 1 x ++ leBytes 1 (b2n v))
      if v then (governed x).foldl Device.shutAxis (d.occur 0x13 x)
      else if (governed x).isEmpty then d.clearLatch 0x13 x else d
    else d

/-- The raw state of a threshold after a sample (R476). -/
def rawState (reading limit hyst : Int) (was : Bool) : Bool :=
  if limit ≤ reading then true else if reading < limit - hyst then false else was

/-- One threshold takes a sample: a crossing counts in the hover scruple (R478), the dwell timer runs while raw state
and output differ (R477), and after THERM_REINIT the output follows at once. -/
def Device.sampleThreshold (d : Device) (x : Nat) (fresh : Bool) (k : Nat) : Device :=
  let h := d.threshold x k
  let raw := rawState (d.reading x) (d.thLimit x k) (16 * d.rd Reg.TH_SHUT.HYST x) h.raw
  let now := d.grain
  let crossed := raw != h.raw
  let since := if raw = h.out then none else if crossed then some now else (h.since.orElse (fun _ => some now))
  let d := d.modThreshold x k (fun h => { h with
    raw := raw, since := since, lastCross := if crossed then some now else h.lastCross })
  let d := if crossed then d.occur (0x10 + k) x else d
  if fresh && !h.hover then d.setOutput x k raw else d

/-- Sensor `x` takes a sample (R473 to R476). -/
def Device.takeSample (d : Device) (x : Nat) (v : Int) : Device :=
  let fresh := (d.sensor x).fresh
  let d := d.modSensor x (fun s => { s with fresh := false, since := satInc 16 s.since })
  let d := d.wr Reg.TH_STAT.READING x (toBits 16 v)
  ((d.sampleThreshold x fresh 0).sampleThreshold x fresh 1).sampleThreshold x fresh 2

/-- A sample that yields nothing sets NO_SAMPLE (R474, R475). -/
def Device.noSample (d : Device) (x : Nat) : Device := d.thEvt x 7

/-- DIE_TEMP_SAMPLE (R473). -/
def execDieTempSample (reading : BitVec 16) (s : State) : Host.Outcome State Fault Refusal :=
  s.devStep (fun d => d.takeSample 0 (sext 16 reading.toNat))

/-- TILE_TEMP_SAMPLE (R474). -/
def execTileTempSample (t : Fin 16) (s : State) : Host.Outcome State Fault Refusal :=
  s.devStep (fun d =>
    let x := 1 + t.val
    let acc := (d.sensor x).acc
    let n := (d.sensor x).n
    let d := d.modSensor x (fun s => { s with acc := 0, n := 0 })
    if d.lstate t ≠ 4 then d else if n = 0 then d.noSample x else d.takeSample x (divZ acc n))

/-- An external sensor takes a result of its channel (R475). -/
def Device.externalSample (d : Device) (x : Nat) (code : Int) (bad : Bool) : Device :=
  if bad then d.noSample x
  else
    let v := sext 16 (d.rd Reg.TH_CONV.OFS x) + divZ (code * d.rd Reg.TH_CONV.SPAN x) (2 ^ 23)
    d.takeSample x (if -32768 ≤ v ∧ v < 32768 then v else (Config.wideReading v).toInt)

/-- DWELL of a sensor in 1/10 grain period; 0 acts as 1 (Table 16.6). -/
def Device.dwellTenths (d : Device) (x : Nat) : Nat := max 1 (d.rd Reg.TH_SHUT.DWELL x) * 32768

/-- THRESHOLD_DWELL_DONE (R477): the raw state has differed from the output for DWELL. -/
def execThresholdDwellDone (x : Fin 25) (k : Fin 3) (s : State) : Host.Outcome State Fault Refusal :=
  s.devStep (fun d =>
    let h := d.threshold x k
    match h.since with
    | some t0 =>
      if h.raw ≠ h.out ∧ h.hover = false ∧ d.dwellTenths x ≤ (d.grain - t0) * 10 then d.setOutput x k h.raw else d
    | none => d)

/-- The hover scruple of a threshold turns lasting (R478): the output is set at once and pinned. -/
def Device.beginHover (d : Device) (x k : Nat) : Device :=
  let d := d.setOutput x k true
  ((d.modThreshold x k (fun h => { h with hover := true, since := none })).refreshTh x).thEvt x 6

/-- HOVER_QUIET_WINDOW (R478): a full window has passed without a crossing; the output takes the raw state at once. -/
def execHoverQuietWindow (x : Fin 25) (k : Fin 3) (s : State) : Host.Outcome State Fault Refusal :=
  s.devStep (fun d =>
    let h := d.threshold x k
    if h.hover ∧ d.scrWindow (0x10 + k) ≤ d.grain - h.lastCross.getD 0 then
      let d := (d.modThreshold x k (fun h => { h with hover := false })).refreshTh x
      (d.clearLatch (0x10 + k) x).setOutput x k h.raw
    else d)

/-! ### Fans (R484 to R493) -/

/-- Fan `f`. -/
def Device.fan (d : Device) (f : Nat) : Fan := nth Fan.reset f d.fans
/-- Change fan `f`. -/
def Device.modFan (d : Device) (f : Nat) (g : Fan → Fan) : Device := { d with fans := modNth g f d.fans }

/-- The sensor that drives fan `f`. -/
def Device.fanSrc (d : Device) (f : Nat) : Nat :=
  let s := d.rd Reg.FAN_CTRL.SRC f
  if s ≤ 24 then s else 0

/-- A piecewise-linear curve through points in ascending order, constant outside them (R485). -/
def curve (r : Int) : List (Int × Nat) → Nat
  | [] => 0
  | [(_, s)] => s
  | (t0, s0) :: (t1, s1) :: rest =>
    if r < t0 then s0
    else if r < t1 then
      (s0 : Int) + nearQuot (((s1 : Int) - s0) * (r - t0)) (t1 - t0).toNat |>.toNat
    else curve r ((t1, s1) :: rest)

/-- TARGET of fan `f` (R485). -/
def Device.fanTarget (d : Device) (f : Nat) : Nat :=
  let x := d.fanSrc f
  let s3 := d.rd Reg.FAN_CS23.S3 f
  let t (i : Nat) : Int := 128 * sext 8 (bitsOf (d.rd Reg.FAN_CT.T f) (8 * i) 8)
  if d.rd Reg.TH_STAT.OUT x ≠ 0 then s3
  else curve (d.reading x) [(t 0, d.rd Reg.FAN_CS01.S0 f), (t 1, d.rd Reg.FAN_CS01.S1 f),
    (t 2, d.rd Reg.FAN_CS23.S2 f), (t 3, s3)]

/-- The learned points, ascending: duty and speed (R487). -/
def Fan.learned (x : Fan) : List (Nat × Nat) :=
  (x.map.zipIdx.map (fun p => (200 + 100 * p.2, p.1))).filter (fun p => p.2 != 0)

/-- The smallest duty at which the map reaches `target` (R492); `none` above every learned speed. -/
def mapDuty (target : Nat) : List (Nat × Nat) → Option Nat
  | [] => none
  | [(p, e)] => if target ≤ e then some p else none
  | (p0, e0) :: (p1, e1) :: rest =>
    if target ≤ e0 then some p0
    else if target ≤ e1 then some (p0 + ((target - e0) * (p1 - p0) + (e1 - e0 - 1)) / (e1 - e0))
    else mapDuty target ((p1, e1) :: rest)

/-- The open-loop duty of a fan (R488, R492). -/
def Fan.openLoop (x : Fan) (target : Nat) : Nat :=
  if x.learned.length < 2 then 1000 else (mapDuty target x.learned).getD 1000

/-- Give fan `f` a state and a duty. -/
def Device.setFan (d : Device) (f state duty : Nat) : Device :=
  ((d.wr Reg.FAN_STAT.STATE f state).wr Reg.FAN_STAT.DUTY f duty).modFan f (fun x => { x with edges := 0 })

/-- While an enabled fan is FAILED, the other enabled fans with BOOST that run, or have lost their tach, are at
1000 ‰ (R490). FAN_FAIL_ANY follows. -/
def Device.boostFans (d : Device) : Device :=
  let d := d.each 6 (fun f d =>
    let st := d.rd Reg.FAN_STAT.STATE f
    if d.on Reg.FAN_CTRL.EN f && d.on Reg.FAN_CTRL.BOOST f && (st == 4 || st == 5)
        && (List.range 6).any (fun g => g != f && d.fanFailed g)
    then d.wr Reg.FAN_STAT.DUTY f 1000 else d)
  d.refreshTh 0

/-- A kick begins (R488). -/
def Device.kickFan (d : Device) (f attempt : Nat) : Device :=
  (d.wr Reg.FAN_STAT.ATTEMPT f attempt).setFan f 2 1000

/-- Fan `f` starts (R488), or is STOPPED where its TARGET is 0 (R485). -/
def Device.startFan (d : Device) (f : Nat) : Device :=
  let t := d.fanTarget f
  let d := (d.wr Reg.FAN_SPEED.TARGET f t).wr Reg.FAN_STAT.CLASS f 0
  let d := (d.wr Reg.FAN_STAT.NO_CURRENT f 0).wr Reg.FAN_STAT.ATTEMPT f 0
  (if t = 0 then d.setFan f 1 0 else (d.kickFan f 0).fanEvt f 0).boostFans

/-- Fan `f` fails with a class (R489, R493). -/
def Device.failFan (d : Device) (f cls : Nat) : Device :=
  let d := (d.wr Reg.FAN_STAT.CLASS f cls).setFan f 6 0
  ((d.fanEvt f 1).record 0x0042 (leBytes 1 f ++ leBytes 1 cls)).boostFans

/-- The last result of a fan's current channel within the last `g` grain periods: code and CLIPPED. -/
def Device.fanCurrent (d : Device) (f g : Nat) : Option (Int × Bool) :=
  match (d.fan f).current with
  | some (code, clip, at0) => if d.grain - at0 ≤ g then some (code, clip) else none
  | none => none

/-- The fourth kick has failed: the class by the fan current of its last second (R489). -/
def Device.classifyFan (d : Device) (f : Nat) : Device :=
  let hi := sext 24 (d.rd Reg.FAN_STALL.I_STALL f)
  let lo := sext 24 (d.rd Reg.FAN_OPEN.I_OPEN f)
  match d.fanCurrent f 32768 with
  | none => ((d.wr Reg.FAN_STAT.NO_CURRENT f 1).failFan f 3).occur 0x14 f
  | some (code, clip) =>
    (d.failFan f (if hi < code ∨ clip then 1 else if code < lo then 2 else 3)).occur 0x14 f

/-- FAN_KICK_END (R488, R489). -/
def execFanKickEnd (f : Fin 6) (edges : BitVec 16) (s : State) : Host.Outcome State Fault Refusal :=
  s.devStep (fun d =>
    if d.rd Reg.FAN_STAT.STATE f ≠ 2 then d
    else if 2 ≤ edges.toNat then (d.setFan f 4 ((d.fan f).openLoop (d.rd Reg.FAN_SPEED.TARGET f))).boostFans
    else if d.rd Reg.FAN_STAT.ATTEMPT f = 3 then d.classifyFan f
    else d.setFan f 3 0)

/-- FAN_WAIT_END (R488, R491): the next kick, or the start after a stall. -/
def execFanWaitEnd (f : Fin 6) (s : State) : Host.Outcome State Fault Refusal :=
  s.devStep (fun d =>
    if d.rd Reg.FAN_STAT.STATE f ≠ 3 then d
    else if d.rd Reg.FAN_STAT.CLASS f = 4 then d.startFan f
    else d.kickFan f (d.rd Reg.FAN_STAT.ATTEMPT f + 1))

/-- FAN_TACH_SILENT (R491): no edge for 1 s in RUN above 200 ‰. -/
def execFanTachSilent (f : Fin 6) (s : State) : Host.Outcome State Fault Refusal :=
  s.devStep (fun d =>
    if d.rd Reg.FAN_STAT.STATE f ≠ 4 ∨ d.rd Reg.FAN_STAT.DUTY f ≤ 200 then d
    else
      let hi := sext 24 (d.rd Reg.FAN_STALL.I_STALL f)
      let lo := sext 24 (d.rd Reg.FAN_OPEN.I_OPEN f)
      let turning := match d.fanCurrent f 65536 with
        | some (code, clip) => decide (lo ≤ code ∧ code ≤ hi) && !clip
        | none => false
      if turning then
        let d := (d.wr Reg.FAN_STAT.CLASS f 5).setFan f 5 ((d.fan f).openLoop (d.rd Reg.FAN_SPEED.TARGET f))
        ((d.fanEvt f 3).occur 0x16 f).boostFans
      else
        let d := (d.wr Reg.FAN_STAT.CLASS f 4).setFan f 3 0
        (d.fanEvt f 2).occur 0x15 f)

/-- RPM of a fan from the edges of 500 ms (R484). -/
def Device.fanRpm (d : Device) (f edges : Nat) : Nat :=
  let ppr := match d.rd Reg.FAN_CTRL.PPR f with
    | 0 => 1
    | 2 => 4
    | _ => 2
  let r := edges * 120 / ppr
  if r < 65536 then r else (Config.wideRpm r).toNat

/-- One step of the learned map (R487): ten updates of 500 ms near one point, then the entry moves. -/
def Fan.learn (x : Fan) (duty rpm : Nat) : Fan :=
  match (List.range 9).find? (fun (i : Nat) => decide (((duty : Int) - (200 + 100 * i)).natAbs ≤ 25)) with
  | none => { x with stay := 0, point := 0 }
  | some i =>
    let p := 200 + 100 * i
    let k := if x.point = p then x.stay + 1 else 1
    if k < 10 then { x with stay := k, point := p }
    else { x with stay := k, point := p, map := modNth (fun e =>
      if e = 0 then rpm else ((e : Int) + nearQuot ((rpm : Int) - e) 4).toNat) i x.map }

/-- The speed loop (R486). -/
def Device.fanLoop (d : Device) (f rpm target : Nat) : Nat :=
  let err := divZ (((target : Int) - rpm) * d.rd Reg.FAN_STALL.GAIN f) 1024
  (min 1000 (max ((d.rd Reg.FAN_STAT.DUTY f : Int) + clampI (-50) 50 err) (d.rd Reg.FAN_CTRL.MIN_DUTY f))).toNat

/-- The 500 ms update of fan `f` with the edges counted (R484 to R487, R492). -/
def Device.updateFan (d : Device) (f edges : Nat) : Device :=
  if !d.on Reg.FAN_CTRL.EN f || d.power.grain || d.power.devrst then d
  else
    let rpm := d.fanRpm f edges
    let target := d.fanTarget f
    let d := (d.wr Reg.FAN_SPEED.RPM f rpm).wr Reg.FAN_SPEED.TARGET f target
    let st := d.rd Reg.FAN_STAT.STATE f
    if st = 6 then d
    else if target = 0 then (d.setFan f 1 0).boostFans
    else if st = 1 then d.startFan f
    else if st = 4 then
      let d := d.modFan f (fun x => x.learn (d.rd Reg.FAN_STAT.DUTY f) rpm)
      (d.wr Reg.FAN_STAT.DUTY f (d.fanLoop f rpm target)).boostFans
    else if st = 5 then
      if 2 ≤ (d.fan f).edges + edges then
        let d := (d.wr Reg.FAN_STAT.CLASS f 0).setFan f 4 (d.rd Reg.FAN_STAT.DUTY f)
        ((d.fanEvt f 4).clearLatch 0x16 f).boostFans
      else
        ((d.wr Reg.FAN_STAT.DUTY f ((d.fan f).openLoop target)).modFan f (fun x => { x with edges := edges })).boostFans
    else d

/-- FAN_UPDATE (R486). -/
def execFanUpdate (f : Fin 6) (edges : BitVec 16) (s : State) : Host.Outcome State Fault Refusal :=
  s.devStep (fun d => d.updateFan f edges.toNat)

/-- FAN_CTRL.EN has changed (R484, R488): a set fan starts, a cleared one is OFF. -/
def Device.fanEnabled (d : Device) (f : Nat) (on : Bool) : Device :=
  if on then d.startFan f
  else
    let d := (d.wr Reg.FAN_STAT.CLASS f 0).wr Reg.FAN_STAT.ATTEMPT f 0
    ((d.wr Reg.FAN_STAT.NO_CURRENT f 0).setFan f 0 0).boostFans

/-- Entry to GRAIN (R484, R497): outputs low, a start is abandoned. -/
def Device.fansIntoGrain (d : Device) : Device := d.each 6 (fun f d => d.wr Reg.FAN_STAT.DUTY f 0)

/-- On exit from GRAIN every enabled fan starts (R488); one that FAILED stays so. -/
def Device.fansOutOfGrain (d : Device) : Device :=
  d.each 6 (fun f d => if d.on Reg.FAN_CTRL.EN f && d.rd Reg.FAN_STAT.STATE f != 6 then d.startFan f else d)

/-! ### Commands (Table 16.5) -/

/-- THERM_QUERY. -/
def runThermQuery (tag : Nat) (d : Device) : Device :=
  let x := (d.entryOf tag).p 1 0
  d.ok tag true (leBytes 2 (d.rd Reg.TH_STAT.READING x) ++ leBytes 1 (d.rd Reg.TH_STAT.OUT x)
    ++ leBytes 1 (d.rd Reg.TH_STAT.HOVER x) ++ leBytes 2 (d.sensor x).since)

/-- FAN_QUERY. -/
def runFanQuery (tag : Nat) (d : Device) : Device :=
  let f := (d.entryOf tag).p 1 0
  let code := match (d.fan f).current with
    | some (c, _, _) => toBits 24 c
    | none => 0
  d.ok tag true (leBytes 1 (d.rd Reg.FAN_STAT.STATE f) ++ leBytes 1 (d.rd Reg.FAN_STAT.CLASS f)
    ++ leBytes 2 (d.rd Reg.FAN_STAT.DUTY f) ++ leBytes 2 (d.rd Reg.FAN_SPEED.RPM f)
    ++ leBytes 2 (d.rd Reg.FAN_SPEED.TARGET f) ++ leBytes 3 code ++ leBytes 1 (d.rd Reg.FAN_STAT.ATTEMPT f))

/-- FAN_RESTART (R488): class and stall scruple clear, and the fan starts. -/
def runFanRestart (tag : Nat) (d : Device) : Device :=
  let d := d.eachIn ((d.entryOf tag).p 1 0) 6 (fun f d =>
    if d.on Reg.FAN_CTRL.EN f then (d.clearLatches [0x14, 0x15, 0x16] f).startFan f else d)
  d.ok tag false []

/-- FAN_MAP_CLEAR (R487). -/
def runFanMapClear (tag : Nat) (d : Device) : Device :=
  let d := d.eachIn ((d.entryOf tag).p 1 0) 6 (fun f d =>
    d.modFan f (fun x => { x with map := List.replicate 9 0, stay := 0, point := 0 }))
  d.ok tag false []

/-- THERM_REINIT (R495), the FUNC reset of the tile and external sensors (R9): their registers take their reset values,
their outputs stay until the next sample; the die sensor is not acted on. -/
def runThermReinit (tag : Nat) (d : Device) : Device :=
  let d := (d.funcReset 0xA120 0xA420 []).each 25 (fun x d =>
    if x = 0 then d
    else
      let d := d.clearLatches [0x10, 0x11, 0x12] x
      let d := d.modSensor x (fun s => { s with fresh := true, ths := s.ths.map (fun h => { h with hover := false, since := none }) })
      d.refreshTh x)
  d.ok tag false []

/-- FAN_MAP_READ. -/
def runFanMapRead (tag : Nat) (d : Device) : Device :=
  d.ok tag true ((d.fan ((d.entryOf tag).p 1 0)).map.flatMap (fun e => leBytes 2 e))

/-- THERM_QUERY (R495). -/
def execThermQuery (e : Entry) (s : State) : Host.Outcome State Fault Refusal := s.devStep (Device.submit 0x0A01 runThermQuery e)
/-- FAN_QUERY (R495). -/
def execFanQuery (e : Entry) (s : State) : Host.Outcome State Fault Refusal := s.devStep (Device.submit 0x0A02 runFanQuery e)
/-- FAN_RESTART (R488). -/
def execFanRestart (e : Entry) (s : State) : Host.Outcome State Fault Refusal := s.devStep (Device.submit 0x0A03 runFanRestart e)
/-- FAN_MAP_CLEAR (R487). -/
def execFanMapClear (e : Entry) (s : State) : Host.Outcome State Fault Refusal := s.devStep (Device.submit 0x0A04 runFanMapClear e)
/-- THERM_REINIT (R495). -/
def execThermReinit (e : Entry) (s : State) : Host.Outcome State Fault Refusal := s.devStep (Device.submit 0x0A05 runThermReinit e)
/-- FAN_MAP_READ (R495). -/
def execFanMapRead (e : Entry) (s : State) : Host.Outcome State Fault Refusal := s.devStep (Device.submit 0x0A06 runFanMapRead e)

end Sys2Proof.Machine
end

