-- ==== Sys2Proof/Machine/Adc.lean ====
section
/-! DEFINITION. The slow converter: scan, results, bushels and spans, urgent conversions (chapter 12). -/
namespace Sys2Proof.Machine

/-- Channels of SCAN_MASK, ascending. -/
def Device.scanChannels (d : Device) : List Nat :=
  bitsBelow (d.rd Reg.SCAN_MASK_L.MASK + 2 ^ 32 * d.rd Reg.SCAN_MASK_H.MASK) 40

/-- ADC_STAT follows the converter (Table 12.5). -/
def Device.refreshAdc (d : Device) : Device :=
  let a := d.adc
  let ch := if !a.converting then 0x3F else match a.urgent with
    | some u => u.channel
    | none => a.entry.getD 0x3F
  let d := ((d.wr Reg.ADC_STAT.CONVERTING 0 (b2n a.converting)).wr Reg.ADC_STAT.ENTRY 0 ch)
  (d.wr Reg.ADC_STAT.URGENT_NOW 0 (b2n (a.converting && a.urgent.isSome))).wr Reg.ADC_STAT.URG_Q 0 a.queue.length

/-- VDDA lies below its threshold (Table 11.6). -/
def Device.vddaLow (d : Device) : Bool := !bitOf (d.rd Reg.BO_STAT.OK) 5

/-- A conversion begins: what its flags depend on is noted (R371, R372). -/
def Device.beginConversion (d : Device) : Device :=
  (d.modAdc (fun a => { a with
    converting := true, unready := d.rd Reg.ADC_STAT.REF_READY == 0, vddaSeen := d.vddaLow })).refreshAdc

/-- A round starts at its first entry (R364, R366). -/
def Device.startRound (d : Device) : Device :=
  match d.scanChannels with
  | [] => d
  | c :: _ =>
    let d := d.wr Reg.ADC_STAT.ROUND 0 d.adc.rounds
    (d.modAdc (fun a => { a with
      entry := some c, resumed := false, dueHeld := false, rounds := a.rounds + 1 })).beginConversion

/-- The converter goes on after an entry or an urgent conversion (R366, R381 to R383): the next urgent request, the
entry of the round in progress, a round held back, or nothing. -/
def Device.nextConversion (d : Device) : Device :=
  match d.adc.queue with
  | u :: rest =>
    let d := d.modTask u.tag (fun t => { t with state := .executing })
    (d.modAdc (fun a => { a with urgent := some u, queue := rest })).beginConversion
  | [] =>
    let d := d.modAdc (fun a => { a with urgent := none, converting := false })
    if d.adc.entry.isSome then d.beginConversion
    else if d.adc.dueHeld && d.on Reg.ADC_CTRL.SCAN_EN then d.startRound
    else d.refreshAdc

/-- A round has converted its last entry (R366). -/
def Device.endRound (d : Device) : Device :=
  let d := (d.count Reg.ADC_ROUNDS.COUNT).adcEvt 0
  let d := d.modAdc (fun a => { a with entry := none, converting := false })
  if d.on Reg.SCAN_CFG.SINGLE then (d.wr Reg.ADC_CTRL.SCAN_EN 0 0).refreshAdc
  else if d.rd Reg.SCAN_CFG.ROUND_PER = 0 then d.startRound
  else d.refreshAdc

/-! ### Results (R362, R371 to R379) -/

/-- Gain of a channel (Table 12.4); internal channels act as gain 1 (R361). -/
def Device.adcGain (d : Device) (n : Nat) : Nat := if n < 32 then 2 ^ min 4 (d.rd Reg.CH_CFG.GAIN n) else 1

/-- The code of an input voltage in units of 1.25 V / 2^31 (R362). -/
def adcCode (gain : Nat) (input : Int) : Int := clampI (-(2 ^ 23)) (2 ^ 23 - 1) (roundDiv (input * gain) 256)

/-- The code reached a clamp (R362). -/
def adcClipped (code : Int) : Bool := code == 2 ^ 23 - 1 || code == -(2 ^ 23)

/-- Clear bushel `n` (R376, R377). -/
def Device.clearBushel (d : Device) (n : Nat) : Device :=
  let d := (d.wr Reg.BSH_SUM_L.SUM n 0).wr Reg.BSH_SUM_H.SUM n 0
  ((d.wr Reg.BSH_CNT.COUNT n 0).wr Reg.BSH_CNT.BSTAT n 0).wr Reg.BSH_SKIP.SKIP n 0
/-- Clear span `n`: MIN above MAX (R376). -/
def Device.clearSpan (d : Device) (n : Nat) : Device := (d.wr Reg.SPN_MIN.MIN n 0x7FFFFF).wr Reg.SPN_MAX.MAX n 0x800000

/-- Add a result to bushel `n` and compare it into span `n` (R374 to R377). -/
def Device.accumulate (d : Device) (n : Nat) (code : Int) (flags : Nat) : Device :=
  if d.on Reg.CH_CFG.EXCL n && flags % 8 != 0 then d.countSat Reg.BSH_SKIP.SKIP n
  else
    let d := if code < sext 24 (d.rd Reg.SPN_MIN.MIN n) then d.wr Reg.SPN_MIN.MIN n (toBits 24 code) else d
    let d := if sext 24 (d.rd Reg.SPN_MAX.MAX n) < code then d.wr Reg.SPN_MAX.MAX n (toBits 24 code) else d
    if bitOf (d.rd Reg.BSH_CNT.BSTAT n) 3 then d
    else
      let sum := toBits 48 (sext 48 (d.rd Reg.BSH_SUM_L.SUM n + 2 ^ 32 * d.rd Reg.BSH_SUM_H.SUM n) + code)
      let k := d.rd Reg.BSH_CNT.COUNT n + 1
      let full := k == 2 ^ 24 - 1
      let d := (d.wr Reg.BSH_SUM_L.SUM n sum).wr Reg.BSH_SUM_H.SUM n (sum / 2 ^ 32)
      let d := (d.wr Reg.BSH_CNT.COUNT n k).wr Reg.BSH_CNT.BSTAT n
        (d.rd Reg.BSH_CNT.BSTAT n ||| flags % 8 ||| 8 * b2n full)
      if full then d.chEvt n 2 else d

/-- A result entry (Table 12.3). -/
def Device.adcEntry (d : Device) (n sub flags drops : Nat) (code : Int) : List Byte :=
  leBytes 3 (toBits 24 code) ++ leBytes 1 n ++ leBytes 4 d.grain ++ leBytes 1 sub ++ leBytes 1 flags
    ++ leBytes 1 (d.rd Reg.ADC_STAT.ROUND) ++ [0] ++ leBytes 2 (d.rd Reg.CH_CFG.TAG n) ++ leBytes 2 drops

/-- Write a result to its ring, or drop it (R373). -/
def Device.adcToRing (d : Device) (n sub flags : Nat) (code : Int) : Device :=
  let k := d.rd Reg.CH_CFG.RING n
  if d.ringTakes (96 + k) 16 1 then
    let d := d.ringPush (96 + k) (d.adcEntry n sub flags (nth 0 k d.adc.drops) code)
    d.modAdc (fun a => { a with drops := modNth (fun _ => 0) k a.drops })
  else
    let d := d.modAdc (fun a => { a with drops := modNth (satInc 16) k a.drops })
    (d.count Reg.ADC_RING_DROPS.COUNT).adcEvt 2

/-- Limits, fan current and external sensors take every scan result (R378, R379, R475). -/
def Device.adcListeners (d : Device) (n : Nat) (code : Int) (flags : Nat) : Device :=
  let d := if code < sext 24 (d.rd Reg.CH_LIM_LO.LIM n) then d.chEvt n 0 else d
  let d := if sext 24 (d.rd Reg.CH_LIM_HI.LIM n) < code then d.chEvt n 1 else d
  let d := if 24 ≤ n ∧ n < 30 then
      d.modFan (n - 24) (fun f => { f with current := some (code, bitOf flags 2, d.grain) }) else d
  d.each 8 (fun k d =>
    if d.on Reg.TH_DER.XEN (17 + k) && d.rd Reg.TH_DER.CH (17 + k) == n
    then d.externalSample (17 + k) code (flags % 8 != 0) else d)

/-- A scan result (R364, R373 to R379). -/
def Device.scanResult (d : Device) (n sub flags : Nat) (code : Int) : Device :=
  let d := d.adcListeners n code flags
  let d := if d.on Reg.CH_CFG.ROUTE n then d.accumulate n code flags else d.adcToRing n sub flags code
  let d := d.modAdc (fun a => { a with resumed := false })
  match d.scanChannels.find? (fun c => decide (n < c)) with
  | some c => (d.modAdc (fun a => { a with entry := some c })).beginConversion
  | none => d.endRound

/-- A conversion delivers its settled word (R364, R381). -/
def Device.adcDone (d : Device) (input : Int) (sub : Nat) : Device :=
  let a := d.adc
  if !a.converting then d
  else
    let flags (code : Int) : Nat := b2n a.unready + 2 * b2n a.vddaSeen + 4 * b2n (adcClipped code)
    match a.urgent with
    | some u =>
      let code := adcCode (d.adcGain u.channel) input
      let d := d.complete u.tag .ok false (leBytes 3 (toBits 24 code)
        ++ leBytes 1 (flags code + 16 * b2n u.interrupted) ++ leBytes 4 d.grain ++ leBytes 1 sub ++ leBytes 1 u.channel)
      (d.adcEvt 4).nextConversion
    | none =>
      match a.entry with
      | none => d
      | some n =>
        let code := adcCode (d.adcGain n) input
        d.scanResult n sub (flags code + 8 * b2n a.resumed) code

/-- ADC_ENTRY_DONE (R364). -/
def execAdcEntryDone (input : BitVec 40) (sub : Fin 32) (s : State) : Host.Outcome State Fault Refusal :=
  s.devStep (fun d => d.adcDone input.toInt sub)

/-- A round falls due (R366, R383): it starts, is held for the urgent conversions, or is skipped as an overrun. -/
def Device.roundDue (d : Device) : Device :=
  let overrun (d : Device) : Device := (d.count Reg.ADC_OVERRUNS.COUNT).adcEvt 1
  if !d.on Reg.ADC_CTRL.SCAN_EN || d.power.grain || d.towardGrain then d
  else if d.adc.entry.isSome then
    (if d.rd Reg.SCAN_CFG.ROUND_PER = 0 ∨ d.on Reg.SCAN_CFG.SINGLE then d else overrun d)
  else if d.adc.urgent.isSome then
    (if d.adc.dueHeld then overrun d else d.modAdc (fun a => { a with dueHeld := true }))
  else d.startRound

/-- ADC_ROUND_DUE (R366). -/
def execAdcRoundDue (s : State) : Host.Outcome State Fault Refusal := s.devStep Device.roundDue

/-! ### Enables (R367 to R371) -/

/-- The scan stops: the entry in conversion is abandoned and delivers nothing (R368). -/
def Device.abandonScan (d : Device) : Device :=
  (d.modAdc (fun a => { a with
    entry := none, dueHeld := false, resumed := false, converting := a.converting && a.urgent.isSome })).refreshAdc

/-- SCAN_EN has been written 1 over 0 (R367, R371), or cleared (R368). -/
def Device.scanWritten (d : Device) (on : Bool) : Device :=
  if !on then d.abandonScan
  else if d.scanChannels.isEmpty then
    (d.wr Reg.ADC_CTRL.SCAN_EN 0 0).cause Reg.ADC_CTRL.CFG_REJECT 0 0 true 12
  else if d.rd Reg.ADC_STAT.REF_READY = 0 then d.adcEvt 3 else d

/-- REFBUF_EN has been set or cleared (R369). -/
def Device.refbufWritten (d : Device) (on : Bool) : Device :=
  let d := d.modAdc (fun a => { a with refLeft := if on then some 163 else none })
  if on then d else d.wr Reg.ADC_STAT.REF_READY 0 0

/-- REF_READY_SET (R369): 162 grain periods have passed since the first edge after the write. -/
def execRefReadySet (s : State) : Host.Outcome State Fault Refusal :=
  s.devStep (fun d =>
    if d.adc.refLeft = some 0 then
      (d.modAdc (fun a => { a with refLeft := none })).wr Reg.ADC_STAT.REF_READY 0 1
    else d)

/-- A grain edge counts toward REF_READY. -/
def Device.refEdge (d : Device) : Device := d.modAdc (fun a => { a with refLeft := a.refLeft.map (fun k => k - 1) })

/-- Entry to GRAIN abandons the conversion (R384). -/
def Device.adcIntoGrain (d : Device) : Device :=
  (d.abandonScan.wr Reg.ADC_STAT.REF_READY 0 0).modAdc (fun a => { a with refLeft := none })

/-- Exit from GRAIN: REF_READY counts again; the scan's first round falls due after its delay (R384). -/
def Device.adcOutOfGrain (d : Device) : Device :=
  if d.on Reg.ADC_CTRL.REFBUF_EN then d.modAdc (fun a => { a with refLeft := some 163 }) else d

/-! ### Commands (Table 12.4a) -/

/-- ADC_URGENT (R381, R382): at once, abandoning the scan entry in conversion, or in the queue of four. -/
def runAdcUrgent (tag : Nat) (d : Device) : Device :=
  let ch := (d.entryOf tag).p 1 0
  if d.power.step ≠ .none ∧ d.power.goal = 0 then d.refuse tag .functionDown
  else if d.adc.urgent.isSome then
    if d.adc.queue.length < 4 then
      ((d.modTask tag (fun t => { t with state := .queued })).modAdc (fun a => { a with
        queue := a.queue ++ [⟨tag, ch, false⟩] })).refreshAdc
    else d.refuse tag .busyMoving
  else
    let cut := d.adc.converting
    (d.modAdc (fun a => { a with
      urgent := some ⟨tag, ch, cut⟩, resumed := a.resumed || cut })).beginConversion

/-- BUSHEL_READ (R386). -/
def runBushelRead (tag : Nat) (d : Device) : Device :=
  let e := d.entryOf tag
  let n := e.p 1 0
  let res := leBytes 4 (d.rd Reg.BSH_SUM_L.SUM n) ++ leBytes 2 (d.rd Reg.BSH_SUM_H.SUM n)
    ++ leBytes 3 (d.rd Reg.BSH_CNT.COUNT n) ++ leBytes 3 (d.rd Reg.SPN_MIN.MIN n) ++ leBytes 3 (d.rd Reg.SPN_MAX.MAX n)
    ++ leBytes 1 (d.rd Reg.BSH_CNT.BSTAT n) ++ leBytes 4 d.grain
  let d := if e.flag 1 0 then (d.clearBushel n).clearSpan n else d
  d.ok tag (!e.flag 1 0) res

/-- BUSHEL_CLEAR (R386). -/
def runBushelClear (tag : Nat) (d : Device) : Device :=
  let e := d.entryOf tag
  let d := d.eachIn (e.p 5 0) 40 (fun n d =>
    let d := if e.flag 5 0 then d.clearBushel n else d
    if e.flag 5 1 then d.clearSpan n else d)
  d.ok tag false []

/-- ADC_REINIT: the FUNC reset of the block; urgent requests end FUNCTION_DOWN (Table 12.4a). -/
def runAdcReinit (tag : Nat) (d : Device) : Device :=
  let d := match d.adc.urgent with
    | some u => d.complete u.tag .functionDown false []
    | none => d
  let d := d.adc.queue.foldl (fun d u => d.complete u.tag .functionDown true []) d
  let d := { d.funcReset 0x9000 0xA000 [] with adc := Adc.reset }
  d.ok tag false []

/-- ADC_URGENT (R381). -/
def execAdcUrgent (e : Entry) (s : State) : Host.Outcome State Fault Refusal := s.devStep (Device.submit 0x0601 runAdcUrgent e)
/-- BUSHEL_READ (R386). -/
def execBushelRead (e : Entry) (s : State) : Host.Outcome State Fault Refusal := s.devStep (Device.submit 0x0602 runBushelRead e)
/-- BUSHEL_CLEAR (R386). -/
def execBushelClear (e : Entry) (s : State) : Host.Outcome State Fault Refusal := s.devStep (Device.submit 0x0603 runBushelClear e)
/-- ADC_REINIT (R385). -/
def execAdcReinit (e : Entry) (s : State) : Host.Outcome State Fault Refusal := s.devStep (Device.submit 0x0604 runAdcReinit e)

end Sys2Proof.Machine
end

