-- ==== Sys2Proof/Machine/Flags.lean ====
section
/-! DEFINITION. The engine flags and their four operations (R396 to R399, R428), frame slots, and the write filters
that protect SRAM (R40, R278, R346, R400, R411, R438). -/
namespace Sys2Proof.Machine

/-! ### Flag operations (R398, R399) -/

/-- STATE of flag `f`: 0 FREE, 1 WRITE, 2 READ. -/
def Device.flagState (d : Device) (f : Nat) : Nat := d.rd Reg.FLG_STAT.STATE f
/-- Flag `f` is FREE. -/
def Device.flagFree (d : Device) (f : Nat) : Bool := d.flagState f == 0
/-- Holders of flag `f` (Table 13.4). -/
def Device.flagHold (d : Device) (f : Nat) : Nat := d.rd Reg.FLG_STAT.HOLD f

/-- Give flag `f` a state and its holders; the level is 1 in READ. -/
def Device.setFlag (d : Device) (f state hold : Nat) : Device :=
  ((d.wr Reg.FLG_STAT.STATE f state).wr Reg.FLG_STAT.HOLD f hold).wr Reg.FLG_STAT.LEVEL f (b2n (state == 2))

/-- Free: no holder, level 0. -/
def Device.freeFlag (d : Device) (f : Nat) : Device := d.setFlag f 0 0

/-- Claim: FREE to WRITE by the producer `unit`, for the buffer of frame `seq`. -/
def Device.claimFlag (d : Device) (f unit seq : Nat) : Device :=
  if d.flagFree f then (d.setFlag f 1 (2 ^ unit)).wr Reg.FLG_STAT.SEQ f seq else d

/-- Publish: WRITE to READ with a reader mask; an empty mask gives FREE. -/
def Device.publishFlag (d : Device) (f mask : Nat) : Device :=
  if d.flagState f ≠ 1 then d else if mask % 2 ^ 16 = 0 then d.freeFlag f else d.setFlag f 2 mask

/-- Forward: a reader clears its bit and sets its successors'; an empty mask gives FREE. -/
def Device.forwardFlag (d : Device) (f unit succ : Nat) : Device :=
  if d.flagState f ≠ 2 then d
  else
    let h := clrBitOf (d.flagHold f) unit ||| succ % 2 ^ 16
    if h = 0 then d.freeFlag f else d.setFlag f 2 h

/-- Release: a reader clears its bit. -/
def Device.releaseFlag (d : Device) (f unit : Nat) : Device := d.forwardFlag f unit 0

/-! ### Frame slots (R396) -/

/-- Camera receiver `c`. -/
def Device.cam (d : Device) (c : Nat) : Camera := nth Camera.reset c d.perc.cams
/-- Change receiver `c`. -/
def Device.modCam (d : Device) (c : Nat) (f : Camera → Camera) : Device :=
  d.modPerc (fun p => { p with cams := modNth f c p.cams })

/-- SLOTS as it acts (Table 13.10). -/
def Device.camSlots (d : Device) (c : Nat) : Nat := min 8 (max 3 (d.cam c).set.slots)
/-- LEVELS as it acts. -/
def Device.camLevels (d : Device) (c : Nat) : Nat := max 1 (d.cam c).set.levels
/-- Width and height of level `l`. -/
def Device.levelSize (d : Device) (c l : Nat) : Nat × Nat :=
  ((d.cam c).set.width / 2 ^ l, (d.cam c).set.height / 2 ^ l)
/-- Bytes of level `l`. -/
def Device.levelBytes (d : Device) (c l : Nat) : Nat := (d.levelSize c l).1 * (d.levelSize c l).2
/-- Offset of level `l` in a slot: the bytes of the levels before it. -/
def Device.levelOffset (d : Device) (c l : Nat) : Nat := ((List.range l).map (d.levelBytes c)).sum
/-- Bytes of a slot, rounded up to a multiple of 64. -/
def Device.slotBytes (d : Device) (c : Nat) : Nat := (d.levelOffset c (d.camLevels c + 1) + 63) / 64 * 64
/-- Address of slot `s` of camera `c`. -/
def Device.slotAddr (d : Device) (c s : Nat) : Nat := (d.cam c).set.base * 64 + s * d.slotBytes c
/-- Address of level `l` in a slot. -/
def Device.levelAddr (d : Device) (c s l : Nat) : Nat := d.slotAddr c s + d.levelOffset c l

/-- Frame flag of a slot (Table 13.3). -/
def frameFlag (c s : Nat) : Nat := 8 * c + s
/-- Pyramid flag of a slot. -/
def pyrFlag (c s : Nat) : Nat := 16 + 8 * c + s

/-! ### The write filters of SRAM -/

/-- Byte ranges overlap. -/
def overlaps (a n b m : Nat) : Bool := a < b + m && b < a + n

/-- The areas of retention SRAM that host paths may not write (Table 11.3, R346). -/
def retained (a : Nat) : Bool := 0x10000000 ≤ a && a < 0x10030000

/-- A word falls into a held frame slot of camera `c` (R400). -/
def Device.heldSlot (d : Device) (c a : Nat) : Bool :=
  (List.range (d.camSlots c)).any (fun s =>
    overlaps a 4 (d.slotAddr c s) (d.slotBytes c) && !(d.flagFree (frameFlag c s) && d.flagFree (pyrFlag c s)))

/-- A word falls into a loaded container (R411). -/
def Device.inContainer (d : Device) (a : Nat) : Bool :=
  d.perc.handles.any (fun h => match h with
    | some x => overlaps a 4 x.addr x.len
    | none => false)

/-- A word falls into the segment buffer while it is held (R438). -/
def Device.inSegment (d : Device) (a : Nat) : Bool :=
  !d.flagFree 32 && overlaps a 4 (d.rd Reg.SEG_BASE.BASE * 64) 64000

/-- A word falls into a locked chain (R40). -/
def Device.inLocked (d : Device) (a : Nat) : Option Nat :=
  if 0x10080000 ≤ a && a < 0x10080000 + 409600 then
    let c := (a - 0x10080000) / 0x640
    if d.chainLocked c then some c else none
  else none

/-- One aligned word of an SRAM-window write passes the filters or is dropped by one, which tells of it (R278). -/
def Device.hostWord (d : Device) (a : Nat) (bs : List Byte) : Device :=
  if retained a then d.pwrEvt 7
  else match d.inLocked a with
    | some c => d.each 64 (fun n d => if d.holdsChain c n then d.axEvt n 5 else d)
    | none =>
      if d.heldSlot 0 a then d.camEvt 0 5
      else if d.heldSlot 1 a then d.camEvt 1 5
      else if d.inContainer a then d.neEvt 6
      else if d.inSegment a then d.audEvt 8
      else d.put a bs

/-- An SRAM-window write, word by word. -/
def Device.hostWrite (d : Device) (a : Nat) : List Byte → Device
  | b0 :: b1 :: b2 :: b3 :: t => (d.hostWord a [b0, b1, b2, b3]).hostWrite (a + 4) t
  | [] => d
  | l => d.hostWord a l

/-- A write of the device's own engines: it lands where it lies in the SRAM window. -/
def Device.engineWrite (d : Device) (a : Nat) (bs : List Byte) : Device :=
  if sramSpan a bs.length then d.put a bs else d

/-- What perception writes: it never writes a chain (R16), so bytes of chain memory stay as they are, wherever the host
has based the buffer (DEDUCED, log entry 59). -/
def Device.perceptionWrite (d : Device) (a : Nat) (bs : List Byte) : Device :=
  if sramSpan a bs.length then
    (d.put a (bs.take (0x10080000 - a))).put (max a 0x100E4000) (bs.drop (0x100E4000 - a))
  else d

end Sys2Proof.Machine
end

