-- ==== Sys2Proof/Machine/Audio.lean ====
section
/-! DEFINITION. Microphones, pre-roll, voice-activity detector, segments and verdicts (chapter 14). -/
namespace Sys2Proof.Machine

/-! ### Status -/

/-- AUD_STAT and AUD_LEVEL follow the function (Table 14.4). -/
def Device.refreshAud (d : Device) : Device :=
  let a := d.audio
  let st := if !d.on Reg.AUD_CTRL.AUD_EN then 0 else if a.seg.isSome then 2 else if a.voice then 3 else 1
  let d := ((d.wr Reg.AUD_STAT.STATE 0 st).wr Reg.AUD_STAT.VOICE 0 (b2n a.voice)).wr Reg.AUD_LEVEL.E 0 a.level.natAbs
  d.wr Reg.AUD_LEVEL.F 0 (a.floor.getD 0).natAbs

/-- Change the segment under analysis. -/
def Device.modSeg (d : Device) (f : Segment → Segment) : Device := d.modAudio (fun a => { a with seg := a.seg.map f })

/-- SEG_PRE as it acts. -/
def Device.segPre (d : Device) : Nat := min 100 (d.rd Reg.KWS_CFG.SEG_PRE)
/-- HOP as it acts. -/
def Device.hop (d : Device) : Nat := min 20 (max 2 (d.rd Reg.KWS_CFG.HOP))

/-! ### The microphone clocks (R430) -/

/-- Frequency of PDM_CLK0 and PDM_CLK1 in kHz, in every mode; 0 while they are held at 0. CLK_SEL 0b11 acts as 0b10. -/
def Device.pdmClock (d : Device) : Nat :=
  if d.on Reg.AUD_CTRL.AUD_EN then 1024 * (min 2 (d.rd Reg.AUD_CFG.CLK_SEL) + 1) else 0

/-- The PDM_D and PDM_CLK ball of microphone `m`, and whether it is sampled at the rising edge. -/
def pdmPin (m : Nat) : Nat × Bool := (m / 2, m % 2 == 0)

/-! ### Samples and levels (R431 to R435) -/

/-- The gain of R431: shift left, saturate to ±32767; the flag tells a saturated sample. -/
def gained (gain : Nat) (x : BitVec 16) : Int × Bool :=
  let v := x.toInt * (2 : Int) ^ gain
  (clampI (-32767) 32767 v, decide (v < -32767 ∨ 32767 < v))

/-- The smallest `a` ≥ `k` whose level -a is reached: S^80 × 10^(1 + 2a) ≥ (n × 2^30)^80. -/
def levelFrom (p q : Nat) : Nat → Nat → Nat
  | 0, k => k
  | fuel + 1, k => if q ≤ p * 10 ^ (1 + 2 * k) then k else levelFrom p q fuel (k + 1)

/-- E of a frame (R434, R435): 40 log10 of the mean square over 32768², to the nearest unit, ties toward zero, the
mean taken as at least 1. -/
def frameLevel (l : List Int) : Int :=
  let n := max 1 l.length
  let s := max n ((l.map (fun x => x.natAbs ^ 2)).sum)
  Int.neg (levelFrom (s ^ 80) ((n * 2 ^ 30) ^ 80) 361 0)

/-- Sample i of the mix: the microphones' mean rounded toward zero (R432). -/
def mixSample (mics : List (List Int)) (i : Nat) : Int :=
  divZ ((mics.map (fun l => nth 0 i l)).sum) mics.length

/-- The microphones that enter the mix: in MIX, enabled, not stuck. -/
def Device.mixMics (d : Device) : List Nat :=
  (bitsBelow (d.rd Reg.AUD_CFG.MIX &&& d.rd Reg.AUD_CFG.MIC_EN) 4).filter (fun m => !bitOf (d.rd Reg.AUD_STAT.STUCK) m)

/-- The pre-roll takes one mix sample (R433). -/
def Device.preRoll (d : Device) (x : Int) : Device :=
  let i := d.rd Reg.PRE_WR.IDX
  ((d.st 2 (0x10000000 + 2 * i) (toBits 16 x)).wr Reg.PRE_WR.IDX 0 ((i + 1) % 24000)).wr Reg.PRE_GRAIN.COUNT 0 d.grain

/-- The noise floor after a frame of level `e` (R434): floor and n. -/
def floorStep (rise : Nat) (e : Int) (f : Int) (n : Nat) : Int × Nat :=
  if e < f then (e, n) else if rise ≤ n + 1 then (f + 1, 0) else (f, n + 1)

/-! ### Segments (R437, R438) -/

/-- `n` frames of 320 bytes from the pre-roll, ending before its next index. -/
def Device.preFrames (d : Device) (n : Nat) : List Byte :=
  let i := d.rd Reg.PRE_WR.IDX
  (List.range (160 * n)).flatMap (fun k => d.bytes (0x10000000 + 2 * ((i + 2 * 24000 - 160 * n + k) % 24000)) 2)

/-- Address of the segment buffer. -/
def Device.segBase (d : Device) : Nat := d.rd Reg.SEG_BASE.BASE * 64

/-- The segment ends: its buffer no longer fills (R437, R438). -/
def Device.endSegment (d : Device) : Device :=
  let d := d.modSeg (fun g => { g with ended := true })
  match d.audio.seg with
  | some g => if g.copied then d.freeFlag 32 else d
  | none => d

/-- SEGMENT_COPY (R438, R446): in FULL the segment so far goes to the buffer. -/
def Device.copySegment (d : Device) : Device :=
  match d.audio.seg with
  | some g =>
    if d.mode = 3 ∧ g.copied = false then
      let d := d.perceptionWrite d.segBase (d.preFrames g.len)
      let d := d.modSeg (fun g => { g with copied := true })
      if g.ended then d else d.setFlag 32 1 (2 ^ 8)
    else d
  | none => d

/-- A segment opens at a trigger (R437, R448). -/
def Device.openSegment (d : Device) : Device :=
  if !d.on Reg.AUD_CTRL.KWS_EN || d.on Reg.AUD_STAT.KWS_LASTING then d
  else if d.audio.deferring || !(d.mode == 3 || bitOf (d.rd Reg.WAKE_EN.EN) 0) then d.count Reg.AUD_CNT.UNSPOTTED
  else
    let pre := d.segPre
    let g : Segment :=
      { seq := d.rd Reg.SEG_SEQ.COUNT, trigGrain := d.grain, trigLoop := d.loops, pre := pre
        levels := (d.audio.hist.take pre).reverse, len := pre, ended := false, copied := false
        placed := 0, waiting := none, running := none, final := false, score := 0, result := none, jobs := 0
        woke := d.mode != 3, deferred := false }
    (d.modAudio (fun a => { a with seg := some g })).count Reg.SEG_SEQ.COUNT

/-- The open segment takes a frame, up to 2.0 s. -/
def Device.extendSegment (d : Device) (levels : List Int) (bytes : List Byte) : Device :=
  match d.audio.seg with
  | some g =>
    if g.ended then d
    else
      let d := if g.copied then d.perceptionWrite (d.segBase + 320 * g.len) bytes else d
      let d := d.modSeg (fun g => { g with len := g.len + 1, levels := g.levels ++ [levels] })
      if 200 ≤ g.len + 1 then d.endSegment else d
  | none => d

/-! ### The detector (R434 to R436) -/

/-- The detector judges a frame of level `e`: a trigger, or the end of voice. -/
def Device.detect (d : Device) (e : Int) : Device :=
  let a := d.audio
  let f := a.floor.getD e
  let thr : Int := d.rd Reg.VAD_CFG.VAD_THR
  if a.voice then
    let k := if e < f + thr - 12 then a.offRun + 1 else 0
    if max 1 (d.rd Reg.VAD_CFG.VAD_OFF) ≤ k then
      let d := (d.modAudio (fun a => { a with voice := false, offRun := 0, onRun := 0 })).audEvt 1
      d.endSegment
    else d.modAudio (fun a => { a with offRun := k })
  else
    let k := if f + thr ≤ e then a.onRun + 1 else 0
    if max 1 (d.rd Reg.VAD_CFG.VAD_ON) ≤ k ∧ a.seg.isNone then
      let d := d.modAudio (fun a => { a with voice := true, onRun := 0, offRun := 0 })
      ((d.wakeLatch 0).audEvt 0).openSegment
    else d.modAudio (fun a => { a with onRun := k })

/-- A 10 ms frame: gains, mix, pre-roll, levels, floor, segment, detector (R431 to R438). -/
def Device.audioFrame (d : Device) (mics : List (List (BitVec 16))) : Device :=
  let gain (m : Nat) : Nat := bitsOf (d.rd Reg.AUD_CFG.GAIN) (2 * m) 2
  let one (m : Nat) : List (Int × Bool) :=
    if bitOf (d.rd Reg.AUD_CFG.MIC_EN) m then (List.range 160).map (fun i => gained (gain m) (nth 0 i (nth [] m mics)))
    else []
  let ch := (List.range 4).map one
  let clips := (ch.map (fun l => (l.filter (·.2)).length)).sum
  let used := d.mixMics.map (fun m => (nth [] m ch).map (·.1))
  let (k, d) := if used.isEmpty then d.draw else (0, d)
  let mix := (List.range 160).map (fun i => if used.isEmpty then (Config.emptyMix k i).toInt else mixSample used i)
  let levels := ch.map (fun l => if l.isEmpty then (-(2 ^ 15) : Int) else frameLevel (l.map (·.1)))
  let e := frameLevel mix
  let d := mix.foldl Device.preRoll (d.count Reg.AUD_CNT.MIC_CLIPS 0 clips)
  let d := d.extendSegment levels (mix.flatMap (fun x => leBytes 2 (toBits 16 x)))
  let a := d.audio
  let (f, n) := match a.floor with
    | none => (e, a.rise)
    | some f => if a.voice then (f, a.rise) else floorStep (max 1 (d.rd Reg.VAD_CFG.FLOOR_RISE)) e f a.rise
  let d := d.modAudio (fun a => { a with floor := some f, rise := n, level := e, hist := (levels :: a.hist).take 100 })
  (d.detect e).refreshAud

/-- VAD_FRAME (R436). -/
def execVadFrame (mics : List (List (BitVec 16))) (s : State) : Host.Outcome State Fault Refusal :=
  s.devStep (fun d => if d.on Reg.AUD_CTRL.AUD_EN && !d.power.devrst then d.audioFrame mics else d)

/-- SEGMENT_COPY (R438). -/
def execSegmentCopy (s : State) : Host.Outcome State Fault Refusal := s.devStep Device.copySegment

/-! ### Jobs and verdicts (R440 to R444) -/

/-- Mean level of microphone `m` over the segment, as the verdict carries it (Table 14.1). -/
def Device.micLevel (d : Device) (g : Segment) (m : Nat) : Nat :=
  let l := (g.levels.take g.len).map (fun x => nth 0 m x)
  if !bitOf (d.rd Reg.AUD_CFG.MIC_EN) m || l.isEmpty then 0x8000 else toBits 16 (nearQuot l.sum l.length)

/-- The clip of a HIT (R444); answers the device and whether it was written. -/
def Device.clip (d : Device) (g : Segment) : Device × Bool :=
  if d.ringCount 121 == 0 && d.ringTakes 121 32 1 then
    let base := d.rd Reg.CLIP_BASE.BASE * 64
    let d := d.perceptionWrite base (d.bytes d.segBase (320 * g.len))
    let d := d.ringPush 121 (leBytes 4 0x41 ++ leBytes 4 g.seq ++ leBytes 4 base ++ leBytes 4 (320 * g.len) ++ leBytes 16 0)
    (d.audEvt 4, true)
  else (d, false)

/-- The verdict entry (Table 14.1). -/
def Device.verdictBytes (d : Device) (g : Segment) (code flags : Nat) : List Byte :=
  leBytes 1 0x40 ++ leBytes 1 code ++ leBytes 2 g.score ++ leBytes 4 g.seq ++ leBytes 4 g.trigGrain
    ++ leBytes 2 (10 * g.pre) ++ leBytes 2 (10 * g.len) ++ leBytes 2 (min 65535 ((d.loops - g.trigLoop) * 25 / 1000))
    ++ leBytes 1 g.jobs ++ leBytes 1 flags
    ++ (List.range 4).flatMap (fun m => leBytes 2 (d.micLevel g m)) ++ leBytes 4 0

/-- The analysis ends with a verdict: 0 NO_HIT, 1 HIT, 2 KWS_ABORTED, 3 FAILED (R441 to R444). -/
def Device.verdict (d : Device) (code : Nat) : Device :=
  match d.audio.seg with
  | none => d
  | some g =>
    let wants := code == 1 && d.on Reg.AUD_CTRL.CLIP_EN
    let (d, clipped) := if wants then d.clip g else (d, false)
    let flags := b2n g.woke + 2 * b2n g.deferred + 4 * b2n clipped + 8 * b2n (wants && !clipped)
    let d := if d.ringTakes 120 32 1 then d.ringPush 120 (d.verdictBytes g code flags) else d.audEvt 7
    let d := if code = 1 then (d.wakeLatch 1).audEvt 2 else d.audEvt 3
    let d := if code = 3 then d.occur 0x0F 0 else d
    let d := if g.waiting.isSome then d.count Reg.RING_CI.CI 118 else d
    let d := (d.freeFlag 32).modAudio (fun a => { a with seg := none, verdict := code, deferring := false })
    d.refreshAud

/-- Place a spotter job in JQ3 (R440): one not yet started is replaced. -/
def Device.placeJob (d : Device) (frames : Nat) (final : Bool) : Device :=
  match d.audio.seg with
  | none => d
  | some g =>
    let d := if g.waiting.isSome then d.count Reg.RING_CI.CI 118 else d
    (d.count Reg.RING_PI.PI 118).modSeg (fun g => { g with
      placed := frames, waiting := some (frames, final), final := g.final || final })

/-- The neural engine can run a spotter job (R442). -/
def Device.spotterRuns (d : Device) : Bool := d.on Reg.NE_CTRL.EN && d.rd Reg.NE_STAT.ACTIVE != 0 && d.mode == 3

/-- KWS_JOB_DUE (R440): a further HOP of buffered audio, or the end of the segment. -/
def execKwsJobDue (s : State) : Host.Outcome State Fault Refusal :=
  s.devStep (fun d =>
    match d.audio.seg with
    | none => d
    | some g =>
      let k := g.len / d.hop * d.hop
      if g.copied = false ∨ g.final then d
      else if g.ended then (if d.spotterRuns then d.placeJob g.len true else d.verdict 3)
      else if g.placed < k then (if d.spotterRuns then d.placeJob k false else d.verdict 3)
      else d)

/-- A spotter job has ended (R441, R442): its score awaits KWS_VERDICT, or the verdict is FAILED. The score of a job
whose analysis is over is discarded (R447). -/
def Device.spotterEnded (d : Device) (seq : Nat) (score : Option Nat) : Device :=
  match d.audio.seg with
  | none => d
  | some g =>
    if g.seq ≠ seq then d
    else
      match score, g.running with
      | some v, some (frames, final) => d.modSeg (fun g => { g with
          running := none, jobs := g.jobs + 1, score := v, result := some (frames, final) })
      | _, _ => d.verdict 3

/-- KWS_VERDICT (R441). -/
def execKwsVerdict (s : State) : Host.Outcome State Fault Refusal :=
  s.devStep (fun d =>
    match d.audio.seg with
    | none => d
    | some g =>
      match g.result with
      | none => d
      | some (frames, final) =>
        if d.rd Reg.KWS_CFG.HIT_THR ≤ g.score then
          (d.modSeg (fun g => { g with len := frames, ended := true })).verdict 1
        else if final then d.verdict 0
        else d.modSeg (fun g => { g with result := none }))

/-- KWS_DEFERRAL_TIMEOUT (R447). -/
def execKwsDeferralTimeout (s : State) : Host.Outcome State Fault Refusal :=
  s.devStep (fun d => if d.audio.deferring then d.verdict 2 else d)

/-- MIC_STUCK (R432). -/
def execMicStuck (m : Fin 4) (s : State) : Host.Outcome State Fault Refusal :=
  s.devStep (fun d =>
    if d.on Reg.AUD_CTRL.AUD_EN && bitOf (d.rd Reg.AUD_CFG.MIC_EN) m && !bitOf (d.rd Reg.AUD_STAT.STUCK) m then
      ((d.wr Reg.AUD_STAT.STUCK 0 (setBitOf (d.rd Reg.AUD_STAT.STUCK) m)).audEvt 5).occur 0x0E m
    else d)

/-! ### Enables (R433, R445, R450) -/

/-- AUD_EN has been set or cleared. -/
def Device.audWritten (d : Device) (on : Bool) : Device :=
  let d := if on then d.wr Reg.SEG_SEQ.COUNT 0 0 else d.verdict 2
  (d.modAudio (fun a => { Audio.reset with verdict := a.verdict, seg := a.seg })).refreshAud

/-- A 64,000-byte buffer lies wholly above chain memory's base (R450). -/
def bufferOk (base : Nat) : Bool := 0x10080000 ≤ base && base + 64000 ≤ 0x11000000

/-- CFG_REJECT of AUD_CTRL raises EV358. -/
def Device.audReject (d : Device) : Device := d.cause Reg.AUD_CTRL.CFG_REJECT 0 0 true 358

/-- The help-phrase function configures and enables ring `r` for entries of 16 * 2^esize bytes (R439): free in place and
size within R209, both indices 0 (R207). -/
def Device.kwsRing (d : Device) (r esize : Nat) : Device :=
  let (k, d) := d.draw
  let lg := 4 + (Config.kwsRing k).2.val
  let units := 2 ^ lg * 2 ^ esize / 4
  let base := 0x10000000 / 64 + (Config.kwsRing k).1.toNat % (2 ^ 18 + 1 - units)
  let d := ((d.wr Reg.RING_BASE.BASE r base).wr Reg.RING_CFG.LOG2SIZE r lg).wr Reg.RING_CFG.ESIZE r esize
  ((d.wr Reg.RING_CFG.EN r 1).wr Reg.RING_PI.PI r 0).wr Reg.RING_CI.CI r 0

/-- KWS_EN has been set or cleared (R439, R450). -/
def Device.kwsWritten (d : Device) (on : Bool) : Device :=
  if !on then d.verdict 2
  else if !d.on Reg.AUD_CTRL.AUD_EN || (d.rd Reg.AUD_CFG.MIX &&& d.rd Reg.AUD_CFG.MIC_EN) == 0 || !bufferOk d.segBase
      || decide (d.rd Reg.NE_WORK_SIZE.SIZE * 64 < Config.spotterWorkBytes.toNat)
  then (d.wr Reg.AUD_CTRL.KWS_EN 0 0).audReject
  else (d.kwsRing 118 2).kwsRing 119 1

/-- CLIP_EN has changed (R445), unless its setting is refused (R450). -/
def Device.clipWritten (d : Device) (on : Bool) : Device :=
  if on && !bufferOk (d.rd Reg.CLIP_BASE.BASE * 64) then (d.wr Reg.AUD_CTRL.CLIP_EN 0 0).audReject
  else d.record 0x0050 (leBytes 1 (b2n on))

/-! ### Commands (Table 14.3) -/

/-- AUD_QUERY. -/
def runAudQuery (tag : Nat) (d : Device) : Device :=
  let a := d.audio
  d.ok tag true (leBytes 1 (d.rd Reg.AUD_STAT.STATE) ++ [0] ++ leBytes 2 (toBits 16 (a.floor.getD 0))
    ++ leBytes 2 (toBits 16 a.level) ++ leBytes 2 0 ++ leBytes 4 (d.rd Reg.SEG_SEQ.COUNT) ++ leBytes 1 a.verdict
    ++ leBytes 1 (d.rd Reg.AUD_STAT.STUCK) ++ leBytes 2 Config.spotterVersion.toNat
    ++ leBytes 4 Config.spotterWorkBytes.toNat)

/-- KWS_ABORT (R447). -/
def runKwsAbort (tag : Nat) (d : Device) : Device :=
  match d.audio.seg with
  | none => d.ok tag true []
  | some g => (d.verdict 2).ok tag false (leBytes 2 g.score)

/-- The configuration AUD_REINIT keeps: the registers 0xB204 to 0xB217, the enables, and AUD_EVT.EN. -/
def audioKept : List Nat :=
  [Reg.AUD_CTRL.AUD_EN.key 0, Reg.AUD_CTRL.KWS_EN.key 0, Reg.AUD_CTRL.CLIP_EN.key 0, Reg.AUD_EVT.EN.key 0]

/-- The FUNC reset of the audio block (Table 14.3). -/
def Device.audioReinit (d : Device) : Device :=
  let d := d.verdict 2
  let d := (d.funcReset 0xB200 0xB204 audioKept).funcReset 0xB218 0xB240 audioKept
  let d := (List.range 4).foldl (fun d m => d.clearLatch 0x0E m) d
  let d := (d.clearLatch 0x0F 0).modAudio (fun a => { Audio.reset with verdict := a.verdict })
  d.refreshAud

/-- AUD_REINIT. -/
def runAudReinit (tag : Nat) (d : Device) : Device := d.audioReinit.ok tag false []

/-- AUD_QUERY (R449). -/
def execAudQuery (e : Entry) (s : State) : Host.Outcome State Fault Refusal := s.devStep (Device.submit 0x0801 runAudQuery e)
/-- KWS_ABORT (R447). -/
def execKwsAbort (e : Entry) (s : State) : Host.Outcome State Fault Refusal := s.devStep (Device.submit 0x0802 runKwsAbort e)
/-- AUD_REINIT (R449). -/
def execAudReinit (e : Entry) (s : State) : Host.Outcome State Fault Refusal := s.devStep (Device.submit 0x0803 runAudReinit e)

end Sys2Proof.Machine
end

