-- ==== Sys2Proof/Machine/Vision.lean ====
section
/-! DEFINITION. Camera receivers, pyramid builder, corner detectors and block matcher (chapter 13). -/
namespace Sys2Proof.Machine

/-- Change the block matcher. -/
def Device.modBm (d : Device) (f : Matcher → Matcher) : Device := d.modPerc (fun p => { p with matcher := f p.matcher })
/-- The clocks of perception run: FULL (Table 11.1). -/
def Device.full (d : Device) : Bool := d.mode == 3

/-- CAM_STAT.STATE of an enabled receiver between frames: 2 in FULL, 1 while it waits for it. -/
def Device.camIdle (d : Device) (c : Nat) : Device :=
  d.wr Reg.CAM_STAT.STATE c (if !d.on Reg.CAM_CTRL.EN c then 0 else if d.full then 2 else 1)

/-- Write a frame event (R395, Table 13.2), or drop it. -/
def Device.frameEvent (d : Device) (f : Frame) (slot flags lines : Nat) : Device :=
  if d.ringTakes (104 + f.cam) 16 1 then
    d.ringPush (104 + f.cam) (leBytes 4 f.seq ++ leBytes 4 f.ptimeStart ++ leBytes 4 f.ptimeEnd ++ leBytes 1 slot
      ++ leBytes 1 flags ++ leBytes 2 lines)
  else d

/-- The slot for a new frame (R392): the next after the last used, ascending with wrap, both flags FREE. -/
def Device.freeSlot (d : Device) (c : Nat) : Option Nat :=
  let n := d.camSlots c
  let start := match (d.cam c).last with
    | some s => s + 1
    | none => 0
  ((List.range n).map (fun k => (start + k) % n)).find? (fun s =>
    d.flagFree (frameFlag c s) && d.flagFree (pyrFlag c s))

/-- A frame-start packet (R392). -/
def Device.frameStart (d : Device) (c : Nat) : Device :=
  if !d.on Reg.CAM_CTRL.EN c || !d.full || d.on Reg.CAM_STAT.CSI_LASTING c || (d.cam c).receiving.isSome then d
  else
    let f : Frame := ⟨c, 0, (d.cam c).seq, d.ptime, d.ptime⟩
    let d := (d.modCam c (fun x => { x with seq := x.seq + 1 })).wr Reg.CAM_SEQ.SEQ c ((d.cam c).seq + 1)
    match d.freeSlot c with
    | none => ((d.count Reg.CAM_DROPS.NO_SLOT c).camEvt c 1).frameEvent f 0xFF 4 0
    | some s =>
      let d := d.claimFlag (frameFlag c s) c f.seq
      let d := d.modCam c (fun x => { x with receiving := some { f with slot := s }, last := some s })
      (d.wr Reg.CAM_STAT.SLOT c s).wr Reg.CAM_STAT.STATE c 3

/-- CSI_FRAME_START (R392). -/
def execCsiFrameStart (c : Fin 2) (s : State) : Host.Outcome State Fault Refusal := s.devStep (fun d => d.frameStart c)

/-- CSI-2 data type and bits a pixel of DT (Tables 13.1 and 13.10). -/
def camType (dt : Nat) : Nat × Nat := if dt = 0 then (0x2A, 8) else if dt = 1 then (0x2B, 10) else (0x2C, 12)

/-- The lines of a frame that the receiver takes: its virtual channel and data type only (R390). -/
def Device.camLines (d : Device) (c : Nat) (r : FrameReport) : List (List (BitVec 12)) :=
  (r.packets.filter (fun p => p.vc.toNat == d.rd Reg.CAM_CTRL.VC c
    && p.dt.toNat == (camType (d.rd Reg.CAM_CTRL.DT c)).1)).map (·.pixels)

/-- A stored pixel (R391). -/
def Device.pixel (d : Device) (c : Nat) (p : BitVec 12) : Byte :=
  BitVec.ofNat 8 (min 255 ((p.toNat % 2 ^ (camType (d.rd Reg.CAM_CTRL.DT c)).2) >>> d.rd Reg.CAM_CTRL.SHIFT c))

/-- The bytes of level 0: missing pixels 0, excess discarded (R393). -/
def Device.framePixels (d : Device) (c : Nat) (lines : List (List (BitVec 12))) : List Byte :=
  let w := (d.cam c).set.width
  (List.range (d.cam c).set.height).flatMap (fun y =>
    fit w ((nth [] y lines).map (d.pixel c)))

/-- Occurrences of a class, one after another. -/
def Device.occurTimes (d : Device) (c u : Nat) : Nat → Device
  | 0 => d
  | k + 1 => (d.occur c u).occurTimes c u k

/-- A frame-end packet (R393 to R395). -/
def Device.frameEnd (d : Device) (c : Nat) (r : FrameReport) : Device :=
  match (d.cam c).receiving with
  | none => d
  | some f =>
    let lines := d.camLines c r
    let f := { f with ptimeEnd := d.ptime }
    let corrupt := decide (0 < r.errors.toNat)
    let short := lines.length != (d.cam c).set.height
      || lines.any (fun l => l.length != (d.cam c).set.width)
    let d := d.perceptionWrite (d.slotAddr c f.slot) (d.framePixels c lines)
    let d := (d.count Reg.CAM_ERR.ECC_CORR c r.corrected.toNat).count Reg.CAM_ERR.ERRORS c r.errors.toNat
    let d := d.occurTimes 0x0B c r.errors.toNat
    let d := if corrupt then d.camEvt c 2 else d
    let d := if short then d.camEvt c 3 else d
    let d := (d.modCam c (fun x => { x with receiving := none })).camIdle c
    let flags := b2n corrupt + 2 * b2n short + 8 * b2n (decide (0 < r.corrected.toNat))
    if (corrupt || short) && d.on Reg.CAM_CTRL.DROP_CORRUPT c then
      ((d.freeFlag (frameFlag c f.slot)).count Reg.CAM_DROPS.BAD c).frameEvent f 0xFF (flags + 4) lines.length
    else
      let d := d.publishFlag (frameFlag c f.slot) (2 ^ 2)
      let d := d.modPerc (fun p => { p with pyrQueue := p.pyrQueue ++ [f] })
      (d.frameEvent f f.slot flags lines.length).camEvt c 0

/-- CSI_FRAME_END (R394). -/
def execCsiFrameEnd (c : Fin 2) (frame : FrameReport) (s : State) : Host.Outcome State Fault Refusal :=
  s.devStep (fun d => d.frameEnd c frame)

/-! ### Block matcher (R404 to R409) -/

/-- Signed byte of a vector component (Table 13.5). -/
def vectorByte (x : Int) : Byte := if -128 ≤ x ∧ x < 128 then BitVec.ofInt 8 x else Config.wideVector x

/-- Active lanes. -/
def Device.lanes (d : Device) : List Nat := bitsBelow (d.rd Reg.BM_STAT.ACTIVE) 8

/-- Hint of camera `c`, components beyond ±64 acting as ±64 (R406). -/
def Device.bmHint (d : Device) (c : Nat) : Int × Int :=
  (clampI (-64) 64 (sext 8 (d.rd Reg.BM_HINT.DX c)), clampI (-64) 64 (sext 8 (d.rd Reg.BM_HINT.DY c)))

/-- Matching of the frame at the queue head begins: its hint is sampled (R405, R408). -/
def Device.bmBegin (d : Device) : Device :=
  let m := d.perc.matcher
  let d := match m.current, m.queue with
    | none, f :: rest =>
      let age := min 65535 ((d.ptime + 2 ^ 32 - d.rd Reg.BM_HINT_T.PTIME f.cam) % 2 ^ 32)
      d.modBm (fun m => { m with current := some f, queue := rest, hint := d.bmHint f.cam, hintAge := age })
    | _, _ => d
  d.wr Reg.BM_STAT.QUEUED 0 (min 3 d.perc.matcher.queue.length)

/-- Sum of absolute differences of a block under a displacement (R404); `cur`, `prev` are level-0 addresses. -/
def Device.sad (d : Device) (cur prev w x y : Nat) (dx dy : Int) : Nat :=
  ((List.range 256).map (fun k =>
    let i := x + k % 16
    let j := y + k / 16
    let a := (d.byte (cur + j * w + i)).toNat
    let b := (d.byte (prev + ((j : Int) + dy).toNat * w + ((i : Int) + dx).toNat)).toNat
    ((a : Int) - b).natAbs)).sum

/-- A candidate with its sort key (R407): SAD, distance from the prediction, dy, dx. -/
structure Candidate where
  sad : Nat
  dist : Nat
  dy : Int
  dx : Int
deriving DecidableEq, Repr

/-- The order of R407. -/
def Candidate.better (a b : Candidate) : Bool :=
  decide (a.sad < b.sad) || (a.sad == b.sad && (decide (a.dist < b.dist) || (a.dist == b.dist
    && (decide (a.dy < b.dy) || (a.dy == b.dy && decide (a.dx < b.dx))))))

/-- The window around a prediction (R405). -/
def window (cx cy : Int) : List (Int × Int) :=
  (List.range 33).flatMap (fun (j : Nat) => (List.range 65).map (fun (i : Nat) => (cx - 32 + (i : Int), cy - 16 + (j : Int))))

/-- A candidate block lies wholly inside the previous frame. -/
def inFrame (w h x y : Nat) (v : Int × Int) : Bool :=
  decide (0 ≤ (x : Int) + v.1) && decide ((x : Int) + v.1 + 16 ≤ w) && decide (0 ≤ (y : Int) + v.2)
    && decide ((y : Int) + v.2 + 16 ≤ h)

/-- The match of one block: the chosen candidate with its MARGIN, and whether candidates were left out (R405, R407). -/
def Device.matchBlock (d : Device) (cur prev w h x y : Nat) (cx cy : Int) : Option (Candidate × Nat) × Bool :=
  let all := window cx cy
  let ok := all.filter (inFrame w h x y)
  let cs := ok.map (fun v => (⟨d.sad cur prev w x y v.1 v.2, (v.1 - cx).natAbs + (v.2 - cy).natAbs, v.2, v.1⟩ : Candidate))
  let best := cs.foldl (fun (b : Option Candidate) c => match b with
    | none => some c
    | some b => if c.better b then some c else some b) none
  (best.map (fun b =>
    let far := cs.filter (fun c => !(decide ((c.dx - b.dx).natAbs ≤ 1) && decide ((c.dy - b.dy).natAbs ≤ 1)))
    (b, far.foldl (fun m c => min m (c.sad - b.sad)) 65535)), ok.length != all.length)

/-- One block of a field: its entry and its vector. -/
def Device.fieldBlock (d : Device) (f : Frame) (prevSlot w h : Nat) (reissued : Nat → Bool) (idx : Nat) :
    Device × List Byte × (Int × Int) :=
  let bx := idx % (w / 16)
  let by' := idx / (w / 16)
  let m := d.perc.matcher
  let (cx, cy) := if bitOf (d.rd Reg.BM_CTRL.PRED) f.cam then m.hint else nth (0, 0) idx (nth [] f.cam m.field)
  let r := d.matchBlock (d.slotAddr f.cam f.slot) (d.slotAddr f.cam prevSlot) w h (16 * bx) (16 * by') cx cy
  let entry (dx dy : Byte) (sad margin : Nat) (limit : Bool) : List Byte :=
    [0x11, BitVec.ofNat 8 bx, BitVec.ofNat 8 by', BitVec.ofNat 8 (b2n r.2 + 2 * b2n limit + 4 * b2n (reissued idx)),
     dx, dy] ++ leBytes 2 sad ++ leBytes 2 margin ++ [vectorByte cx, vectorByte cy] ++ leBytes 4 f.seq
  match r.1 with
  | some (b, margin) =>
    let limit := (b.dx - cx).natAbs == 32 || (b.dy - cy).natAbs == 16
    (d, entry (vectorByte b.dx) (vectorByte b.dy) b.sad margin limit, (b.dx, b.dy))
  | none =>
    let (k, d) := d.draw
    let v := (Config.blindBlock k).toNat
    let dx := BitVec.ofNat 8 v
    let dy := BitVec.ofNat 8 (v / 2 ^ 8)
    (d, entry dx dy (bitsOf v 16 16) (bitsOf v 32 16) false, (dx.toInt, dy.toInt))

/-- The header of a field (Table 13.5). -/
def Device.fieldHeader (d : Device) (f : Frame) (blocks lanes hintAge : Nat) (noRef : Bool) : List Byte :=
  [0x10, BitVec.ofNat 8 f.cam] ++ leBytes 2 blocks ++ leBytes 4 f.seq ++ leBytes 4 f.ptimeEnd ++ leBytes 2 hintAge
    ++ leBytes 1 lanes ++ leBytes 1 (b2n (bitOf (d.rd Reg.BM_CTRL.PRED) f.cam) + 2 * b2n noRef)

/-- Write a field to RG(108 + c) whole, or drop it (R409). -/
def Device.writeField (d : Device) (c : Nat) (entries : List (List Byte)) : Device :=
  if d.ringTakes (108 + c) 16 entries.length then (d.ringPushAll (108 + c) entries).bmEvt 0 else d.bmEvt 1

/-- The previous frame of camera `c` is let go: its flag is released. -/
def Device.dropPrev (d : Device) (c : Nat) : Device :=
  let d := match nth none c d.perc.matcher.prev with
    | some p => d.releaseFlag (frameFlag c p.slot) 5
    | none => d
  d.modBm (fun m => { m with prev := modNth (fun _ => none) c m.prev, field := modNth (fun _ => []) c m.field })

/-- The field of a frame with a reference: entries and vectors, block by block. -/
def Device.computeField (d : Device) (f : Frame) (prevSlot : Nat) (reissued : Nat → Bool) :
    Device × List (List Byte) × List (Int × Int) :=
  let w := (d.cam f.cam).set.width
  let h := (d.cam f.cam).set.height
  (List.range (w / 16 * (h / 16))).foldl (fun (p : Device × List (List Byte) × List (Int × Int)) i =>
    let (d', e, v) := p.1.fieldBlock f prevSlot w h reissued i
    (d', p.2.1 ++ [e], p.2.2 ++ [v])) (d, [], [])

/-- The checks of a field that failed (R421): each counts for the lane that had the block. -/
def Device.laneMismatches (d : Device) (blocks : Nat) (mismatch : List Nat) : Device :=
  let ls := d.lanes
  mismatch.foldl (fun d i =>
    if i < blocks then (d.bmEvt 2).occur 0x0C (nth 0 (i % max 1 ls.length) ls) else d) d

/-- The block matcher finishes its frame (R408, R409). -/
def Device.bmDone (d : Device) (mismatch : List Nat) : Device :=
  let m := d.perc.matcher
  match m.current with
  | none => d
  | some f =>
    let lanes := d.lanes.length
    let d := match nth none f.cam m.prev with
      | some p =>
        if lanes = 0 then
          let d := d.dropPrev f.cam
          d.writeField f.cam [d.fieldHeader f 0 0 m.hintAge false]
        else
          let (d, es, vs) := d.computeField f p.slot (fun i => mismatch.contains i)
          let d := d.writeField f.cam (d.fieldHeader f es.length lanes m.hintAge false :: es)
          let d := (d.laneMismatches es.length mismatch).dropPrev f.cam
          d.modBm (fun m => { m with field := modNth (fun _ => vs) f.cam m.field })
      | none => d.writeField f.cam [d.fieldHeader f 0 lanes m.hintAge true]
    let d := if lanes = 0 then d.releaseFlag (frameFlag f.cam f.slot) 5
      else d.modBm (fun m => { m with prev := modNth (fun _ => some f) f.cam m.prev })
    (d.modBm (fun m => { m with current := none })).bmBegin

/-- BM_FIELD_DONE (R409). -/
def execBmFieldDone (mismatch : List (BitVec 14)) (s : State) : Host.Outcome State Fault Refusal :=
  s.devStep (fun d => if d.full then d.bmDone (mismatch.map (·.toNat)) else d)

/-- BM_CTRL.EN has been set or cleared (R408): no reference any more; what it held is released. -/
def Device.bmWritten (d : Device) (_on : Bool) : Device :=
  let m := d.perc.matcher
  let d := (m.queue ++ m.current.toList).foldl (fun d f => d.releaseFlag (frameFlag f.cam f.slot) 5) d
  let d := (d.dropPrev 0).dropPrev 1
  (d.modPerc (fun p => { p with matcher := Matcher.reset })).bmBegin

/-! ### Flags handed to the readers (R399, R401, R402, R414) -/

/-- IN_SEL of a job names flag `fl` (Table 13.6). -/
def selNames (sel fl : Nat) : Bool :=
  if sel < 0x40 then sel == fl
  else if sel = 0x40 then decide (fl < 8)
  else if sel = 0x41 then decide (8 ≤ fl ∧ fl < 16)
  else if sel = 0x50 then decide (16 ≤ fl ∧ fl < 24)
  else if sel = 0x51 then decide (24 ≤ fl ∧ fl < 32)
  else false

/-- Byte `k` of a job entry. -/
def jobByte (bs : List Byte) (k : Nat) : Nat := (nth 0 k bs).toNat

/-- The entries of job queue `q`: ring index and bytes. -/
def Device.jobEntries (d : Device) (q : Nat) : List (Nat × List Byte) :=
  let ci := d.rd Reg.RING_CI.CI (112 + 2 * q)
  if d.ringOn (112 + 2 * q) && q != 3 then
    (List.range (d.ringCount (112 + 2 * q))).map (fun k =>
      ((ci + k) % 2 ^ 32, d.bytes (d.ringAddr (112 + 2 * q) (ci + k)) 64))
  else []

/-- The neural engine lets go of a flag that no job needs any more (R414). -/
def Device.releaseUnneeded (d : Device) (fl : Nat) : Device :=
  if d.perc.passed.any (fun p => p.flag == fl)
      || (match d.perc.job with | some j => j.input.map (·.1) == some fl | none => false) then d
  else d.releaseFlag fl 6

/-- A flag is passed to the neural engine (R414): to every entry that names it; with LATEST the older ones pending for
that entry are released unrun. -/
def Device.passFlag (d : Device) (fl : Nat) (f : Frame) : Device :=
  let d := (List.range 4).foldl (fun d q =>
    (d.jobEntries q).foldl (fun d (e : Nat × List Byte) =>
      if bitOf (jobByte e.2 1) 1 && selNames (jobByte e.2 2) fl then
        let mine (p : JobFlag) : Bool := p.queue == q && p.idx == e.1
        let old := if bitOf (jobByte e.2 1) 2 then d.perc.passed.filter mine else []
        let d := d.modPerc (fun p => { p with
          passed := p.passed.filter (fun x => !old.contains x) ++ [⟨q, e.1, fl, f⟩] })
        old.foldl (fun d o => ((d.count Reg.NE_SKIPPED.COUNT).neEvt 2).releaseUnneeded o.flag) d
      else d) d) d
  d.releaseUnneeded fl

/-- A published flag reaches one of its readers; a reader that has no work on the buffer releases it at once. -/
def Device.giveFlag (d : Device) (fl : Nat) (pyr : Bool) (f : Frame) (unit : Nat) : Device :=
  if unit = 3 ∨ unit = 4 then
    let k := unit - 3
    if d.on Reg.CD_CFG.EN k && d.rd Reg.CD_CFG.CAM k == f.cam && (d.rd Reg.CD_CFG.LEVEL k != 0) == pyr then
      d.modPerc (fun p => { p with cornerQ := modNth (fun q => q ++ [f]) k p.cornerQ })
    else d.releaseFlag fl unit
  else if unit = 5 then
    if pyr || !d.on Reg.BM_CTRL.EN then d.releaseFlag fl 5
    else if d.lanes.isEmpty then
      let d := d.releaseFlag fl 5
      d.writeField f.cam [d.fieldHeader f 0 0 0 false]
    else (d.modBm (fun m => { m with queue := m.queue ++ [f] })).bmBegin
  else if unit = 6 then d.passFlag fl f
  else d.releaseFlag fl unit

/-- A published flag reaches its readers in ascending order (R399). -/
def Device.giveAll (d : Device) (fl : Nat) (pyr : Bool) (f : Frame) : Device :=
  if d.flagState fl ≠ 2 then d else d.eachIn (d.flagHold fl) 16 (fun u d => d.giveFlag fl pyr f u)

/-! ### Pyramid builder (R401) -/

/-- Level `l` of a slot from the level beneath it. -/
def Device.pyramidLevel (d : Device) (c s l : Nat) : List Byte :=
  let (w, h) := d.levelSize c l
  let (w0, _) := d.levelSize c (l - 1)
  let a := d.levelAddr c s (l - 1)
  (List.range (w * h)).map (fun k =>
    let p := a + 2 * (k / w) * w0 + 2 * (k % w)
    BitVec.ofNat 8 (((d.byte p).toNat + (d.byte (p + 1)).toNat + (d.byte (p + w0)).toNat
      + (d.byte (p + w0 + 1)).toNat + 2) / 4))

/-- PYRAMID_START (R401): the idle builder starts on the oldest published frame and claims its pyramid flag. -/
def execPyramidStart (s : State) : Host.Outcome State Fault Refusal :=
  s.devStep (fun d =>
    match d.perc.pyrNow, d.perc.pyrQueue with
    | none, f :: rest =>
      if d.full then
        (d.claimFlag (pyrFlag f.cam f.slot) 2 f.seq).modPerc (fun p => { p with pyrNow := some f, pyrQueue := rest })
      else d
    | _, _ => d)

/-- PYRAMID_DONE (R401): levels 1 to LEVELS, then the frame flag is forwarded and the pyramid flag published. -/
def Device.pyramidDone (d : Device) : Device :=
  match d.perc.pyrNow with
  | none => d
  | some f =>
    let d := (List.range (d.camLevels f.cam)).foldl (fun d k =>
      d.perceptionWrite (d.levelAddr f.cam f.slot (k + 1)) (d.pyramidLevel f.cam f.slot (k + 1))) d
    let ff := frameFlag f.cam f.slot
    let pf := pyrFlag f.cam f.slot
    let d := d.forwardFlag ff 2 (d.cam f.cam).set.frameReaders
    let d := d.publishFlag pf (d.cam f.cam).set.pyrReaders
    let d := d.modPerc (fun p => { p with pyrNow := none })
    (d.giveAll ff false f).giveAll pf true f

/-- PYRAMID_DONE (R401). -/
def execPyramidDone (s : State) : Host.Outcome State Fault Refusal := s.devStep Device.pyramidDone

/-! ### Corner detectors (R402, R403) -/

/-- Sobel gradients of an image at (x, y). -/
def sobel (p : Int → Int → Int) (x y : Int) : Int × Int :=
  (p (x + 1) (y - 1) + 2 * p (x + 1) y + p (x + 1) (y + 1) - p (x - 1) (y - 1) - 2 * p (x - 1) y - p (x - 1) (y + 1),
   p (x - 1) (y + 1) + 2 * p x (y + 1) + p (x + 1) (y + 1) - p (x - 1) (y - 1) - 2 * p x (y - 1) - p (x + 1) (y - 1))

/-- The response Rh at (x, y), negative values taken as 0 (R402). -/
def response (p : Int → Int → Int) (kappa : Nat) (x y : Int) : Nat :=
  let g := (List.range 25).map (fun k => sobel p (x + ((k % 5 : Nat) : Int) - 2) (y + ((k / 5 : Nat) : Int) - 2))
  let sxx := (g.map (fun v => v.1 * v.1)).sum
  let syy := (g.map (fun v => v.2 * v.2)).sum
  let sxy := (g.map (fun v => v.1 * v.2)).sum
  (sxx * syy - sxy * sxy - divZ (kappa * (sxx + syy) ^ 2) 256).toNat

/-- The corners of an image of `w` × `h` pixels in descending response, ties in raster order: (Rh, x, y). -/
def corners (p : Int → Int → Int) (w h kappa thresh : Nat) : List (Nat × Nat × Nat) :=
  let r (x y : Nat) : Nat := response p kappa x y
  let all := (List.range h).flatMap (fun y => (List.range w).filterMap (fun x =>
    if 3 < x ∧ x + 4 < w ∧ 3 < y ∧ y + 4 < h then
      let v := r x y
      let top := (List.range 9).all (fun k => k == 4 || decide (r (x + k % 3 - 1) (y + k / 3 - 1) < v))
      if top && decide (thresh < v) then some (v, x, y) else none
    else none))
  all.mergeSort (fun a b => decide (b.1 ≤ a.1))

/-- A corner detector finishes a frame (R402, R403). -/
def Device.cornersDone (d : Device) (k : Nat) : Device :=
  match nth [] k d.perc.cornerQ with
  | [] => d
  | f :: rest =>
    let l := d.rd Reg.CD_CFG.LEVEL k
    let (w, h) := d.levelSize f.cam l
    let a := d.levelAddr f.cam f.slot l
    let p (x y : Int) : Int := (d.byte (a + y.toNat * w + x.toNat)).toNat
    let cs := (corners p w h (d.rd Reg.CD_CFG.KAPPA k) (d.rd Reg.CD_THRESH.THRESH k)).take (d.rd Reg.CD_CFG.MAX k)
    let head := leBytes 1 0x20 ++ leBytes 1 l ++ leBytes 2 cs.length ++ leBytes 4 f.seq ++ leBytes 8 0
    let es := cs.map (fun c => leBytes 2 0x21 ++ leBytes 2 c.2.1 ++ leBytes 2 c.2.2 ++ leBytes 2 0
      ++ leBytes 4 (min (c.1 >>> 16) (2 ^ 32 - 1)) ++ leBytes 4 f.seq)
    let d := if d.ringTakes (106 + k) 16 (es.length + 1) then (d.ringPushAll (106 + k) (head :: es)).cdEvt k 0
      else d.cdEvt k 1
    let d := d.modPerc (fun q => { q with cornerQ := modNth (fun _ => rest) k q.cornerQ })
    d.releaseFlag (if l = 0 then frameFlag f.cam f.slot else pyrFlag f.cam f.slot) (3 + k)

/-- CORNER_LIST_DONE (R403). -/
def execCornerListDone (k : Fin 2) (s : State) : Host.Outcome State Fault Refusal :=
  s.devStep (fun d => if d.full then d.cornersDone k else d)

/-- CD_CFGk.EN has been set or cleared: a cleared detector releases the frames that wait for it. -/
def Device.cdWritten (d : Device) (k : Nat) (on : Bool) : Device :=
  if on then d
  else
    let fl (f : Frame) : Nat := if d.rd Reg.CD_CFG.LEVEL k = 0 then frameFlag f.cam f.slot else pyrFlag f.cam f.slot
    let d := (nth [] k d.perc.cornerQ).foldl (fun d f => d.releaseFlag (fl f) (3 + k)) d
    d.modPerc (fun q => { q with cornerQ := modNth (fun _ => []) k q.cornerQ })

/-! ### Enabling a receiver (R426), hints (R406) -/

/-- What the WD registers of receiver `c` give an enable now (R313). -/
def Device.camTaken (d : Device) (c : Nat) : CamSet :=
  { base := d.rd Reg.CAM_BASE.BASE c, width := d.rd Reg.CAM_SIZE.WIDTH c, height := d.rd Reg.CAM_SIZE.HEIGHT c
    slots := d.rd Reg.CAM_CTRL.SLOTS c, levels := d.rd Reg.CAM_CTRL.LEVELS c
    frameReaders := d.rd Reg.CAM_READERS.FRAME_READERS c, pyrReaders := d.rd Reg.CAM_READERS.PYR_READERS c }

/-- CFG_REJECT condition of an enable (R426), of the values taken. -/
def Device.camBad (d : Device) (c : Nat) : Bool :=
  let w := (d.cam c).set.width
  let h := (d.cam c).set.height
  w % 16 != 0 || h % 16 != 0 || decide (w < 64) || decide (2048 < w) || decide (h < 64) || decide (1536 < h)
    || decide (0x11000000 < d.slotAddr c (d.camSlots c))

/-- A receiver stops: a frame in reception is dropped and its flag freed. -/
def Device.camStop (d : Device) (c : Nat) : Device :=
  match (d.cam c).receiving with
  | some f => (d.freeFlag (frameFlag c f.slot)).modCam c (fun x => { x with receiving := none })
  | none => d

/-- CAM_CTRL.EN has been set or cleared. -/
def Device.camWritten (d : Device) (c : Nat) (on : Bool) : Device :=
  if on then
    let e := d.modCam c (fun _ => ⟨none, none, 0, d.camTaken c⟩)
    if e.camBad c then (d.wr Reg.CAM_CTRL.EN c 0).cause Reg.CAM_CTRL.CFG_REJECT c 0 true (332 + c)
    else (e.dropPrev c).camIdle c
  else (d.camStop c).camIdle c

/-- BM_HINTc has been written: its PTIME is noted (R406). -/
def Device.hintWritten (d : Device) (c : Nat) : Device := d.wr Reg.BM_HINT_T.PTIME c d.ptime

end Sys2Proof.Machine
end

