-- ==== Sys2Proof/Machine/Neural.lean ====
section
/-! DEFINITION. The neural engine: containers, job queues, jobs and their outputs; the perception commands and the
stop of perception below FULL (chapter 13). -/
namespace Sys2Proof.Machine

/-! ### Job entries (Table 13.6) -/

/-- `n` bytes at +k of a job entry. -/
def jobField (bs : List Byte) (n k : Nat) : Nat := ofLe ((bs.drop k).take n)

/-- The container of handle `h`. -/
def Device.container (d : Device) (h : Nat) : Option Container := nth none h d.perc.handles

/-- NE_STAT follows the handles and the job (Table 13.11). -/
def Device.refreshNe (d : Device) : Device :=
  let d := d.wr Reg.NE_STAT.LOADED 0 ((List.range 8).foldl (fun m h => if (d.container h).isSome then m + 2 ^ h else m) 0)
  match d.perc.job with
  | some j => (d.wr Reg.NE_STAT.RUNNING 0 1).wr Reg.NE_STAT.HANDLE 0 (jobByte j.bytes 0)
  | none => (d.wr Reg.NE_STAT.RUNNING 0 0).wr Reg.NE_STAT.HANDLE 0 0

/-- The working region: address and bytes (R412). -/
def Device.workRegion (d : Device) : Nat × Nat := (d.rd Reg.NE_WORK_BASE.BASE * 64, d.rd Reg.NE_WORK_SIZE.SIZE * 64)

/-- A range overlaps the working region or a loaded container. -/
def Device.hitsNeural (d : Device) (a n : Nat) : Bool :=
  overlaps a n d.workRegion.1 d.workRegion.2 || d.perc.handles.any (fun h => match h with
    | some x => overlaps a n x.addr x.len
    | none => false)

/-- Check 0x04: the flag of IN_SEL against IN_LEVEL (Table 13.7a). -/
def Device.badLevel (d : Device) (sel level : Nat) : Bool :=
  if sel < 0x10 ∨ sel = 0x40 ∨ sel = 0x41 then level != 0
  else if sel < 0x20 ∨ sel = 0x50 ∨ sel = 0x51 then
    let c := if sel < 0x18 ∨ sel = 0x50 then 0 else 1
    level == 0 || decide (d.camLevels c < level)
  else false

/-- REASON of the first check that an entry fails (R420, Table 13.7a). -/
def Device.jobReason (d : Device) (bs : List Byte) : Option Nat :=
  let fl := jobByte bs 1
  let sel := jobByte bs 2
  let onFlag := bitOf fl 1
  match (if jobByte bs 0 < 8 then d.container (jobByte bs 0) else none) with
  | none => some 1
  | some x =>
    if fl / 16 ≠ 0 ∨ (bs.drop 52).any (fun b => b != 0) then some 2
    else if onFlag && !(decide (sel < 0x40) || [0x40, 0x41, 0x50, 0x51].contains sel) then some 3
    else if onFlag && d.badLevel sel x.inLevel then some 4
    else if (x.outKind = 1 ∨ x.outKind = 2) ∧ d.ringEsize (jobByte bs 3) ≠ 32 then some 5
    else if x.outKind = 3 ∧ (sramSpan (jobField bs 4 8) x.outBytes = false ∨ d.hitsNeural (jobField bs 4 8) x.outBytes
        ∨ (onFlag = false ∧ overlaps (jobField bs 4 4) 1 (jobField bs 4 8) x.outBytes)) then some 6
    else if x.outKind = 1 ∧ jobByte bs 16 = 0 then some 7
    else none

/-! ### Completions (R418) -/

/-- A job completion (32 bytes), written to RG(113 + 2q) with EV(340 + q). -/
def Device.jobCpl (d : Device) (q : Nat) (bs : List Byte) (st flags frameSeq start units written reason seq : Nat) : Device :=
  if d.ringTakes (113 + 2 * q) 32 1 then
    (d.ringPush (113 + 2 * q) (leBytes 2 st ++ leBytes 1 (jobByte bs 0) ++ leBytes 1 flags ++ leBytes 4 (jobField bs 4 12)
      ++ leBytes 4 frameSeq ++ leBytes 4 start ++ leBytes 4 d.ptime ++ leBytes 2 (d.rd Reg.NE_STAT.ACTIVE)
      ++ leBytes 2 units ++ leBytes 1 written ++ leBytes 1 reason ++ leBytes 2 0 ++ leBytes 4 seq)).latchEvent (340 + q)
  else d

/-- The next job sequence number. -/
def Device.jobNumber (d : Device) : Nat × Device := (d.perc.jobSeq, d.modPerc (fun p => { p with jobSeq := (p.jobSeq + 1) % 2 ^ 32 }))

/-- Flags pending for an entry that leaves its queue are let go (R414). -/
def Device.dropPending (d : Device) (q idx : Nat) : Device :=
  let mine (p : JobFlag) : Bool := p.queue == q && p.idx == idx
  let old := d.perc.passed.filter mine
  let d := d.modPerc (fun p => { p with passed := p.passed.filter (fun x => !mine x) })
  old.foldl (fun d o => d.releaseUnneeded o.flag) d

/-- The entry at the head of queue `q` leaves it. -/
def Device.popJob (d : Device) (q idx : Nat) : Device := (d.count Reg.RING_CI.CI (112 + 2 * q)).dropPending q idx

/-- An entry ends without running (R418 to R420). -/
def Device.endEntry (d : Device) (q idx : Nat) (bs : List Byte) (st : Status) (reason : Nat) : Device :=
  let (seq, d) := d.jobNumber
  (d.jobCpl q bs st.code (jobByte bs 1 % 2) 0xFFFFFFFF d.ptime 0 0 reason seq).popJob q idx

/-- Heads that fail a check end BAD_PARAM, up to `fuel` of them (R420). -/
def Device.checkHeads (d : Device) (q : Nat) : Nat → Device
  | 0 => d
  | k + 1 =>
    match d.jobEntries q with
    | [] => d
    | (idx, bs) :: _ =>
      match d.jobReason bs with
      | some r => (d.endEntry q idx bs .badParam r).checkHeads q k
      | none => d

/-! ### Starting a job (R414, R415) -/

/-- The head of queue `q` if it is ready: ring index, bytes and the flag it runs on. -/
def Device.readyHead (d : Device) (q : Nat) : Option (Nat × List Byte × Option (Nat × Frame)) :=
  match d.jobEntries q with
  | [] => none
  | (idx, bs) :: _ =>
    if bitOf (jobByte bs 1) 1 then
      (d.perc.passed.find? (fun p => p.queue == q && p.idx == idx)).map (fun p => (idx, bs, some (p.flag, p.frame)))
    else some (idx, bs, none)

/-- The spotter job that waits in JQ3 (R440): segment number, frames, finality. -/
def Device.waitingSpotter (d : Device) : Option (Nat × Nat × Bool) :=
  match d.audio.seg with
  | some g => g.waiting.map (fun w => (g.seq, w.1, w.2))
  | none => none

/-- Queue `q` has a job that can start. -/
def Device.queueReady (d : Device) (q : Nat) : Bool :=
  if q = 3 then d.waitingSpotter.isSome else (d.readyHead q).isSome

/-- The queue whose head starts: highest PRIO, lowest number among equals (R415). -/
def Device.pickQueue (d : Device) : Option Nat :=
  ((List.range 4).filter d.queueReady).foldl (fun (b : Option Nat) q => match b with
    | none => some q
    | some r => if d.rd Reg.JQ_CTRL.PRIO r < d.rd Reg.JQ_CTRL.PRIO q then some q else some r) none

/-- The running job becomes `j`. -/
def Device.runJob (d : Device) (j : Job) : Device := (d.modPerc (fun p => { p with job := some j })).refreshNe

/-- The spotter job starts. -/
def Device.startSpotter (d : Device) (seg : Nat) (w : Nat × Bool) : Device :=
  let (seq, d) := d.jobNumber
  let d := (d.count Reg.RING_CI.CI 118).modSeg (fun g => { g with waiting := none, running := some w })
  d.runJob ⟨3, 0, [], seq, none, d.ptime, 0, false, some seg⟩

/-- The head of queue `q` starts: its flag is no longer pending for it. -/
def Device.startHead (d : Device) (q : Nat) : Device :=
  match d.readyHead q with
  | none => d
  | some (idx, bs, inp) =>
    let (seq, d) := d.jobNumber
    let d := d.modPerc (fun p => { p with passed := match inp with
      | some (fl, _) => (match p.passed.find? (fun x => x.queue == q && x.idx == idx && x.flag == fl) with
        | some x => p.passed.erase x
        | none => p.passed)
      | none => p.passed })
    d.runJob ⟨q, idx, bs, seq, inp, d.ptime, 0, false, none⟩

/-! ### Ending a job (R417, R418, R421) -/

/-- Order of a detection list (R417): descending score, class, X0. -/
def detectionLe (a b : Detection) : Bool :=
  decide (b.score.toNat < a.score.toNat) || (a.score == b.score && (decide (a.cls.toNat < b.cls.toNat)
    || (a.cls == b.cls && decide (a.x0.toNat ≤ b.x0.toNat))))

/-- A detection entry in level-0 pixels (Table 13.7). -/
def detectionBytes (level : Nat) (x : Detection) : List Byte :=
  let c (v : BitVec 16) : List Byte := leBytes 2 (v.toNat * 2 ^ level)
  [0x02, x.cls] ++ leBytes 2 x.score.toNat ++ c x.x0 ++ c x.y0 ++ c x.x1 ++ c x.y1 ++ leBytes 20 0

/-- Camera of the flag a job runs on; 0xFF without one. -/
def jobCamera (j : Job) : Nat := match j.input with
  | some (_, f) => f.cam
  | none => 0xFF
/-- FRAME_SEQ of a job. -/
def jobFrameSeq (j : Job) : Nat := match j.input with
  | some (_, f) => f.seq
  | none => 0xFFFFFFFF
/-- PTIME of frame end of a job. -/
def jobFrameEnd (j : Job) : Nat := match j.input with
  | some (_, f) => f.ptimeEnd
  | none => 0

/-- The ring entries a job puts out (R417). -/
def Device.jobOutput (d : Device) (j : Job) (x : Container) (r : JobReport) : List (List Byte) :=
  if x.outKind = 1 then
    let ds := ((r.detections.filter (fun a => jobField j.bytes 2 18 ≤ a.score.toNat)).mergeSort detectionLe).take
      (jobByte j.bytes 16)
    let head := [0x01, BitVec.ofNat 8 ds.length, BitVec.ofNat 8 (jobByte j.bytes 0), BitVec.ofNat 8 j.queue]
      ++ leBytes 4 (jobFrameSeq j) ++ leBytes 4 (jobFrameEnd j) ++ leBytes 4 d.ptime ++ leBytes 4 (jobField j.bytes 4 12)
      ++ leBytes 4 j.seq ++ leBytes 1 (jobCamera j) ++ leBytes 1 x.inLevel ++ leBytes 6 0
    head :: ds.map (detectionBytes x.inLevel)
  else if x.outKind = 2 then
    let n := min 12 r.scores.length
    [[0x03, BitVec.ofNat 8 n] ++ leBytes 2 0 ++ leBytes 4 (jobField j.bytes 4 12)
      ++ fit 24 ((r.scores.take 12).flatMap (fun s => leBytes 2 s.toNat))]
  else []

/-- Outputs are written: a list all or none, a tensor at OUT_ADDR. Answers the entries written and OUT_DROPPED. -/
def Device.writeOutput (d : Device) (j : Job) (x : Container) (r : JobReport) : Device × Nat × Bool :=
  if x.outKind = 3 then (d.perceptionWrite (jobField j.bytes 4 8) (fit x.outBytes r.tensor), 0, false)
  else
    let es := d.jobOutput j x r
    if d.ringTakes (jobByte j.bytes 3) 32 es.length then (d.ringPushAll (jobByte j.bytes 3) es, es.length, false)
    else (d.neEvt 1, 0, true)

/-- Entries of a flushed queue up to a ring index end CANCELLED, the standing one last left included (R419). -/
def Device.flushTo (d : Device) (q stop : Nat) : Nat → Device
  | 0 => d
  | k + 1 =>
    match d.jobEntries q with
    | [] => d
    | (idx, bs) :: _ => if idx = stop then d else (d.endEntry q idx bs .cancelled 0).flushTo q stop k

/-- A flush that waited for the running job (R419). -/
def Device.resumeFlush (d : Device) (q : Nat) : Device :=
  match d.perc.flushing.find? (fun p => p.1 == q) with
  | some (_, stop) =>
    (d.flushTo q stop (d.jobEntries q).length).modPerc (fun p => { p with flushing := p.flushing.filter (fun x => x.1 != q) })
  | none => d

/-- The running job is over: its entry leaves unless it stands, its flag is let go. -/
def Device.leaveJob (d : Device) (j : Job) : Device :=
  let d := (d.modPerc (fun p => { p with job := none })).refreshNe
  let d := d.count Reg.NE_RUNS.COUNT
  let d := match j.input with
    | some (fl, _) => d.releaseUnneeded fl
    | none => d
  let d := if bitOf (jobByte j.bytes 1) 0 then d else d.popJob j.queue j.idx
  d.resumeFlush j.queue

/-- The running job ends FUNCTION_DOWN without output (R422, R424, Table 13.9). -/
def Device.jobDown (d : Device) : Device :=
  match d.perc.job with
  | none => d
  | some j =>
    match j.spotter with
    | some seg => ((d.modPerc (fun p => { p with job := none })).refreshNe.count Reg.NE_RUNS.COUNT).spotterEnded seg none
    | none =>
      let d := d.jobCpl j.queue j.bytes Status.functionDown.code (jobByte j.bytes 1 % 2) (jobFrameSeq j) j.start
        j.units 0 0 j.seq
      d.leaveJob j

/-- Tiles that mismatch on work units (R421). -/
def Device.tileMismatches (d : Device) (l : List Nat) : Device :=
  l.foldl (fun d t => ((d.count Reg.NE_REISSUED.COUNT).neEvt 3).occur 0x0D t) d

/-- A neural job ends (R417, R418, R421, R442). -/
def Device.jobDone (d : Device) (r : JobReport) : Device :=
  match d.perc.job with
  | none => d
  | some j =>
    if j.doomed then d.jobDown
    else
      let mm := r.mismatch.map (·.val)
      match j.spotter with
      | some seg =>
        let d := (d.tileMismatches mm).modPerc (fun p => { p with job := none })
        let d := (d.refreshNe.count Reg.NE_RUNS.COUNT).count Reg.RING_PI.PI 119
        let d := ((d.count Reg.RING_CI.CI 119).latchEvent 343).neEvt 0
        d.spotterEnded seg (some (nth 0 0 r.scores).toNat)
      | none =>
        match d.container (jobByte j.bytes 0) with
        | none => d.jobDown
        | some x =>
          let (d, n, dropped) := d.writeOutput j x r
          let units := j.units + mm.length
          let quiet := bitOf (jobByte j.bytes 1) 0 && bitOf (jobByte j.bytes 1) 3
          let flags := jobByte j.bytes 1 % 2 + 2 * b2n (units != 0) + 4 * b2n dropped
          let d := if quiet then d
            else d.jobCpl j.queue j.bytes 0 flags (jobFrameSeq j) j.start units (min 255 n) 0 j.seq
          ((d.tileMismatches mm).leaveJob j).neEvt 0

/-- NE_JOB_DONE (R418). -/
def execNeJobDone (job : JobReport) (s : State) : Host.Outcome State Fault Refusal := s.devStep (fun d => d.jobDone job)

/-- The idle engine checks the queue heads and starts the chosen one (R415, R420); without a tile the job ends
FUNCTION_DOWN (R422). -/
def Device.jobStart (d : Device) : Device :=
  if !d.on Reg.NE_CTRL.EN || !d.full || d.perc.job.isSome then d
  else
    let d := (List.range 3).foldl (fun d q => d.checkHeads q (d.jobEntries q).length) d
    match d.pickQueue with
    | none => d
    | some q =>
      let d := if q = 3 then (match d.waitingSpotter with
        | some (seg, frames, final) => d.startSpotter seg (frames, final)
        | none => d) else d.startHead q
      if d.rd Reg.NE_STAT.ACTIVE = 0 then d.jobDown else d

/-- NE_JOB_START (R415). -/
def execNeJobStart (s : State) : Host.Outcome State Fault Refusal := s.devStep Device.jobStart

/-! ### Enabling (R427), loading (R410, R412) -/

/-- NE_CTRL.EN has been set or cleared: refused without a working region; a cleared engine ends its spotter analysis
FAILED (R442). -/
def Device.neWritten (d : Device) (on : Bool) : Device :=
  if on then
    if d.rd Reg.NE_WORK_SIZE.SIZE = 0 then (d.wr Reg.NE_CTRL.EN 0 0).cause Reg.NE_CTRL.CFG_REJECT 0 0 true 338 else d
  else match d.audio.seg with
    | some g => if g.waiting.isSome || g.running.isSome then d.verdict 3 else d
    | none => d

/-- NE_LOAD (R410): refused at once where nothing need be verified; else it ends with LONG_COMMAND_DONE. -/
def beginNeLoad (tag : Nat) (d : Device) : Device :=
  let e := d.entryOf tag
  if (d.container (e.p 1 0)).isSome then d.refuse tag .busyMoving
  else if !d.running then d.refuse tag .functionDown
  else d

/-- The verification of a container has ended: `values` holds REASON on failure (1 format, 2 signature, 3 revision), or
what the container declares: TILE_CYCLES, WORK_BYTES, OUT_BYTES, OUT_KIND, IN_LEVEL, version (R410, R412). -/
def Device.neLoadDone (d : Device) (tag : Nat) (o : LongOutcome) : Device :=
  let e := d.entryOf tag
  let v (k : Nat) : Nat := (nth 0 k o.values).toNat
  let bad (r : Nat) : Device := d.refuse tag .badParam (leBytes 16 0 ++ leBytes 1 r)
  let x : Container := ⟨e.p 4 4, e.p 4 8, v 0, v 1, v 2, v 3 % 256, v 4 % 256, v 5 % 65536⟩
  if !o.ok then bad (v 0)
  else if d.workRegion.2 < x.workBytes then bad 4
  else if d.hitsNeural x.addr x.len then bad 5
  else
    let d := (d.modPerc (fun p => { p with handles := modNth (fun _ => some x) (e.p 1 0) p.handles })).refreshNe
    d.ok tag false (leBytes 4 x.tileCycles ++ leBytes 4 x.workBytes ++ leBytes 4 x.outBytes ++ leBytes 1 x.outKind
      ++ leBytes 1 x.inLevel ++ leBytes 2 x.version ++ leBytes 1 0)

/-- An entry of a job queue, or the running job, names handle `h`. -/
def Device.namesHandle (d : Device) (h : Nat) : Bool :=
  (List.range 3).any (fun q => (d.jobEntries q).any (fun e => jobByte e.2 0 == h))
    || (match d.perc.job with | some j => j.spotter.isNone && jobByte j.bytes 0 == h | none => false)

/-- NE_UNLOAD. -/
def runNeUnload (tag : Nat) (d : Device) : Device :=
  let h := (d.entryOf tag).p 1 0
  if (d.container h).isNone then d.ok tag true []
  else if d.namesHandle h then d.refuse tag .busyMoving
  else ((d.modPerc (fun p => { p with handles := modNth (fun _ => none) h p.handles })).refreshNe).ok tag false []

/-- Flush queue `q` (R419): now, or after the running job of that queue. Answers the entries it cancels. -/
def Device.flushQueue (d : Device) (q : Nat) : Device × Nat :=
  if q = 3 then
    match d.audio.seg with
    | some g => (d.verdict 2, b2n g.waiting.isSome)
    | none => (d, 0)
  else
    let n := (d.jobEntries q).length
    let stop := d.rd Reg.RING_PI.PI (112 + 2 * q)
    match d.perc.job with
    | some j =>
      if j.queue = q ∧ j.spotter.isNone then
        (d.modPerc (fun p => { p with flushing := (q, stop) :: p.flushing.filter (fun x => x.1 != q) }),
          if bitOf (jobByte j.bytes 1) 0 then n else n - 1)
      else (d.flushTo q stop n, n)
    | none => (d.flushTo q stop n, n)

/-- NE_FLUSH (R419). The verdict of an open phrase is an effect of its own. -/
def runNeFlush (tag : Nat) (d : Device) : Device :=
  let phrase := bitOf ((d.entryOf tag).p 1 0) 3 && d.audio.seg.isSome
  let (d, n) := (bitsBelow ((d.entryOf tag).p 1 0) 4).foldl (fun (p : Device × Nat) q =>
    let (d, k) := p.1.flushQueue q
    (d, p.2 + k)) (d, 0)
  d.ok tag (n == 0 && !phrase) (leBytes 2 n)

/-- PERC_QUERY (Table 13.9). -/
def runPercQuery (tag : Nat) (d : Device) : Device :=
  let act := d.rd Reg.NE_STAT.ACTIVE
  let h := match d.perc.job with
    | some j => if j.spotter.isSome then 0xFF else jobByte j.bytes 0
    | none => 0xFF
  d.ok tag true (leBytes 1 (d.rd Reg.BM_STAT.ACTIVE) ++ leBytes 1 (d.rd Reg.BM_STAT.RETIRED) ++ leBytes 2 act
    ++ leBytes 2 (65535 - act) ++ leBytes 1 (d.rd Reg.NE_STAT.LOADED) ++ leBytes 1 h ++ leBytes 4 d.ptime
    ++ leBytes 4 (d.rd Reg.CAM_SEQ.SEQ 0) ++ leBytes 4 (d.rd Reg.CAM_SEQ.SEQ 1))

/-! ### REINIT commands (Table 13.9) -/

/-- A frame of camera `c`. -/
def ofCam (c : Nat) (f : Frame) : Bool := f.cam == c

/-- The input of a job is gone: it will end FUNCTION_DOWN. -/
def Job.doom (j : Job) : Job := { j with doomed := true, input := none }

/-- The flags and pipeline places of camera `c` are cleared; a job that reads one of them is doomed. -/
def Device.clearCam (d : Device) (c : Nat) : Device :=
  let mine (fl : Nat) : Bool := (8 * c ≤ fl && fl < 8 * c + 8) || (16 + 8 * c ≤ fl && fl < 24 + 8 * c)
  let d := (List.range 8).foldl (fun d s => (d.freeFlag (frameFlag c s)).freeFlag (pyrFlag c s)) d
  let d := d.modPerc (fun p => { p with
    pyrQueue := p.pyrQueue.filter (fun f => !ofCam c f)
    pyrNow := p.pyrNow.filter (fun f => !ofCam c f)
    cornerQ := p.cornerQ.map (fun q => q.filter (fun f => !ofCam c f))
    passed := p.passed.filter (fun x => !mine x.flag)
    job := p.job.map (fun (j : Job) => if (j.input.map (fun x => mine x.1)).getD false then j.doom else j) })
  (d.modBm (fun m => { m with
    queue := m.queue.filter (fun f => !ofCam c f), current := m.current.filter (fun f => !ofCam c f),
    prev := modNth (fun _ => none) c m.prev, field := modNth (fun _ => []) c m.field })).bmBegin

/-- The FUNC reset of receiver `c`: configuration kept (Table 13.9). -/
def Device.camReinit (d : Device) (c : Nat) : Device :=
  let kept := [Reg.CAM_CTRL.EN, Reg.CAM_CTRL.DT, Reg.CAM_CTRL.VC, Reg.CAM_CTRL.SHIFT, Reg.CAM_CTRL.SLOTS,
    Reg.CAM_CTRL.DROP_CORRUPT, Reg.CAM_CTRL.LEVELS, Reg.CAM_EVT.EN].map (fun f => f.key c)
  let a := 0xB000 + 0x40 * c
  let d := (d.funcReset a (a + 4) kept).funcReset (a + 0x10) (a + 0x40) kept
  let d := (d.clearCam c).modCam c (fun x => { Camera.reset with set := x.set })
  (d.clearLatch 0x0B c).camIdle c

/-- CAM_REINIT: it acts as it begins and completes with LONG_COMMAND_DONE. -/
def beginCamReinit (tag : Nat) (d : Device) : Device := d.eachIn ((d.entryOf tag).p 1 0) 2 (fun c d => d.camReinit c)

/-- CAM_REINIT, one at a time (R226). -/
def runCamReinit (tag : Nat) (d : Device) : Device := d.runLong [0x0705] beginCamReinit tag

/-- BM_REINIT acts: the FUNC reset; retired lanes stay so until their test. -/
def beginBmReinit (_tag : Nat) (d : Device) : Device :=
  let d := d.funcReset 0xB080 0xB0A0 [Reg.BM_STAT.ACTIVE.key 0, Reg.BM_STAT.RETIRED.key 0]
  d.bmWritten false

/-- BM_REINIT, one at a time (R226). -/
def runBmReinit (tag : Nat) (d : Device) : Device := d.runLong [0x0706] beginBmReinit tag

/-- The test of the lanes has ended (R423): those that pass are re-admitted and lose their latch. -/
def Device.bmReinitDone (d : Device) (tag : Nat) (o : LongOutcome) : Device :=
  let ret := d.rd Reg.BM_STAT.RETIRED
  let back := ret &&& o.units.toNat
  let d := (d.wr Reg.BM_STAT.RETIRED 0 (ret - back)).wr Reg.BM_STAT.ACTIVE 0 (d.rd Reg.BM_STAT.ACTIVE ||| back)
  let d := d.each 8 (fun u d => if bitOf ret u && !bitOf back u then d else d.clearLatch 0x0C u)
  d.ok tag false (leBytes 1 back)

/-- NE_REINIT acts: the FUNC reset; running and queued jobs end FUNCTION_DOWN; handles stay loaded. -/
def beginNeReinit (_tag : Nat) (d : Device) : Device :=
  let d := match d.perc.job with
    | some j => match j.spotter with
      | some _ => d.jobDown
      | none => (d.modPerc (fun p => { p with job := p.job.map Job.doom })).jobDown
    | none => d
  let d := (List.range 3).foldl (fun d q =>
    (d.jobEntries q).foldl (fun d (e : Nat × List Byte) => d.endEntry q e.1 e.2 .functionDown 0) d) d
  let d := match d.waitingSpotter with
    | some (seg, _, _) => d.spotterEnded seg none
    | none => d
  (d.funcReset 0xB100 0xB130 [Reg.NE_STAT.ACTIVE.key 0]).refreshNe

/-- A long command of the neural engine begins. -/
def beginNeural (tag : Nat) (d : Device) : Device :=
  if (d.task? tag).map (·.op) = some 0x0701 then beginNeLoad tag d else beginNeReinit tag d

/-- NE_LOAD, one long command of the neural engine at a time (R226). -/
def runNeLoad (tag : Nat) (d : Device) : Device := d.runLong [0x0701, 0x0707] beginNeural tag

/-- NE_REINIT, one long command of the neural engine at a time (R226). -/
def runNeReinit (tag : Nat) (d : Device) : Device := d.runLong [0x0701, 0x0707] beginNeural tag

/-- The test of the tiles has ended (R423). -/
def Device.neReinitDone (d : Device) (tag : Nat) (o : LongOutcome) : Device :=
  let act := d.rd Reg.NE_STAT.ACTIVE
  let back := o.units.toNat % 65536 &&& (65535 - act)
  let d := d.wr Reg.NE_STAT.ACTIVE 0 (act ||| back)
  let d := d.each 16 (fun u d => if bitOf (act ||| back) u then d.clearLatch 0x0D u else d)
  d.ok tag false (leBytes 2 back)

/-! ### Retirement (R422) -/

/-- A lane is retired. -/
def Device.retireLane (d : Device) (u : Nat) : Device :=
  let d := (d.wr Reg.BM_STAT.ACTIVE 0 (clrBitOf (d.rd Reg.BM_STAT.ACTIVE) u)).wr Reg.BM_STAT.RETIRED 0
    (setBitOf (d.rd Reg.BM_STAT.RETIRED) u)
  let d := (d.bmEvt 3).record 0x0031 (leBytes 1 1 ++ leBytes 1 u ++ leBytes 1 0xFF)
  if d.lanes.isEmpty then d.bmEvt 4 else d

/-- A tile is retired; its work units go to the others, and with none left the running job ends (R422). -/
def Device.retireTile (d : Device) (u : Nat) : Device :=
  let d := d.wr Reg.NE_STAT.ACTIVE 0 (clrBitOf (d.rd Reg.NE_STAT.ACTIVE) u)
  let d := (d.neEvt 4).record 0x0031 (leBytes 1 2 ++ leBytes 1 u ++ leBytes 1 0xFF)
  if d.rd Reg.NE_STAT.ACTIVE = 0 then (d.neEvt 5).jobDown
  else if d.perc.job.isSome then
    (d.modPerc (fun p => { p with job := p.job.map (fun j => { j with units := j.units + 1 }) })).count Reg.NE_REISSUED.COUNT
  else d

/-! ### Leaving and entering FULL (R424) -/

/-- Perception stops: frames in reception drop, the running job ends FUNCTION_DOWN, FLG000 to FLG031 are FREE;
standing and queued entries stay. -/
def Device.perceptionOff (d : Device) : Device :=
  let d := (d.camStop 0).camStop 1
  let d := match d.perc.job with
    | some _ => d.jobDown
    | none => d
  let d := d.modPerc (fun p => { p with
    pyrQueue := [], pyrNow := none, cornerQ := [[], []], passed := [], matcher := Matcher.reset })
  let d := d.each 32 (fun f d => d.freeFlag f)
  (d.wr Reg.BM_STAT.QUEUED 0 0).wr Reg.MACHINE_STAT.PERC_ON 0 0

/-- Enabled receivers start on entry to FULL. -/
def Device.perceptionOn (d : Device) : Device := ((d.wr Reg.MACHINE_STAT.PERC_ON 0 1).camIdle 0).camIdle 1

/-- On exit from GRAIN all handles are empty (R424). -/
def Device.emptyHandles (d : Device) : Device :=
  (d.modPerc (fun p => { p with handles := List.replicate 8 none, passed := [] })).refreshNe

/-- NE_LOAD (R410). -/
def execNeLoad (e : Entry) (s : State) : Host.Outcome State Fault Refusal := s.devStep (Device.submit 0x0701 runNeLoad e)
/-- NE_UNLOAD (R425). -/
def execNeUnload (e : Entry) (s : State) : Host.Outcome State Fault Refusal := s.devStep (Device.submit 0x0702 runNeUnload e)
/-- NE_FLUSH (R419). -/
def execNeFlush (e : Entry) (s : State) : Host.Outcome State Fault Refusal := s.devStep (Device.submit 0x0703 runNeFlush e)
/-- PERC_QUERY (R425). -/
def execPercQuery (e : Entry) (s : State) : Host.Outcome State Fault Refusal := s.devStep (Device.submit 0x0704 runPercQuery e)
/-- CAM_REINIT (R425). -/
def execCamReinit (e : Entry) (s : State) : Host.Outcome State Fault Refusal := s.devStep (Device.submit 0x0705 runCamReinit e)
/-- BM_REINIT (R423). -/
def execBmReinit (e : Entry) (s : State) : Host.Outcome State Fault Refusal := s.devStep (Device.submit 0x0706 runBmReinit e)
/-- NE_REINIT (R423). -/
def execNeReinit (e : Entry) (s : State) : Host.Outcome State Fault Refusal := s.devStep (Device.submit 0x0707 runNeReinit e)

end Sys2Proof.Machine
end

