-- ==== Sys2Proof/Machine/Fusion.lean ====
section
/-! DEFINITION. Fusion: streams, ego-motion, tracks, the door advisory and the track report (chapter 15); the SPI master
transfers of chapter 03 that its IMU streams use (R107, R111). -/
namespace Sys2Proof.Machine

/-! ### SPI master transfers (R107, R110, R111, Table 3.3) -/

/-- Bytes of a word of port `p` (Table 3.6). -/
def Device.spiWordBytes (d : Device) (p : Nat) : Nat :=
  let w := d.rd Reg.SPM_CTRL.WORD p
  if w = 0 then 1 else if w = 1 then 2 else 4

/-- The bits of a transfer on the line, one list for each assertion of its select: the words of `w` bytes, little-endian
(R5), most significant bit first; with CONT the select is held over all of them (R111). -/
def spiBursts (w : Nat) (cont : Bool) (bs : List Byte) : List (List Bool) :=
  let words := (List.range (bs.length / w)).map (fun i => msbBits (8 * w) (ofLe ((bs.drop (w * i)).take w)))
  if cont then [words.flatten] else words

/-- CD03 cycles of a transfer of `len` bytes on port `p`: its words, and between released words the gap. -/
def Device.spiCycles (d : Device) (p len : Nat) (cont : Bool) : Nat :=
  let words := len / d.spiWordBytes p
  (8 * len + (if cont then 0 else (words - 1) * d.csGap p)) * d.sckCycles p

/-- The transfer at the head of the ring of port `p` runs; it waits until its completion has room, and for a gap in which it
ends 5 µs before the loop period does (R107). DESIGN CHOICE (log entry 65): the queue goes on without a pause after the
address words and after one another, and a LEN outside 1 to 24 completes BAD_PARAM as one that is no multiple of the
word. -/
def Device.spiTransfer (d : Device) (p : Nat) (received : List Byte) : Device :=
  let r := 136 + 2 * p
  if !d.running || !d.on Reg.SPM_CTRL.EN p || !d.ringOn r || d.ringCount r = 0 || !d.ringTakes (r + 1) 32 1 then d
  else
    let e := d.bytes (d.ringAddr r (d.rd Reg.RING_CI.CI r)) 32
    let len := jobByte e 1
    let cont := bitOf (jobByte e 0) 2
    let good := decide (1 ≤ len) && decide (len ≤ 24) && len % d.spiWordBytes p == 0
    let cycles := if good then d.spiCycles p len cont else 0
    if 4000 < (nth ⟨0, [], 0, []⟩ p d.spm).used + cycles then d
    else
      let d := if good then { d with spm := modNth (fun x => { x with
          used := x.used + cycles, sel := jobByte e 0 % 4
          bursts := spiBursts (d.spiWordBytes p) cont ((e.drop 4).take len) }) p d.spm } else d
      let d := d.count Reg.RING_CI.CI r
      d.ringPush (r + 1) (e.take 2 ++ leBytes 2 (if good then Status.ok else Status.badParam).code
        ++ fit 24 (if good then received.take len else []) ++ leBytes 4 d.loops)

/-- SPI_TRANSFER (R111). -/
def execSpiTransfer (p : Fin 4) (received : List Byte) (s : State) : Host.Outcome State Fault Refusal :=
  s.devStep (fun d => d.spiTransfer p.val received)

/-! ### Units of fusion -/

/-- Stream `k`. -/
def Device.stream (d : Device) (k : Nat) : Stream := nth ⟨0, none, false⟩ k d.fusion.streams
/-- Change stream `k`. -/
def Device.modStream (d : Device) (k : Nat) (f : Stream → Stream) : Device :=
  d.modFusion (fun u => { u with streams := modNth f k u.streams })
/-- Ego channel `e`. -/
def Device.ego (d : Device) (e : Nat) : Ego := nth ⟨0, []⟩ e d.fusion.egos
/-- Track slot `t`. -/
def Device.track (d : Device) (t : Nat) : Track := nth Track.reset t d.fusion.tracks
/-- Change track slot `t`. -/
def Device.modTrack (d : Device) (t : Nat) (f : Track → Track) : Device :=
  d.modFusion (fun u => { u with tracks := modNth f t u.tracks })
/-- Advisory channel `c`. -/
def Device.adv (d : Device) (c : Nat) : Advisory := nth ⟨0, 0, 0, none⟩ c d.fusion.advs
/-- Change advisory channel `c`. -/
def Device.modAdv (d : Device) (c : Nat) (f : Advisory → Advisory) : Device :=
  d.modFusion (fun u => { u with advs := modNth f c u.advs })

/-- KIND of stream `k`; 4 to 7 act as OFF (Table 15.1). -/
def Device.streamKind (d : Device) (k : Nat) : Nat :=
  let v := d.rd Reg.STR_CFG.KIND k
  if v < 4 then v else 0

/-- The present time in µs, not reduced: arrival times are kept on it. -/
def Device.micros (d : Device) : Nat := d.loops * 25

/-- The time on that scale of a PTIME of the past. -/
def Device.absTime (d : Device) (p : Nat) : Nat := d.micros - (d.ptime + 2 ^ 32 - p % 2 ^ 32) % 2 ^ 32

/-- Age of stream `k` in µs, saturating; all ones before its first arrival (R456). -/
def Device.streamAge (d : Device) (k : Nat) : Nat :=
  match (d.stream k).arrival with
  | some t => min (2 ^ 32 - 1) (d.micros - t)
  | none => 2 ^ 32 - 1

/-! ### Step 1: encoder and IMU streams (R453, R455) -/

/-- Sample an ENC stream. -/
def Device.sampleEnc (d : Device) (k : Nat) : Device :=
  let c := sext 32 (d.rd Reg.QE_CNT.CNT (d.rd Reg.STR_CFG.QE k))
  let s := d.stream k
  if s.arrival.isSome && s.value == c then d else d.modStream k (fun _ => ⟨c, some d.micros, true⟩)

/-- The IMU streams of port `p`, ascending. -/
def Device.imuStreams (d : Device) (p : Nat) : List Nat :=
  (List.range 8).filter (fun k => d.streamKind k == 3 && d.rd Reg.STR_CFG.PORT k == p)

/-- A completion of the IMU ring reaches stream `k`. -/
def Device.takeImu (d : Device) (k : Nat) (bs : List Byte) : Device :=
  if jobField bs 2 2 ≠ 0 then d.fusEvt 7
  else
    let ofs := d.rd Reg.STR_CFG.OFS k
    let (n, d) := d.draw
    let v := if ofs + 1 < 24 then jobByte bs (4 + ofs) * 256 + jobByte bs (5 + ofs) else (Config.imuBeyond n).toNat
    d.modStream k (fun _ => ⟨sext 16 v, some (d.absTime (jobField bs 4 28 * 25)), true⟩)

/-- The completions of port `p` that have arrived are taken, in the order of the streams that placed the entries. -/
def Device.takeImus (d : Device) (p : Nat) : Device :=
  let ks := d.imuStreams p
  let r := 137 + 2 * p
  if ks.isEmpty then d
  else (List.range (d.ringCount r)).foldl (fun d i =>
    let bs := d.bytes (d.ringAddr r (d.rd Reg.RING_CI.CI r)) 32
    (d.takeImu (nth 0 (i % ks.length) ks) bs).count Reg.RING_CI.CI r) d

/-- Step 1 of R452. -/
def Device.sampleStreams (d : Device) : Device :=
  let d := d.modFusion (fun u => { u with streams := u.streams.map (fun (s : Stream) => { s with fresh := false }) })
  let d := d.each 8 (fun k d => if d.streamKind k = 2 then d.sampleEnc k else d)
  d.each 4 (fun p d => d.takeImus p)

/-! ### Step 2: ego-motion (R458, R459) -/

/-- The count of the ENC stream of channel `e`. -/
def Device.egoCount (d : Device) (e : Nat) : Nat :=
  let k := d.rd Reg.EGO_CFG.ENC e
  if d.streamKind k = 2 then d.rd Reg.QE_CNT.CNT (d.rd Reg.STR_CFG.QE k) else 0

/-- The ego channels start from the present count with velocity 0. -/
def Device.egoReset (d : Device) : Device :=
  let d := d.modFusion (fun u => { u with egos := (List.range 2).map (fun e => ⟨0, [d.egoCount e]⟩) })
  d.each 2 (fun e d => d.wr Reg.EGO_VEL.V_EGO e 0)

/-- ENC_WIN as it acts. -/
def Device.encWin (d : Device) (e : Nat) : Nat := max 1 (d.rd Reg.EGO_CFG.ENC_WIN e)

/-- The encoder velocity of a window of counts, newest first (R458). -/
def Device.encVelocity (d : Device) (e : Nat) (counts : List Nat) : Int :=
  let w := d.encWin e
  let new := nth 0 0 counts
  let old := nth 0 (min w (counts.length - 1)) counts
  divZ (sext 32 (new + 2 ^ 32 - old) * sext 16 (d.rd Reg.EGO_SCALE.ENC_UM e) * 1000) w

/-- Velocity and count history of channel `e` after a cycle. -/
def Device.egoUpdate (d : Device) (e : Nat) : Device :=
  let g := d.ego e
  let counts := ((d.egoCount e) :: g.counts).take 256
  let vEnc := d.encVelocity e counts
  let imu := d.stream (d.rd Reg.EGO_CFG.IMU e)
  let a := if d.streamKind (d.rd Reg.EGO_CFG.IMU e) = 3 && imu.fresh
    then imu.value * d.rd Reg.EGO_FRAME.IMU_SCALE e - sext 32 (d.rd Reg.EGO_BIAS.BIAS e) else 0
  let v := if d.on Reg.EGO_CFG.IMU_EN e then
      let pre := g.v + divZ a 1000
      pre + divF (vEnc - pre) (2 ^ d.rd Reg.EGO_CFG.EGO_K e)
    else vEnc
  let (n, d) := d.draw
  let v := if sext 32 (toBits 32 v) = v then v else (Config.wideVel n).toInt
  (d.modFusion (fun u => { u with egos := modNth (fun _ => ⟨v, counts⟩) e u.egos })).wr Reg.EGO_VEL.V_EGO e (toBits 32 v)

/-- Motion in pixels of channel `e` over `us` µs, signed as HINT_SIGN says (R459, R460). -/
def Device.egoPixels (d : Device) (e us : Nat) : Int :=
  let y := roundDiv ((d.ego e).v * us) (max 1 (d.rd Reg.EGO_SCALE.UM_PER_PX e) * 10 ^ 6)
  if d.on Reg.EGO_CFG.HINT_SIGN e then Int.neg y else y

/-- The hint of channel `e` is written (R406, R459). -/
def Device.egoHint (d : Device) (e : Nat) : Device :=
  if d.on Reg.EGO_CFG.HINT_EN e then
    let c := d.rd Reg.EGO_CFG.HINT_CAM e
    let dy := clampI (-64) 64 (d.egoPixels e (d.rd Reg.EGO_FRAME.FRAME_US e))
    ((d.wr Reg.BM_HINT.DX c 0).wr Reg.BM_HINT.DY c (toBits 8 dy)).hintWritten c
  else d

/-- Step 2 of R452. -/
def Device.updateEgos (d : Device) : Device :=
  let d := d.each 2 (fun e d => d.egoUpdate e)
  d.each 2 (fun e d => d.egoHint e)

/-! ### Step 3: detection lists (R454) -/

/-- A list taken: its frame end, frame sequence and first 32 detections. -/
structure TakenList where
  stream : Nat
  frameEnd : Nat
  frameSeq : Nat
  dets : List (List Byte)
deriving DecidableEq, Repr

/-- Ring indices at which whole lists of ring `r` start, oldest first, from index `i` with `n` entries left. -/
def Device.listStarts (d : Device) (r : Nat) : Nat → Nat → Nat → List Nat
  | 0, _, _ => []
  | fuel + 1, i, n =>
    if n = 0 then []
    else
      let k := (d.byte (d.ringAddr r i + 1)).toNat
      if n < k + 1 then [] else i :: d.listStarts r fuel ((i + k + 1) % 2 ^ 32) (n - k - 1)

/-- The newest list of DETECT stream `k` is taken, every older one discarded. -/
def Device.takeList (d : Device) (k : Nat) : Device × Option TakenList :=
  let r := 128 + k
  if d.streamKind k ≠ 1 || !d.ringOn r then (d, none)
  else
    let starts := d.listStarts r (d.ringCount r) (d.rd Reg.RING_CI.CI r) (d.ringCount r)
    match starts.getLast? with
    | none => (d, none)
    | some i =>
      let head := d.bytes (d.ringAddr r i) 32
      let dets := (List.range (min 32 (jobByte head 1))).map (fun j => d.bytes (d.ringAddr r (i + 1 + j)) 32)
      let fend := jobField head 4 8
      let at' := jobField head 4 12
      let lat := min (2 ^ 24 - 1) ((at' + 2 ^ 32 - fend) % 2 ^ 32)
      let disc := min 255 (d.rd Reg.STR_LAT.DISC k + (starts.length - 1))
      let d := d.wr Reg.RING_CI.CI r (d.rd Reg.RING_PI.PI r)
      let d := (d.wr Reg.STR_LAT.LAT k lat).wr Reg.STR_LAT.DISC k disc
      (d.modStream k (fun s => { s with arrival := some (d.absTime at'), fresh := true }),
        some ⟨k, fend, jobField head 4 4, dets⟩)

/-- Step 3 of R452. -/
def Device.takeLists (d : Device) : Device × List TakenList :=
  (List.range 8).foldl (fun (p : Device × List TakenList) k =>
    let (d, l) := p.1.takeList k
    (d, p.2 ++ l.toList)) (d, [])

/-! ### Step 4: association (R460 to R463) -/

/-- A live track. -/
def Track.live (t : Track) : Bool := t.state != 0

/-- Box of a detection entry: X0, Y0, X1, Y1 (Table 13.7). -/
def detBox (bs : List Byte) : Int × Int × Int × Int :=
  (jobField bs 2 4, jobField bs 2 6, jobField bs 2 8, jobField bs 2 10)

/-- Centre of a box. -/
def boxCentre (b : Int × Int × Int × Int) : Int × Int := (divF (b.1 + b.2.2.1) 2, divF (b.2.1 + b.2.2.2) 2)

/-- Box of a track. -/
def Track.box (t : Track) : Int × Int × Int × Int := (t.x0, t.y0, t.x1, t.y1)

/-- µs from a track's last update to a list's frame end. -/
def Track.dt (t : Track) (l : TakenList) : Nat := (l.frameEnd + 2 ^ 32 - t.upd) % 2 ^ 32

/-- The predicted centre of a track (R460). -/
def Device.predict (d : Device) (t : Track) (l : TakenList) : Int × Int :=
  let dt := t.dt l
  let c := boxCentre t.box
  let ey := if d.on Reg.STR_CFG.EGO_COMP l.stream then d.egoPixels (d.rd Reg.STR_CFG.EGO l.stream) dt else 0
  (c.1 + divZ (t.vx * dt) (10 ^ 6), c.2 + divZ (t.vy * dt) (10 ^ 6) + ey)

/-- The cost entry of a track and a detection (R460). -/
def Device.cost (d : Device) (t : Track) (l : TakenList) (det : List Byte) : Nat :=
  let b := detBox det
  let c := boxCentre b
  let p := d.predict t l
  let w := (b.2.2.1 - b.1) - (t.x1 - t.x0)
  let h := (b.2.2.2 - b.2.1) - (t.y1 - t.y0)
  let k := (c.1 - p.1).natAbs + (c.2 - p.2).natAbs + (w.natAbs + h.natAbs) / 2
    + (if jobByte det 1 ≠ t.cls then d.rd Reg.FUS_CFG.CLASS_PEN else 0)
  if d.rd Reg.FUS_CFG.GATE < k then 0xFFFF else min k 0xFFFE

/-- Row of the matrix for a track slot: the columns below 0xFFFF with their costs. -/
def Device.costRow (d : Device) (l : TakenList) (t : Track) : List (Nat × Nat) :=
  if t.live && t.stream == l.stream then
    (l.dets.zipIdx.map (fun p => (p.2, d.cost t l p.1))).filter (fun p => p.2 < 0xFFFF)
  else []

/-- An assignment: the column of each row, the number of pairs and the cost. -/
abbrev Assignment := List (Option Nat) × Nat × Nat

/-- The better of two assignments, the first among equals. -/
def Assignment.best (a b : Assignment) : Assignment :=
  if a.2.1 < b.2.1 ∨ (a.2.1 = b.2.1 ∧ b.2.2 < a.2.2) then b else a

/-- The solver (R461): the columns of a row are tried in ascending order, unassigned last, so that the first best
assignment is the lexicographically smallest. -/
def solve : List (List (Nat × Nat)) → List Nat → Assignment
  | [], _ => ([], 0, 0)
  | row :: rest, used =>
    let skip := solve rest used
    let opts := (row.filter (fun p => !used.contains p.1)).map (fun p =>
      let a := solve rest (p.1 :: used)
      ((some p.1 :: a.1, a.2.1 + 1, a.2.2 + p.2) : Assignment))
    let none' : Assignment := (none :: skip.1, skip.2.1, skip.2.2)
    match opts with
    | [] => none'
    | o :: os => Assignment.best (os.foldl Assignment.best o) none'

/-- A velocity component after an assignment (R462). -/
def newVelocity (v c p : Int) (dt : Nat) (free : BitVec 16) : Int :=
  clampI (-32767) 32767 (if dt = 0 then free.toInt else v + divZ ((c - p) * 10 ^ 6) (4 * dt))

/-- CONFIRM_N or DROP_N as it acts. -/
def Device.fusN (d : Device) (f : Field) : Nat := max 1 (d.rd f)

/-- A track takes its detection (R462, Table 15.2). -/
def Device.assignTrack (d : Device) (l : TakenList) (slot : Nat) (det : List Byte) : Device :=
  let t := d.track slot
  let b := detBox det
  let c := boxCentre b
  let p := d.predict t l
  let hits := satInc 8 t.hits
  let up := t.state = 1 ∧ d.fusN Reg.FUS_CFG.CONFIRM_N ≤ hits
  let st := if t.state = 1 then (if d.fusN Reg.FUS_CFG.CONFIRM_N ≤ hits then 2 else 1) else 2
  let (n, d) := d.draw
  let (m, d) := d.draw
  let vx := newVelocity t.vx c.1 p.1 (t.dt l) (Config.zeroDtVelocity n)
  let vy := newVelocity t.vy c.2 p.2 (t.dt l) (Config.zeroDtVelocity m)
  let d := d.modTrack slot (fun t => { t with
    state := st, cls := jobByte det 1, score := jobField det 2 2, x0 := b.1, y0 := b.2.1, x1 := b.2.2.1,
    y1 := b.2.2.2, vx := vx, vy := vy, hits := hits, misses := 0, upd := l.frameEnd, frameSeq := l.frameSeq,
    assigned := true })
  if up then d.fusEvt 1 else d

/-- A track is missed (R462, Table 15.2). -/
def Device.missTrack (d : Device) (slot : Nat) : Device :=
  let t := d.track slot
  let m := t.misses + 1
  if t.state = 1 ∨ (t.state = 3 ∧ d.fusN Reg.FUS_CFG.DROP_N ≤ m) ∨ (t.state = 2 ∧ d.fusN Reg.FUS_CFG.DROP_N ≤ m) then
    (d.modTrack slot (fun _ => Track.reset)).fusEvt 2
  else d.modTrack slot (fun t => { t with state := 3, misses := m })

/-- An unassigned detection starts a track in the lowest free slot (R462). -/
def Device.birth (d : Device) (l : TakenList) (det : List Byte) : Device :=
  if jobField det 2 2 < d.rd Reg.FUS_CFG2.BIRTH_SCORE then d
  else match (List.range 32).find? (fun (t : Nat) => !(d.track t).live) with
    | none => d.fusEvt 3
    | some slot =>
      let b := detBox det
      let st := if d.fusN Reg.FUS_CFG.CONFIRM_N ≤ 1 then 2 else 1
      let uid := d.fusion.nextUid
      let d := d.modTrack slot (fun _ =>
        ⟨st, uid, jobByte det 1, jobField det 2 2, b.1, b.2.1, b.2.2.1, b.2.2.2, 0, 0, 1, 0, l.stream, l.frameEnd,
          l.frameSeq, false, true⟩)
      let d := (d.modFusion (fun u => { u with nextUid := (uid + 1) % 2 ^ 16 })).fusEvt 0
      if st = 2 then d.fusEvt 1 else d

/-- One list is associated with the tracks (R460 to R462). -/
def Device.associate (d : Device) (l : TakenList) : Device :=
  let cols := (solve (d.fusion.tracks.map (d.costRow l)) []).1
  let mine (slot : Nat) : Bool := (d.track slot).live && (d.track slot).stream == l.stream
  let slots := (List.range 32).filter mine
  let d := slots.foldl (fun d slot => match nth none slot cols with
    | some c => d.assignTrack l slot (nth [] c l.dets)
    | none => d) d
  let d := slots.foldl (fun d slot => if (nth none slot cols).isSome then d else d.missTrack slot) d
  (l.dets.zipIdx.filter (fun p => !cols.contains (some p.2))).foldl (fun d p => d.birth l p.1) d

/-! ### Step 5: the door advisory (R464 to R466) -/

/-- Corners of a rectangle register pair: X0, Y0 inclusive, X1, Y1 exclusive. -/
def Device.advRect (d : Device) (core : Bool) (c : Nat) : Int × Int × Int × Int :=
  if core then (d.rd Reg.ADV_CORE_LT.X c, d.rd Reg.ADV_CORE_LT.Y c, d.rd Reg.ADV_CORE_RB.X c, d.rd Reg.ADV_CORE_RB.Y c)
  else (d.rd Reg.ADV_ZONE_LT.X c, d.rd Reg.ADV_ZONE_LT.Y c, d.rd Reg.ADV_ZONE_RB.X c, d.rd Reg.ADV_ZONE_RB.Y c)

/-- A point lies in a rectangle. -/
def inRect (p : Int × Int) (r : Int × Int × Int × Int) : Bool :=
  decide (r.1 ≤ p.1) && decide (p.1 < r.2.2.1) && decide (r.2.1 ≤ p.2) && decide (p.2 < r.2.2.2)

/-- A box overlaps a rectangle. -/
def meetsRect (b r : Int × Int × Int × Int) : Bool :=
  decide (b.1 < r.2.2.1) && decide (r.1 < b.2.2.1) && decide (b.2.1 < r.2.2.2) && decide (r.2.1 < b.2.2.2)

/-- The level found by channel `c`, and the lowest slot that decides it (R464). -/
def Device.advFound (d : Device) (c : Nat) : Nat × Nat :=
  let counts (t : Nat) : Bool :=
    let k := d.track t
    (k.state == 2 || k.state == 3) && k.stream == d.rd Reg.ADV_CFG.STREAM c
      && k.cls < 8 && bitOf (d.rd Reg.ADV_CFG.CLASS_MASK c) k.cls
  let ts := (List.range 32).filter counts
  match ts.find? (fun (t : Nat) => inRect (boxCentre (d.track t).box) (d.advRect true c)) with
  | some t => (2, t)
  | none =>
    match ts.find? (fun (t : Nat) => meetsRect (d.track t).box (d.advRect false c)) with
    | some t => (1, t)
    | none => (0, 0)

/-- Target scale of a level (R464). -/
def Device.advTarget (d : Device) (c level : Nat) : Nat :=
  if level = 2 then d.rd Reg.ADV_SCALE.CORE c else if level = 1 then d.rd Reg.ADV_SCALE.PRESENT c
  else d.rd Reg.ADV_CLEAR.CLEAR c

/-- The channel writes its target if it differs from the last value written, or if none was (R466). -/
def Device.advWrite (d : Device) (c : Nat) : Device :=
  let v := d.advTarget c (d.adv c).level
  if (d.adv c).last = some v then d
  else
    let n := d.rd Reg.ADV_CFG.AXIS c
    let d := d.wrSh Reg.SCALE.SCALE n v
    let d := (d.modAdv c (fun a => { a with last := some v })).wr Reg.ADV_STAT.LAST c v
    let d := if d.on Reg.ADV_CFG.STROBE c then d.raiseStrobes (2 ^ d.rd Reg.AX_CTRL.SG n) else d
    d.fusEvt 5

/-- LEVEL takes a value. -/
def Device.setLevel (d : Device) (c level slot : Nat) : Device :=
  let d := d.modAdv c (fun a => { a with level := level, hold := 0, found := level })
  (d.wr Reg.ADV_STAT.LEVEL c level).wr Reg.ADV_STAT.TRACK c slot

/-- Channel `c` in a cycle: a rise at once, a lower finding counted (R465), then the write. -/
def Device.advise (d : Device) (c : Nat) : Device :=
  if !d.on Reg.ADV_CFG.EN c then d
  else
    let (f, slot) := d.advFound c
    let a := d.adv c
    let d := if a.level ≤ f then d.setLevel c f slot
      else d.modAdv c (fun a => { a with found := f, hold := if a.found = f ∧ 0 < a.hold then a.hold + 1 else 1 })
    d.advWrite c

/-- ADVISORY_HOLD_EXPIRY: a level found for HOLD_MS takes effect (R465). -/
def Device.advExpire (d : Device) (c : Nat) : Device :=
  let a := d.adv c
  if d.on Reg.FUS_CTRL.EN && d.full && d.on Reg.ADV_CFG.EN c && 0 < a.hold
      && d.rd Reg.ADV_CLEAR.HOLD_MS c ≤ a.hold - 1 then
    ((d.setLevel c a.found (d.advFound c).2).advWrite c).publish true
  else d

/-- ADVISORY_HOLD_EXPIRY (R465). -/
def execAdvisoryHoldExpiry (c : Fin 8) (s : State) : Host.Outcome State Fault Refusal :=
  s.devStep (fun d => d.advExpire c.val)

/-! ### Step 6: the track report (R468) -/

/-- The oldest age over the enabled streams, and its stream. -/
def Device.oldestStream (d : Device) : Nat × Nat :=
  let ks := (List.range 8).filter (fun k => d.streamKind k != 0)
  match ks with
  | [] => (2 ^ 32 - 1, 0)
  | k :: t => t.foldl (fun b j => if b.1 < d.streamAge j then (d.streamAge j, j) else b) (d.streamAge k, k)

/-- A track entry (Table 15.3). -/
def trackBytes (slot : Nat) (t : Track) : List Byte :=
  leBytes 1 0x51 ++ leBytes 1 slot ++ leBytes 2 t.uid ++ leBytes 1 t.state ++ leBytes 1 t.cls ++ leBytes 2 t.score
    ++ leBytes 2 (toBits 16 t.x0) ++ leBytes 2 (toBits 16 t.y0) ++ leBytes 2 (toBits 16 t.x1)
    ++ leBytes 2 (toBits 16 t.y1) ++ leBytes 2 (toBits 16 t.vx) ++ leBytes 2 (toBits 16 t.vy)
    ++ leBytes 1 t.hits ++ leBytes 1 t.misses ++ leBytes 1 t.stream ++ leBytes 1 (b2n t.assigned + 2 * b2n t.born)
    ++ leBytes 4 t.upd ++ leBytes 4 t.frameSeq

/-- The report of a cycle that took the lists of the streams in `mask`. -/
def Device.trackReport (d : Device) (mask : Nat) : List (List Byte) :=
  let live := (List.range 32).filter (fun t => (d.track t).live)
  let old := d.oldestStream
  (leBytes 1 0x50 ++ leBytes 1 live.length ++ leBytes 1 mask ++ leBytes 1 0 ++ leBytes 4 d.fusion.cycle
    ++ leBytes 4 (toBits 32 (d.ego 0).v) ++ leBytes 4 (toBits 32 (d.ego 1).v) ++ leBytes 4 old.1 ++ leBytes 1 old.2
    ++ leBytes 11 0)
    :: live.map (fun t => trackBytes t (d.track t))

/-- Write the report, all or none. -/
def Device.writeReport (d : Device) (mask : Nat) : Device :=
  let es := d.trackReport mask
  let r := d.rd Reg.FUS_CFG2.TRK_RING
  if d.ringTakes r 32 es.length then d.ringPushAll r es else d.fusEvt 4

/-! ### Step 7: IMU transfers (R455) -/

/-- The next transfer of IMU stream `k`. -/
def Device.placeImu (d : Device) (k : Nat) : Device :=
  let r := 136 + 2 * d.rd Reg.STR_CFG.PORT k
  let len := d.rd Reg.STR_CFG.LEN k
  if d.streamKind k = 3 && d.ringRoom r 1 then
    d.ringPut r (leBytes 1 (d.rd Reg.STR_CFG.SEL k + 4) ++ leBytes 1 len ++ leBytes 2 0
      ++ fit 24 ((leBytes 4 (d.rd Reg.STR_TX.TX k)).take len) ++ leBytes 4 0)
  else d

/-! ### The cycle (R452) -/

/-- Slots named by TRACK_CLEAR become FREE (R470). -/
def Device.clearTracks (d : Device) : Device :=
  (d.eachIn d.fusion.clearMask 32 (fun t d => d.modTrack t (fun _ => Track.reset))).modFusion
    (fun u => { u with clearMask := 0 })

/-- STR_AGE follows the streams. -/
def Device.refreshAges (d : Device) : Device := d.each 8 (fun k d => d.wr Reg.STR_AGE.AGE k (d.streamAge k))

/-- FUSION_CYCLE (R452). -/
def Device.fusionCycle (d : Device) : Device :=
  if !d.on Reg.FUS_CTRL.EN || !d.full then d
  else
    let before := d.fusion.tracks
    let d := d.modFusion (fun u => { u with cycle := d.ptime })
    let d := d.clearTracks
    let d := d.modFusion (fun u => { u with
      tracks := u.tracks.map (fun (t : Track) => { t with assigned := false, born := false }) })
    let d := d.sampleStreams.updateEgos
    let (d, lists) := d.takeLists
    let d := lists.foldl Device.associate d
    let d := d.each 8 (fun c d => d.advise c)
    let plain (l : List Track) : List Track := l.map (fun (t : Track) => { t with assigned := false, born := false })
    let d := if d.on Reg.FUS_CFG2.TRK_EN && plain d.fusion.tracks != plain before
      then d.writeReport (lists.foldl (fun m l => m ||| 2 ^ l.stream) 0) else d
    let d := d.each 8 (fun k d => d.placeImu k)
    d.refreshAges.publish true

/-- FUSION_CYCLE (R452). -/
def execFusionCycle (s : State) : Host.Outcome State Fault Refusal := s.devStep Device.fusionCycle

/-- STREAM_AGE_LIMIT: the age of stream `k` exceeds AGE_LIM (R456). -/
def Device.ageLimit (d : Device) (k : Nat) : Device :=
  let lim := d.rd Reg.STR_CFG.AGE_LIM k
  if d.on Reg.FUS_CTRL.EN && d.full && d.streamKind k != 0 && lim != 0 && decide (lim * 1000 < d.streamAge k)
  then d.fusEvt 6 else d

/-- STREAM_AGE_LIMIT (R456). -/
def execStreamAgeLimit (k : Fin 8) (s : State) : Host.Outcome State Fault Refusal :=
  s.devStep (fun d => d.ageLimit k.val)

/-! ### Enabling and power modes (R455, R466, R468, R469) -/

/-- Enabling fusion is refused (R468). -/
def Device.fusionUnfit (d : Device) : Bool :=
  let r := d.rd Reg.FUS_CFG2.TRK_RING
  (d.on Reg.FUS_CFG2.TRK_EN && (r < 152 || d.ringEsize r != 32))
  || (List.range 8).any (fun k => (d.streamKind k == 1 && d.ringEsize (128 + k) != 32)
    || (d.streamKind k == 3 && (d.ringOn (136 + 2 * d.rd Reg.STR_CFG.PORT k)
      || d.ringOn (137 + 2 * d.rd Reg.STR_CFG.PORT k) || !d.on Reg.SPM_CTRL.EN (d.rd Reg.STR_CFG.PORT k))))

/-- Fusion configures and enables the rings of a port with an IMU stream, or disables them (R455). -/
def Device.imuRings (d : Device) (on : Bool) : Device :=
  d.each 4 (fun p d =>
    if (d.imuStreams p).isEmpty then d
    else [136 + 2 * p, 137 + 2 * p].foldl (fun d r =>
      if on then
        (((d.wr Reg.RING_CFG.ESIZE r 1).wr Reg.RING_PI.PI r 0).wr Reg.RING_CI.CI r 0).wr Reg.RING_CFG.EN r 1
      else d.wr Reg.RING_CFG.EN r 0) d)

/-- FUS_CTRL.EN has been set or cleared. -/
def Device.fusWritten (d : Device) (on : Bool) : Device :=
  if on then
    if d.fusionUnfit then (d.wr Reg.FUS_CTRL.EN 0 0).cause Reg.FUS_CTRL.CFG_REJECT 0 0 true 365
    else
      let d := d.imuRings true
      let d := if d.on Reg.FUS_CFG2.TRK_EN then d.wr Reg.RING_CFG.ROLE (d.rd Reg.FUS_CFG2.TRK_RING) 1 else d
      let d := d.modFusion (fun u => { u with streams := List.replicate 8 ⟨0, none, false⟩ })
      (d.refreshAges.egoReset).publish true
  else d.imuRings false

/-- ADV_CFG.EN of channel `c` has been set or cleared (R466). -/
def Device.advWritten (d : Device) (c : Nat) (on : Bool) : Device :=
  let d := d.setLevel c 0 0
  if on then d.modAdv c (fun a => { a with last := none }) else d

/-- Tracks FREE and LEVELs CLEAR, without any write. -/
def Device.dropTracks (d : Device) : Device :=
  let d := d.modFusion (fun u => { u with tracks := List.replicate 32 Track.reset, clearMask := 0 })
  d.each 8 (fun c d => d.setLevel c 0 0)

/-- On leaving FULL fusion stops (R469). -/
def Device.fusionOff (d : Device) : Device := d.dropTracks.publish true

/-- On entry to FULL fusion starts under R458. -/
def Device.fusionOn (d : Device) : Device := d.egoReset.publish true

/-! ### Commands (Table 15.4) -/

/-- FUS_QUERY. -/
def runFusQuery (tag : Nat) (d : Device) : Device :=
  let mask (p : Track → Bool) : Nat := (List.range 32).foldl (fun m t => if p (d.track t) then m + 2 ^ t else m) 0
  d.ok tag true (leBytes 4 d.fusion.cycle ++ leBytes 4 (d.rd Reg.EGO_VEL.V_EGO 0) ++ leBytes 4 (d.rd Reg.EGO_VEL.V_EGO 1)
    ++ leBytes 4 (mask Track.live) ++ leBytes 4 (mask (fun t => t.state == 2 || t.state == 3)))

/-- STREAM_AGES. -/
def runStreamAges (tag : Nat) (d : Device) : Device :=
  let en := (List.range 8).foldl (fun m k => if d.streamKind k != 0 then m + 2 ^ k else m) 0
  d.ok tag true ((List.range 8).flatMap (fun k => leBytes 2 (min 0xFFFF (d.rd Reg.STR_AGE.AGE k / 1000))) ++ leBytes 1 en)

/-- TRACK_CLEAR. -/
def runTrackClear (tag : Nat) (d : Device) : Device :=
  if !d.full then d.complete tag .functionDown true []
  else
    let m := (d.entryOf tag).p 4 0
    (d.modFusion (fun u => { u with clearMask := u.clearMask ||| m })).ok tag (m == 0) []

/-- Keys of the configuration fields (RW and WD) of a block. -/
def cfgKeys (lo hi : Nat) : List Nat :=
  allFields.flatMap (fun f => if f.acc = .rw ∨ f.acc = .wd then
    (((List.range f.count).map (fun i => (f.addr i, f.key i))).filter (fun p => lo ≤ p.1 && p.1 < hi)).map (·.2) else [])

/-- FUS_REINIT: FUNC of the fusion block with its configuration kept. -/
def runFusReinit (tag : Nat) (d : Device) : Device :=
  let d := d.dropTracks
  let d := d.modFusion (fun u => { u with streams := List.replicate 8 ⟨0, none, false⟩ })
  let d := d.funcReset 0xB400 0xB604 (cfgKeys 0xB400 0xB604)
  (d.egoReset.publish true).ok tag false []

/-- FUS_QUERY (R470). -/
def execFusQuery (e : Entry) (s : State) : Host.Outcome State Fault Refusal :=
  s.devStep (Device.submit 0x0901 runFusQuery e)
/-- STREAM_AGES (R470). -/
def execStreamAges (e : Entry) (s : State) : Host.Outcome State Fault Refusal :=
  s.devStep (Device.submit 0x0902 runStreamAges e)
/-- TRACK_CLEAR (R470). -/
def execTrackClear (e : Entry) (s : State) : Host.Outcome State Fault Refusal :=
  s.devStep (Device.submit 0x0903 runTrackClear e)
/-- FUS_REINIT (R470). -/
def execFusReinit (e : Entry) (s : State) : Host.Outcome State Fault Refusal :=
  s.devStep (Device.submit 0x0904 runFusReinit e)

end Sys2Proof.Machine
end

