-- ==== Sys2Proof/Machine/Crypto.lean ====
section
/-! DEFINITION. SHA-256 over bytes (R509, R514, R523, R524), as FIPS 180-4 defines it. -/
namespace Sys2Proof.Machine

/-- The integer root of `n` for exponent `k`, found bit by bit downward from bit `b - 1` above `r`. -/
def rootFrom (k n : Nat) : Nat → Nat → Nat
  | 0, r => r
  | b + 1, r => rootFrom k n b (if (r + 2 ^ b) ^ k ≤ n then r + 2 ^ b else r)

/-- The primes below 312, of which there are 64: trial division by the primes up to 17 decides each. -/
def smallPrimes : List Nat :=
  (List.range 312).filter (fun p => 2 ≤ p && [2, 3, 5, 7, 11, 13, 17].all (fun q => p == q || p % q != 0))

/-- The first 32 bits after the binary point of the root of `p` for exponent `k`. -/
def rootBits (k p : Nat) : Nat := rootFrom k (p * 2 ^ (32 * k)) 37 0 % 2 ^ 32

/-- The round constants: of the cube roots of the first 64 primes. -/
def shaK : List Nat := smallPrimes.map (rootBits 3)

/-- The initial hash value: of the square roots of the first eight primes. -/
def shaInit : List Nat := (smallPrimes.take 8).map (rootBits 2)

/-- Addition modulo 2^32. -/
def add32 (a b : Nat) : Nat := (a + b) % 2 ^ 32
/-- Rotation of a 32-bit word to the right. -/
def ror32 (x k : Nat) : Nat := (x >>> k) ||| (x <<< (32 - k)) % 2 ^ 32
/-- Complement of a 32-bit word. -/
def not32 (x : Nat) : Nat := 2 ^ 32 - 1 - x % 2 ^ 32

/-- Big-endian bytes of a number. -/
def beBytes (n v : Nat) : List Byte := (leBytes n v).reverse
/-- The number that big-endian bytes spell. -/
def ofBe (bs : List Byte) : Nat := ofLe bs.reverse

/-- The message padded to whole 64-byte blocks. -/
def shaPad (bs : List Byte) : List Byte :=
  bs ++ [0x80] ++ List.replicate ((119 - bs.length % 64) % 64) 0 ++ beBytes 8 (8 * bs.length)

/-- The next `n` words of the message schedule; the last 16 are held newest first. -/
def shaExpand : Nat → List Nat → List Nat
  | 0, _ => []
  | n + 1, w =>
    let a := nth 0 14 w
    let b := nth 0 1 w
    let s0 := ror32 a 7 ^^^ ror32 a 18 ^^^ (a >>> 3)
    let s1 := ror32 b 17 ^^^ ror32 b 19 ^^^ (b >>> 10)
    let x := add32 (add32 (nth 0 15 w) s0) (add32 (nth 0 6 w) s1)
    x :: shaExpand n ((x :: w).take 16)

/-- One round, on the working variables a to h. -/
def shaRound (v : List Nat) (kw : Nat × Nat) : List Nat :=
  match v with
  | [a, b, c, d, e, f, g, h] =>
    let s1 := ror32 e 6 ^^^ ror32 e 11 ^^^ ror32 e 25
    let ch := (e &&& f) ^^^ (not32 e &&& g)
    let t1 := add32 (add32 h s1) (add32 ch (add32 kw.1 kw.2))
    let s0 := ror32 a 2 ^^^ ror32 a 13 ^^^ ror32 a 22
    let maj := (a &&& b) ^^^ (a &&& c) ^^^ (b &&& c)
    [add32 t1 (add32 s0 maj), a, b, c, add32 d t1, e, f, g]
  | l => l

/-- One 64-byte block. -/
def shaBlock (h : List Nat) (bs : List Byte) : List Nat :=
  let w := (List.range 16).map (fun i => ofBe ((bs.drop (4 * i)).take 4))
  let ws := w ++ shaExpand 48 w.reverse
  List.zipWith add32 h ((shaK.zip ws).foldl shaRound h)

/-- The blocks of a message, `n` at most. -/
def shaBlocks : Nat → List Nat → List Byte → List Nat
  | 0, h, _ => h
  | n + 1, h, bs => if bs.isEmpty then h else shaBlocks n (shaBlock h (bs.take 64)) (bs.drop 64)

/-- SHA-256: 32 bytes. -/
def sha256 (bs : List Byte) : List Byte :=
  let p := shaPad bs
  (shaBlocks (p.length / 64) shaInit p).flatMap (beBytes 4)

end Sys2Proof.Machine
end

