-- ==== Sys2Proof/Machine/Keeping.lean ====
section
/-! DEFINITION. The parameter and calibration stores and the inspection record (chapter 17). -/
namespace Sys2Proof.Machine

/-! ### MRAM lines (R498, R499, R505) -/

/-- MRAM may be written: it runs, and no brown-out warning is present (R355, R611, Table 1.5). The entry to GRAIN
switches it off (Table 11.2). -/
def Device.mramReady (d : Device) : Bool :=
  !d.power.grain && !bitOf (d.rd Reg.BO_STAT.OK) 3 && bitOf (d.rd Reg.BO_STAT.OK) 4
  && !d.towardGrain

/-- A brown-out warning is present. -/
def Device.boWarn (d : Device) : Bool := bitOf (d.rd Reg.BO_STAT.OK) 3

/-- A 64-byte line is written whole. -/
def Device.writeLine (d : Device) (a : Nat) (bs : List Byte) : Device := d.put a (fit 64 bs)

/-- A line is written in part: each byte holds its old or its new content, which is free. -/
def Device.tearLine (d : Device) (a : Nat) (bs : List Byte) : Device :=
  let (n, d) := d.draw
  d.put a ((fit 64 bs).zipIdx.map (fun p => if Config.lineLanded n p.2 then p.1 else d.byte (a + p.2)))

/-- Cut bytes into lines from an address on. -/
def linesOf (a : Nat) (bs : List Byte) : List (Nat × List Byte) :=
  (List.range ((bs.length + 63) / 64)).map (fun k => (a + 64 * k, fit 64 ((bs.drop (64 * k)).take 64)))

/-- Bytes padded to whole lines. -/
def padLines (bs : List Byte) : List Byte := fit ((bs.length + 63) / 64 * 64) bs

/-! ### Banks (R502, R503, Tables 17.1 and 17.4) -/

/-- Address of a bank. -/
def bankBase (kind bank : Nat) : Nat := if kind = 0 then 0x20600000 + bank * 0x40000 else 0x20680000 + bank * 0x10000
/-- Bytes of a bank. -/
def bankSize (kind : Nat) : Nat := if kind = 0 then 0x40000 else 0x10000
/-- Address of the commit line of a bank. -/
def commitAddr (kind bank : Nat) : Nat := bankBase kind bank + bankSize kind - 64

/-- A bank is valid (R503). -/
def Device.bankValid (d : Device) (kind bank : Nat) : Bool :=
  let c := commitAddr kind bank
  d.ld 4 c == 0x54494D43 && d.ld 4 (c + 28) == crcBytes (d.bytes c 28)
  && d.ld 4 (c + 8) % 64 == 0 && decide (d.ld 4 (c + 8) ≤ bankSize kind - 64)
  && d.ld 4 (c + 12) == crcBytes (d.bytes (bankBase kind bank) (d.ld 4 (c + 8)))

/-- SEQ of a valid bank, 0 of one that is not. -/
def Device.bankSeq (d : Device) (kind bank : Nat) : Nat :=
  if d.bankValid kind bank then d.ld 4 (commitAddr kind bank + 4) else 0

/-- The field of STORE_STAT that names the active bank of a kind. -/
def activeField (kind : Nat) : Field := if kind = 0 then Reg.STORE_STAT.P_ACTIVE else Reg.STORE_STAT.K_ACTIVE
/-- The register of the active SEQ of a kind. -/
def seqField (kind : Nat) : Field := if kind = 0 then Reg.P_SEQ.SEQ else Reg.K_SEQ.SEQ

/-- The active bank of a kind, if it has one. -/
def Device.activeBank (d : Device) (kind : Nat) : Option Nat :=
  if d.rd (activeField kind) < 2 then some (d.rd (activeField kind)) else none

/-- A bank becomes active, or the kind empty. -/
def Device.setActive (d : Device) (kind : Nat) (b : Option Nat) : Device :=
  match b with
  | some k => (d.wr (activeField kind) 0 k).wr (seqField kind) 0 (d.ld 4 (commitAddr kind k + 4))
  | none => (d.wr (activeField kind) 0 3).wr (seqField kind) 0 0

/-! ### What a store captures (R500, Tables 17.2 and 17.3) -/

/-- Fields captured by a STORE of a kind. -/
def captured (kind : Nat) (f : Field) : Bool :=
  let b := f.base
  if kind = 0 then
    match f.acc with
    | .sh => decide (0x401C ≤ b) && decide (b < 0x4100) && b != 0x40B4
    | .wd =>
      (decide (0x0200 ≤ b) && decide (b < 0x0240)) || (decide (0x0300 ≤ b) && decide (b < 0x0400)) || b == 0x3010
      || b == 0x8004 || b == 0x8008 || (decide (0x9004 ≤ b) && decide (b ≤ 0x9108))
      || (decide (0xA500 ≤ b) && decide (b < 0xA5C0)) || (decide (0xB000 ≤ b) && decide (b < 0xB600))
      || b == 0xD004 || b == 0xD008 || b == 0xD010 || b == 0xD104
    | .rw =>
      (b == 0x4000 && f.lsb == 1) || b == 0x0104 || b == 0x9104 || b == 0x9108
      || (decide (0xA100 ≤ b) && decide (b ≤ 0xA10C)) || b == 0xB110 || b == 0xB208 || b == 0x0408 || b == 0x040C
    | .ro => false
    | .rcBG => false
    | .rcD => false
    | .rcS => false
    | .w1c => false
    | .wo => false
  else b == 0x40B4

/-- The value a STORE takes of a field: the shadow of an SH field. -/
def Device.captureField (d : Device) (f : Field) (i : Nat) : Nat := if f.acc = .sh then d.rdSh f i else d.rd f i

/-- Add a number under a key. -/
def sparseAdd (k v : Nat) (t : RegFile) : RegFile := sparsePut k ((sparseGet k t).getD 0 + v) t

/-- The words captured of the registers: address and value, ascending. -/
def Device.captureWords (d : Device) (kind : Nat) : RegFile :=
  (allFields.filter (captured kind)).foldl (fun t f =>
    (List.range f.count).foldl (fun t i => sparseAdd (f.addr i) (d.captureField f i * 2 ^ f.lsb) t) t) []

/-- The pseudo addresses under which a bank holds what has no register (log entry: the spec gives none): the learned
map of fan `f` at point `p`, the user area's restore address and its length. -/
def mapAddr (f p : Nat) : Nat := 0xF0000000 + 64 * f + 4 * p
/-- Pseudo address of USER_DST. -/
def userDstAddr : Nat := 0xF0001000
/-- Pseudo address of USER_LEN. -/
def userLenAddr : Nat := 0xF0001004

/-- Every record pair of a store. -/
def Device.capturePairs (d : Device) (kind : Nat) (user : Option (Nat × Nat × Nat)) : List (Nat × Nat) :=
  let maps := if kind = 1 then (List.range 6).flatMap (fun f =>
      (List.range 9).map (fun p => (mapAddr f p, nth 0 p (d.fan f).map))) else []
  let ua := match user with
    | some (_, len, dst) => [(userDstAddr, dst), (userLenAddr, len)]
    | none => []
  d.captureWords kind ++ maps ++ ua

/-- Bytes of microstep table `t`. -/
def Device.tableBytes (d : Device) (t : Nat) : List Byte :=
  (List.range 1024).flatMap (fun i => leBytes 2 (d.tableEntry t i))

/-- The begin marker (R502). -/
def Device.beginMarker (d : Device) (kind seq : Nat) : List Byte :=
  fit 64 (leBytes 4 0x4E474542 ++ leBytes 4 seq ++ leBytes 4 kind ++ leBytes 4 (d.rd Reg.BOOT_CNT.COUNT))

/-- The content of a bank, begin marker included (R502): the count and the pairs, the tables, the user area. -/
def Device.bankContent (d : Device) (kind seq : Nat) (user : Option (Nat × Nat × Nat)) : List Byte :=
  let ps := d.capturePairs kind user
  let recs := padLines (leBytes 4 ps.length ++ ps.flatMap (fun p => leBytes 4 p.1 ++ leBytes 4 p.2))
  let tabs := if kind = 0 then (List.range 7).flatMap (fun t => d.tableBytes (t + 1)) else []
  let ua := match user with
    | some (src, len, _) => padLines (d.bytes src len)
    | none => []
  d.beginMarker kind seq ++ recs ++ tabs ++ ua

/-! ### Slots and manifests as far as the stores need them (R523) -/

/-- Address of an image's manifest in a slot: 0 host, 1 grain (Table 18.1). -/
def manifestAddr (slot image : Nat) : Nat := 0x20000000 + slot * 0x300000 + (if image = 0 then 0 else 0x2B0000)
/-- `n` bytes of a manifest at an offset. -/
def Device.manifest (d : Device) (slot image n k : Nat) : Nat := d.ld n (manifestAddr slot image + k)
/-- Interface revision of an image of the running slot; 0 while the boot ROM serves. -/
def Device.ifrev (d : Device) (image : Nat) : Nat :=
  match d.keep.slot with
  | some s => d.manifest s image 2 12
  | none => 0

/-- The commit record (Table 17.4). -/
def Device.commitRecord (d : Device) (kind seq length dcrc : Nat) : List Byte :=
  let head := leBytes 4 0x54494D43 ++ leBytes 4 seq ++ leBytes 4 length ++ leBytes 4 dcrc ++ leBytes 1 kind ++ leBytes 3 0
    ++ leBytes 2 (d.ifrev 0) ++ leBytes 2 (d.ifrev 1) ++ leBytes 4 (d.rd Reg.BOOT_CNT.COUNT)
  fit 64 (head ++ leBytes 4 (crcBytes head))

/-! ### The inspection record (R509 to R513) -/

/-- Address of record entry `e` (R509). -/
def entryAddr (e : Nat) : Nat := 0x206A0000 + e % 16384 * 64

/-- Next entry. -/
def Device.recHead (d : Device) : Nat := d.rd Reg.REC_HEAD.ESEQ
/-- RELEASED. -/
def Device.released (d : Device) : Nat := d.rd Reg.REC_RELEASED.ESEQ

/-- The first 32 bytes of an entry (Table 17.5). -/
def Device.entryHead (d : Device) (e type grain : Nat) (data : List Byte) : List Byte :=
  leBytes 4 e ++ leBytes 4 (d.rd Reg.BOOT_CNT.COUNT) ++ leBytes 6 grain ++ leBytes 2 type ++ fit 16 data

/-- The record has room for the entry at HEAD (R512). -/
def Device.recordRoom (d : Device) : Bool := d.recHead < d.released + 16384

/-- Append one entry at HEAD: hash chain, line, HEAD, REC_NEAR_FULL. -/
def Device.appendEntry (d : Device) (type grain : Nat) (data : List Byte) : Device :=
  let e := d.recHead
  let a := entryAddr e
  let body := d.entryHead e type grain data
  let h := sha256 (d.keep.hash ++ body)
  let old := if e < 16384 then List.replicate 32 0 else d.bytes (a + 32) 32
  let d := (d.writeLine a (body ++ h)).modKeep (fun k => { k with hash := h, anchor := old })
  let d := d.wr Reg.REC_HEAD.ESEQ 0 (e + 1)
  if e + 1 = d.released + 15360 then d.storeEvt 4 else d

/-- The next queued cause is appended, or a DROPPED entry ahead of it (R511); a full record makes it wait (R512).
A RECORD_NOTE completes with its entry. -/
def Device.appendNext (d : Device) : Device :=
  match d.keep.queue with
  | [] => d
  | c :: rest =>
    if !d.mramReady then d
    else if !d.recordRoom then
      if bitOf (d.rd Reg.STORE_EVT.CAUSE) 5 then d else (d.storeEvt 5).occur 0x18 0
    else
      let lost := d.rd Reg.REC_QUEUE.LOST
      if lost ≠ 0 then
        (d.wr Reg.REC_QUEUE.LOST 0 0).appendEntry 0x0072 d.grain (leBytes 4 0 ++ leBytes 4 lost)
      else
        let e := d.recHead
        let d := (d.modKeep (fun k => { k with queue := rest })).refreshQueue
        let d := d.appendEntry c.type c.grain c.data
        match c.task with
        | some tag => d.ok tag false (leBytes 4 e)
        | none => d

/-- RECORD_APPEND (R511). -/
def execRecordAppend (s : State) : Host.Outcome State Fault Refusal := s.devStep Device.appendNext

/-- Append queued causes, at most `n` lines. -/
def Device.appendMany (d : Device) : Nat → Device
  | 0 => d
  | n + 1 => d.appendNext.appendMany n

/-! ### STORE (R502 to R505, R517, R518) -/

/-- STORE_STAT of a running or ended store. -/
def Device.storeStat (d : Device) (busy : Bool) (kind last lines : Nat) : Device :=
  ((((d.wr Reg.STORE_STAT.BUSY 0 (b2n busy)).wr Reg.STORE_STAT.KIND 0 kind).wr Reg.STORE_STAT.LAST 0 last).wr
    Reg.STORE_STAT.LINES 0 lines)

/-- Result of a STORE (Table 17.8). -/
def storeResult (seq length dcrc bank reason micros : Nat) : List Byte :=
  leBytes 4 seq ++ leBytes 4 length ++ leBytes 4 dcrc ++ leBytes 1 bank ++ leBytes 1 reason ++ leBytes 2 0
    ++ leBytes 4 micros

/-- DATA of a store entry of the record: KIND, bank, REASON, SEQ, LENGTH, DCRC (Table 17.6). -/
def storeData (kind bank reason seq length dcrc : Nat) : List Byte :=
  leBytes 1 kind ++ leBytes 1 bank ++ leBytes 1 reason ++ leBytes 1 0 ++ leBytes 4 seq ++ leBytes 4 length ++ leBytes 4 dcrc

/-- User area of a STORE entry. -/
def userArea (e : Entry) : Option (Nat × Nat × Nat) :=
  if e.flag 1 0 then some (e.p 4 4, e.p 4 8, e.p 4 12) else none

/-- The bank a STORE of a kind writes: the one that is not active, bank 0 of an empty kind (R502). -/
def Device.storeBank (d : Device) (kind : Nat) : Nat :=
  match d.activeBank kind with
  | some b => 1 - b
  | none => 0

/-- The SEQ a STORE of a kind writes (R502). -/
def Device.storeSeq (d : Device) (kind : Nat) : Nat := max (d.bankSeq kind 0) (d.bankSeq kind 1) + 1

/-- A STORE is refused with a REASON before anything is written (R518). -/
def Device.storeRefused (d : Device) (tag kind reason : Nat) : Device :=
  let d := (d.storeStat false kind 2 0).storeEvt 1
  let seq := d.storeSeq kind
  let bank := d.storeBank kind
  let d := if reason = 3 then d.record 0x0012 (storeData kind bank reason seq 0 0) else d
  d.complete tag .storeFailed false (storeResult 0 0 0 bank reason 0)

/-- STORE begins: capture and the lines to be written (R501, R502). -/
def Device.beginStore (d : Device) (tag : Nat) : Device :=
  let e := d.entryOf tag
  let kind := e.p 1 0
  let bank := d.storeBank kind
  let seq := d.storeSeq kind
  if d.lasting 0x17 0 then d.storeRefused tag kind 4
  else if d.boWarn then d.storeRefused tag kind 1
  else if seq = 0xFFFFFFFF then d.storeRefused tag kind 3
  else
    let body := d.bankContent kind seq (userArea e)
    let crc := crcBytes body
    let c := commitAddr kind bank
    let lines := (c, List.replicate 64 0) :: linesOf (bankBase kind bank) body
      ++ [(c, d.commitRecord kind seq body.length crc)]
    let run : StoreRun := ⟨tag, kind, bank, seq, lines, body.length, crc, 0, 0, d.loops * 25⟩
    (d.modKeep (fun k => { k with store := some run })).storeStat true kind (d.rd Reg.STORE_STAT.LAST) 0

/-- STORE_INVALIDATE zeroes both commit lines of a kind; it writes nothing while MRAM writes are refused. -/
def Device.beginInvalidate (d : Device) (tag : Nat) : Device :=
  let kind := (d.entryOf tag).p 1 0
  if !d.mramReady then d.complete tag .storeFailed false []
  else
    let z := List.replicate 64 0
    let d := ((d.writeLine (commitAddr kind 0) z).writeLine (commitAddr kind 1) z).setActive kind none
    (d.record 0x0013 (leBytes 1 kind)).ok tag false []

/-- A store runs. -/
def Device.storeBusy (d : Device) : Bool := d.keep.store.isSome

/-- A STORE or STORE_INVALIDATE begins. -/
def Device.beginKeep (d : Device) (tag : Nat) : Device :=
  if (d.task? tag).map (·.op) = some 0x0B04 then d.beginInvalidate tag else d.beginStore tag

/-- STORE: a second one waits for the first (R521). -/
def runStore (tag : Nat) (d : Device) : Device := if d.storeBusy then d.queueLong tag else d.beginStore tag

/-- The next queued STORE or STORE_INVALIDATE starts. -/
def Device.nextStore (d : Device) : Device :=
  Device.startQueued [0x0B01, 0x0B04] Device.storeBusy (fun tag d => d.beginKeep tag) d.sched.tasks.length d

/-- The store has ended: LAST, its completion, the next one. -/
def Device.endStore (d : Device) (r : StoreRun) (last : Nat) (st : Status) (reason : Nat) : Device :=
  let d := (d.modKeep (fun k => { k with store := none })).storeStat false r.kind last r.written
  let micros := d.loops * 25 - r.start
  (d.complete r.tag st false (storeResult r.seq r.length r.dcrc r.bank reason micros)).nextStore

/-- The store ends OK: its bank is active (R502, R503). -/
def Device.storeDone (d : Device) (r : StoreRun) : Device :=
  let d := (d.setActive r.kind (some r.bank)).storeEvt 0
  let d := d.record 0x0010 (storeData r.kind r.bank 0 r.seq r.length r.dcrc)
  d.endStore r 1 .ok 0

/-- The store stops at its safe point (R505, R517). -/
def Device.storeStopped (d : Device) (r : StoreRun) : Device :=
  if r.stopping = 1 then
    let d := (d.storeEvt 2).wakeLatch 9
    (d.record 0x0011 (storeData r.kind r.bank 0 r.seq 0 0)).endStore r 3 .storeInterrupted 0
  else d.endStore r 3 .aborted 0

/-- A line fails its read-back (R518). -/
def Device.storeBadLine (d : Device) (r : StoreRun) : Device :=
  let d := (d.occur 0x17 0).storeEvt 1
  let d := d.record 0x0012 (storeData r.kind r.bank 2 r.seq 0 0)
  d.endStore r 2 .storeFailed 2

/-- The line being written by the running store ends (R499, R502, R505, R518). The commit line, once begun, is never
stopped (R521). -/
def Device.storeLine (d : Device) (r : StoreRun) (ok : Bool) : Device :=
  match r.lines with
  | [] => d
  | (a, bs) :: rest =>
    let r := { r with lines := rest, written := r.written + 1 }
    let d := (if ok then d.writeLine a bs else d.tearLine a bs).wr Reg.STORE_STAT.LINES 0 r.written
    let d := d.modKeep (fun k => { k with store := some r })
    if !ok then d.storeBadLine r
    else if rest.isEmpty then d.storeDone r
    else if r.stopping ≠ 0 then d.storeStopped r
    else d

/-- STORE_SAFE_POINT (R505): a store that is to stop ends its line and stops. -/
def Device.storeSafePoint (d : Device) : Device :=
  match d.keep.store with
  | some r => if r.stopping ≠ 0 ∧ 1 < r.lines.length then d.storeLine r true else d
  | none => d

/-- STORE_SAFE_POINT (R505). -/
def execStoreSafePoint (s : State) : Host.Outcome State Fault Refusal := s.devStep Device.storeSafePoint

/-- The running store is to stop at its next safe point: 1 brown-out, 2 cancel. -/
def Device.stopStore (d : Device) (why : Nat) : Device :=
  d.modKeep (fun k => { k with store := k.store.map (fun (r : StoreRun) =>
    if r.stopping = 0 then { r with stopping := why } else r) })

/-- What a reset finds in the MRAM array: the line being written is torn (R513, R521, R547). -/
def Device.tearInFlight (d : Device) : Device :=
  match d.keep.store, d.keep.img with
  | some r, _ => (match r.lines with | (a, bs) :: _ => d.tearLine a bs | [] => d)
  | none, some r => (match r.lines with | (a, bs) :: _ => d.tearLine a bs | [] => d)
  | none, none =>
    match d.keep.queue with
    | c :: _ =>
      if d.mramReady && d.recordRoom then
        let body := d.entryHead d.recHead c.type c.grain c.data
        d.tearLine (entryAddr d.recHead) (body ++ sha256 (d.keep.hash ++ body))
      else d
    | [] => d

/-! ### The other commands (Table 17.8) -/

/-- STORE_QUERY. -/
def runStoreQuery (tag : Nat) (d : Device) : Device :=
  let kind := (d.entryOf tag).p 1 0
  let act := d.activeBank kind
  let c (n k : Nat) : Nat := match act with
    | some b => d.ld n (commitAddr kind b + k)
    | none => 0
  d.ok tag true (leBytes 1 (act.getD 0xFF) ++ leBytes 1 (b2n (d.bankValid kind 0) + 2 * b2n (d.bankValid kind 1))
    ++ leBytes 2 0 ++ leBytes 4 (d.bankSeq kind 0) ++ leBytes 4 (d.bankSeq kind 1) ++ leBytes 4 (c 4 8)
    ++ leBytes 4 (c 4 20))

/-- The record pairs of a bank. -/
def Device.bankPairs (d : Device) (kind bank : Nat) : List (Nat × Nat) :=
  let b := bankBase kind bank + 64
  (List.range (d.ld 4 b)).map (fun k => (d.ld 4 (b + 4 + 8 * k), d.ld 4 (b + 8 + 8 * k)))

/-- Address of the tables of a bank, after the padded records. -/
def Device.bankTables (d : Device) (kind bank : Nat) : Nat :=
  let b := bankBase kind bank + 64
  b + (4 + 8 * d.ld 4 b + 63) / 64 * 64

/-- The user area of a bank: address in the bank, length, restore address. -/
def Device.bankUser (d : Device) (kind bank : Nat) : Option (Nat × Nat × Nat) :=
  let ps := d.bankPairs kind bank
  match ps.find? (fun p => p.1 == userDstAddr), ps.find? (fun p => p.1 == userLenAddr) with
  | some dst, some len =>
    some (d.bankTables kind bank + (if kind = 0 then 7 * 2048 else 0), len.2, dst.2)
  | _, _ => none

/-- A chain whose bytes overlap a range is locked. -/
def Device.locksRange (d : Device) (a n : Nat) : Bool :=
  (List.range 256).any (fun c => overlaps a n (linkAddr c 0) 0x640 && d.chainLocked c)

/-- PARAM_RECALL. -/
def runParamRecall (tag : Nat) (d : Device) : Device :=
  match (d.activeBank 0).bind (d.bankUser 0) with
  | none => d.ok tag true (leBytes 4 0)
  | some (src, len, dst) =>
    if len = 0 then d.ok tag true (leBytes 4 0)
    else if d.locksRange dst len then d.refuse tag .busyMoving
    else (d.hostWrite dst ((d.bytes src len).take (0x11000000 - dst))).ok tag false (leBytes 4 len)

/-- STORE_INVALIDATE waits behind a running STORE (R226). -/
def runStoreInvalidate (tag : Nat) (d : Device) : Device :=
  if d.storeBusy then d.queueLong tag else d.beginInvalidate tag

/-- RECORD_NOTE completes when its entry is appended; one lost to a full queue completes FUNCTION_DOWN. -/
def runRecordNote (tag : Nat) (d : Device) : Device :=
  let e := d.entryOf tag
  let data := leBytes 16 (e.p 16 0)
  if d.keep.queue.length < 32 then d.record 0x0060 data (some tag)
  else (d.record 0x0060 data).complete tag .functionDown false []

/-- Bounds of the entries kept (Table 17.8). -/
def Device.exportOk (d : Device) (first last : Nat) : Bool :=
  decide (d.recHead - 16384 ≤ first) && decide (first ≤ last) && decide (last < d.recHead)

/-- H(e) of an entry kept (R509). -/
def Device.hashOf (d : Device) (e : Nat) : List Byte := d.bytes (entryAddr e + 32) 32

/-- RECORD_EXPORT is refused outside the entries kept; else it ends with LONG_COMMAND_DONE (R514). -/
def beginRecordExport (tag : Nat) (d : Device) : Device :=
  let e := d.entryOf tag
  if d.exportOk (e.p 4 0) (e.p 4 4) then d else d.refuse tag .badParam

/-- RECORD_EXPORT, one at a time (R226). -/
def runRecordExport (tag : Nat) (d : Device) : Device := d.runLong [0x0B06] beginRecordExport tag

/-- The statement of an export (Table 17.7). -/
def Device.exportStatement (d : Device) (first last : Nat) : List Byte :=
  let anchor := if first = 0 then List.replicate 32 0
    else if first = d.recHead - 16384 then d.keep.anchor else d.hashOf (first - 1)
  leBytes 2 0x0E01 ++ leBytes 2 0 ++ leBytes 8 Config.deviceUid.toNat ++ leBytes 4 first ++ leBytes 4 last
    ++ leBytes 4 (d.rd Reg.BOOT_CNT.COUNT) ++ d.grainBytes ++ leBytes 2 0 ++ anchor ++ d.hashOf last

/-- The signing of RECORD_EXPORT has ended: statement and signature in memory, the EXPORTED entry, EXPORT_END (R514). -/
def Device.recordExportDone (d : Device) (tag : Nat) : Device :=
  let e := d.entryOf tag
  let first := e.p 4 0
  let last := e.p 4 4
  if !d.exportOk first last then d.refuse tag .badParam
  else
    let st := d.exportStatement first last
    let (n, d) := d.draw
    let sig := Config.signature n (BitVec.ofNat 256 (ofBe (sha256 st)))
    let d := d.engineWrite (e.p 4 8) (st ++ beBytes 64 sig.toNat)
    let d := d.record 0x0070 (leBytes 4 0 ++ leBytes 4 first ++ leBytes 4 last)
    let d := d.wr Reg.REC_EXPORT_END.ESEQ 0 (max (d.rd Reg.REC_EXPORT_END.ESEQ) (last + 1))
    d.ok tag false (leBytes 4 first ++ leBytes 4 last)

/-- RECORD_RELEASE (R515). -/
def runRecordRelease (tag : Nat) (d : Device) : Device :=
  let upto := (d.entryOf tag).p 4 0
  if d.released < upto ∧ upto ≤ d.rd Reg.REC_EXPORT_END.ESEQ then
    let d := d.wr Reg.REC_RELEASED.ESEQ 0 upto
    ((d.record 0x0071 (leBytes 4 0 ++ leBytes 4 upto)).clearLatch 0x18 0).ok tag false []
  else d.refuse tag .badParam

/-- STORE (R502). -/
def execStore (e : Entry) (s : State) : Host.Outcome State Fault Refusal := s.devStep (Device.submit 0x0B01 runStore e)
/-- STORE_QUERY (R516). -/
def execStoreQuery (e : Entry) (s : State) : Host.Outcome State Fault Refusal :=
  s.devStep (Device.submit 0x0B02 runStoreQuery e)
/-- PARAM_RECALL (R516). -/
def execParamRecall (e : Entry) (s : State) : Host.Outcome State Fault Refusal :=
  s.devStep (Device.submit 0x0B03 runParamRecall e)
/-- STORE_INVALIDATE (R516). -/
def execStoreInvalidate (e : Entry) (s : State) : Host.Outcome State Fault Refusal :=
  s.devStep (Device.submit 0x0B04 runStoreInvalidate e)
/-- RECORD_NOTE (R510). -/
def execRecordNote (e : Entry) (s : State) : Host.Outcome State Fault Refusal :=
  s.devStep (Device.submit 0x0B05 runRecordNote e)
/-- RECORD_EXPORT (R514). -/
def execRecordExport (e : Entry) (s : State) : Host.Outcome State Fault Refusal :=
  s.devStep (Device.submit 0x0B06 runRecordExport e)
/-- RECORD_RELEASE (R515). -/
def execRecordRelease (e : Entry) (s : State) : Host.Outcome State Fault Refusal :=
  s.devStep (Device.submit 0x0B07 runRecordRelease e)

end Sys2Proof.Machine
end

