-- ==== Sys2Proof/Machine/Images.lean ====
section
/-! DEFINITION. Image slots, manifests, activation records and the image and security commands (chapter 18). -/
namespace Sys2Proof.Machine

/-! ### Slots and manifests (R522 to R526) -/

/-- Address of a slot. -/
def slotBase (slot : Nat) : Nat := 0x20000000 + slot * 0x300000
/-- Bytes of an image's body area (Table 18.1). -/
def bodySize (image : Nat) : Nat := if image = 0 then 0x2A0000 else 0x30000
/-- Address of an image's body. -/
def bodyAddr (slot image : Nat) : Nat := manifestAddr slot image + 0x10000
/-- Address of a slot's activation record. -/
def recordAddr (slot : Nat) : Nat := slotBase slot + 0x2FFFC0

/-- SVN of an image of a slot. -/
def Device.svn (d : Device) (slot image : Nat) : Nat := d.manifest slot image 1 20
/-- The anti-rollback counter of an image type, as ARB_CNT shows it. -/
def Device.arbCount (d : Device) (image : Nat) : Nat :=
  if image = 0 then d.rd Reg.ARB_CNT.HOST else d.rd Reg.ARB_CNT.GRAIN

/-- REASON 1: MAGIC, TYPE and LEN. -/
def Device.formatOk (d : Device) (slot image : Nat) : Bool :=
  d.manifest slot image 4 0 == 0x4D4E4B44 && d.manifest slot image 1 4 == image
  && decide (d.manifest slot image 4 28 ≤ bodySize image)

/-- REASON 2: the key slot, its hash, its revocation. -/
def Device.keyOk (d : Device) (slot image : Nat) : Bool :=
  let k := d.manifest slot image 1 5
  decide (k < 4) && !bitOf (d.rd Reg.ARB_CNT.REVOKED) k
  && ofBe (sha256 (d.bytes (manifestAddr slot image + 32) 64)) == (Config.keyHash (Fin.ofNat 4 k)).toNat

/-- REASON 3: the signature over bytes 0 to 1535. -/
def Device.signatureOk (d : Device) (slot image : Nat) : Bool :=
  let a := manifestAddr slot image
  Config.verifies (BitVec.ofNat 512 (ofBe (d.bytes (a + 32) 64))) (BitVec.ofNat 256 (ofBe (sha256 (d.bytes a 1536))))
    (BitVec.ofNat 512 (ofBe (d.bytes (a + 1536) 64)))

/-- REASON 4: every block hashes to its HASH entry. -/
def Device.blocksOk (d : Device) (slot image : Nat) : Bool :=
  let len := d.manifest slot image 4 28
  (List.range ((len + 65535) / 65536)).all (fun k =>
    sha256 (d.bytes (bodyAddr slot image + 65536 * k) (min 65536 (len - 65536 * k)))
      == d.bytes (manifestAddr slot image + 96 + 32 * k) 32)

/-- The REASON for which an image is not authentic, if any (R524). -/
def Device.notAuthentic (d : Device) (slot image : Nat) : Option Nat :=
  if !d.formatOk slot image then some 1
  else if !d.keyOk slot image then some 2
  else if !d.signatureOk slot image then some 3
  else if !d.blocksOk slot image then some 4
  else none

/-- An image is current (R525). -/
def Device.current (d : Device) (slot image : Nat) : Bool := d.arbCount image ≤ d.svn slot image

/-- The REASON for which an image is not authentic or not current. -/
def Device.imageReason (d : Device) (slot image : Nat) : Option Nat :=
  match d.notAuthentic slot image with
  | some r => some r
  | none => if d.current slot image then none else some 5

/-- A value lies in a range held at two offsets of a manifest. -/
def Device.inRange (d : Device) (slot image n lo hi v : Nat) : Bool :=
  decide (d.manifest slot image n lo ≤ v) && decide (v ≤ d.manifest slot image n hi)

/-- The REASON for which a slot's pair is not compatible, if any (R525). -/
def Device.pairReason (d : Device) (slot : Nat) : Option Nat :=
  let silicon (i : Nat) : Bool := d.inRange slot i 1 18 19 0xB1
  if !(silicon 0 && silicon 1) then some 6
  else if !(d.inRange slot 0 2 14 16 (d.manifest slot 1 2 12) && d.inRange slot 1 2 14 16 (d.manifest slot 0 2 12)) then some 7
  else none

/-- Least of two REASONs. -/
def minReason (a b : Option Nat) : Option Nat :=
  match a, b with
  | some x, some y => some (min x y)
  | some x, none => some x
  | none, y => y

/-- SHA-256 of both manifests of a slot (R528). -/
def Device.manifestHash (d : Device) (slot : Nat) : List Byte :=
  sha256 (d.bytes (manifestAddr slot 0) 4096 ++ d.bytes (manifestAddr slot 1) 4096)

/-- The verified latch of a slot. -/
def Device.latch (d : Device) (slot : Nat) : Option (List Byte) := nth none slot d.keep.latches

/-- Set or clear the verified latch of a slot; IMG_STAT shows it. -/
def Device.setLatch (d : Device) (slot : Nat) (v : Option (List Byte)) : Device :=
  (d.modKeep (fun k => { k with latches := modNth (fun _ => v) slot k.latches })).wr
    (if slot = 0 then Reg.IMG_STAT.LATCH_A else Reg.IMG_STAT.LATCH_B) 0 (b2n v.isSome)

/-- The activation record of a slot is valid (R526). -/
def Device.recordValid (d : Device) (slot : Nat) : Bool :=
  let a := recordAddr slot
  d.ld 4 a == 0x54434153 && d.ld 4 (a + 28) == crcBytes (d.bytes a 28)

/-- STATE of an activation record: 1 TRIAL, 2 CONFIRMED, 3 REVERTED, 0 invalid. -/
def Device.recordState (d : Device) (slot : Nat) : Nat := if d.recordValid slot then d.ld 1 (recordAddr slot + 8) else 0
/-- TRIES of an activation record. -/
def Device.recordTries (d : Device) (slot : Nat) : Nat := if d.recordValid slot then d.ld 1 (recordAddr slot + 9) else 0
/-- ASEQ of an activation record. -/
def Device.recordSeq (d : Device) (slot : Nat) : Nat := if d.recordValid slot then d.ld 4 (recordAddr slot + 4) else 0

/-- Write an activation record (Table 18.3). -/
def Device.writeRecord (d : Device) (slot aseq state tries : Nat) : Device :=
  let head := leBytes 4 0x54434153 ++ leBytes 4 aseq ++ leBytes 1 state ++ leBytes 1 tries ++ leBytes 18 0
  d.writeLine (recordAddr slot) (head ++ leBytes 4 (crcBytes head))

/-- The record entry about an image (Table 17.6). -/
def Device.recordImage (d : Device) (slot image action : Nat) : Device :=
  d.record 0x0020 (leBytes 1 image ++ leBytes 1 slot ++ leBytes 1 action ++ leBytes 1 0 ++ leBytes 4 (d.manifest slot image 4 8)
    ++ leBytes 4 (d.arbCount image))

/-! ### Fuses (R538, R539) -/

/-- Anti-rollback counters rise to the SVNs of a pair, at most to 64; nothing lowers them. -/
def Fuses.raise (f : Fuses) (host grain : Nat) : Fuses :=
  { f with host := max f.host (min 64 host), grain := max f.grain (min 64 grain) }

/-- Key slots are revoked. -/
def Fuses.revoke (f : Fuses) (mask : Nat) : Fuses := { f with revoked := f.revoked ||| BitVec.ofNat 4 mask }

/-- ARB_CNT shows the fuses. -/
def Device.showFuses (d : Device) (f : Fuses) : Device :=
  ((d.wr Reg.ARB_CNT.HOST 0 f.host).wr Reg.ARB_CNT.GRAIN 0 f.grain).wr Reg.ARB_CNT.REVOKED 0 f.revoked.toNat

/-! ### The slot that image commands act on (R532, R534) -/

/-- The slot that is not running; slot A while the boot ROM serves. -/
def Device.otherSlot (d : Device) : Nat := match d.keep.slot with
  | some s => 1 - s
  | none => 0

/-- The long image commands, which run one at a time (R226, R545). -/
def imgOps : List Nat := [0x0C02, 0x0C03, 0x0C04, 0x0C05, 0x0C06]

/-- An image command executes. -/
def Device.imgBusy (d : Device) : Bool := d.sched.tasks.any (fun t => t.state == .executing && imgOps.contains t.op)

/-- An image command completes with a REASON in byte 0. -/
def Device.imgEnd (d : Device) (tag : Nat) (st : Status) (reason : Nat) (more : List Byte) : Device :=
  d.complete tag st (st == .badParam && reason != 0x0B) (leBytes 1 reason ++ more)

/-- A staging buffer is locked while an IMG_WRITE that names it is in flight (R536). -/
def Device.stageLocked (d : Device) (k : Nat) : Bool :=
  d.sched.tasks.any (fun t => t.op == 0x0C02 && t.entry.p 1 1 == k + 1 && t.state != .completing)

/-- Bytes of a staging buffer. -/
def Device.stageBytes (d : Device) (k n : Nat) : List Byte :=
  ((List.range 256).flatMap (fun i => leBytes 4 (d.rd (if k = 0 then Reg.STAGE0.DATA else Reg.STAGE1.DATA) i))).take n

/-- OFFSET and LEN of an IMG_WRITE lie in the manifest or the body of the image (R534). -/
def areaOk (image off len : Nat) : Bool :=
  off % 64 == 0 && len % 64 == 0 && decide (64 ≤ len) && decide (len ≤ 65536)
  && (decide (off + len ≤ 0x1000) || (decide (0x10000 ≤ off) && decide (off + len ≤ 0x10000 + bodySize image)))

/-- IMG_WRITE's parameters are in their ranges (Table 18.6). -/
def imgWriteOk (e : Entry) : Bool :=
  decide (e.p 1 0 ≤ 1) && decide (e.p 1 1 ≤ 2) && areaOk (e.p 1 0) (e.p 4 4) (e.p 4 12)
  && (if e.p 1 1 = 0 then sramSpan (e.p 4 8) (e.p 4 12) else decide (e.p 4 12 ≤ 1024))

/-- Lines of a write into the other slot, its activation record zeroed first (R535). -/
def Device.startImage (d : Device) (tag : Nat) (lines : List (Nat × List Byte)) : Device :=
  let s := d.otherSlot
  let z := List.replicate 64 (0 : Byte)
  let pre := if d.bytes (recordAddr s) 64 = z then [] else [(recordAddr s, z)]
  (d.setLatch s none).modKeep (fun k => { k with img := some ⟨tag, pre ++ lines, 0⟩ })

/-- An image command starts: what it can be refused for at once, or its first effect. -/
def Device.beginImg (d : Device) (tag : Nat) : Device :=
  let e := d.entryOf tag
  let op := ((d.task? tag).map (·.op)).getD 0
  let s := d.otherSlot
  if op = 0x0C06 then
    if !d.on Reg.IMG_STAT.TRIAL then
      d.imgEnd tag .badParam 8 (leBytes 1 (d.arbCount 0) ++ leBytes 1 (d.arbCount 1))
    else if !d.mramReady then d.imgEnd tag .aborted 0x0C (leBytes 1 (d.arbCount 0) ++ leBytes 1 (d.arbCount 1))
    else match d.keep.slot with
      | some r => (d.writeRecord r (d.recordSeq r) 2 (d.recordTries r)).wr Reg.IMG_STAT.TRIAL 0 0
      | none => d
  else if d.on Reg.IMG_STAT.TRIAL then d.refuse tag .busyMoving
  else if op = 0x0C02 then
    if !imgWriteOk e then d.imgEnd tag .badParam 0x0A []
    else if !d.mramReady then d.imgEnd tag .aborted 0x0C []
    else
      let data := if e.p 1 1 = 0 then d.bytes (e.p 4 8) (e.p 4 12) else d.stageBytes (e.p 1 1 - 1) (e.p 4 12)
      d.startImage tag (linesOf (manifestAddr s (e.p 1 0) + e.p 4 4) data)
  else if op = 0x0C03 then
    match d.keep.slot with
    | none => d.imgEnd tag .badParam (Config.imageReason op e.params).toNat []
    | some r =>
      let i := e.p 1 0
      if !d.mramReady then d.imgEnd tag .aborted 0x0C []
      else
        let body := (d.manifest r i 4 28 + 63) / 64 * 64
        d.startImage tag (linesOf (manifestAddr s i) (d.bytes (manifestAddr r i) 4096)
          ++ linesOf (bodyAddr s i) (d.bytes (bodyAddr r i) (min (bodySize i) body)))
  else d

/-- The image function is idle: its queued commands start in the order taken. -/
def Device.nextImg (d : Device) : Device :=
  Device.startQueued imgOps Device.imgBusy (fun tag d => d.beginImg tag) d.sched.tasks.length d

/-- A long image command: it waits behind another that executes (R226). -/
def runImg (tag : Nat) (d : Device) : Device :=
  if d.sched.tasks.any (fun t => t.state == .executing && t.tag != tag && imgOps.contains t.op) then d.queueLong tag
  else (d.beginImg tag).nextImg

/-- The running image write ends. -/
def Device.endImage (d : Device) (r : ImgRun) (st : Status) (reason : Nat) : Device :=
  ((d.modKeep (fun k => { k with img := none })).imgEnd r.tag st reason []).nextImg

/-- The line being written by an image write ends (R535). -/
def Device.imageLine (d : Device) (r : ImgRun) (ok : Bool) : Device :=
  match r.lines with
  | [] => d
  | (a, bs) :: rest =>
    let r := { r with lines := rest }
    let d := (if ok then d.writeLine a bs else d.tearLine a bs).modKeep (fun k => { k with img := some r })
    if !ok then (d.occur 0x17 0).endImage r .badParam 0x0B
    else if rest.isEmpty then (d.imgEvt 0).endImage r .ok 0
    else if r.stopping ≠ 0 then d.endImage r .aborted 0x0C
    else d

/-- The running image write is to stop at the end of its line. -/
def Device.stopImage (d : Device) (why : Nat) : Device :=
  d.modKeep (fun k => { k with img := k.img.map (fun (r : ImgRun) =>
    if r.stopping = 0 then { r with stopping := why } else r) })

/-- A line of the MRAM ends: of the running store, else of the running image write (R499). -/
def Device.mramLine (d : Device) (ok : Bool) : Device :=
  match d.keep.store, d.keep.img with
  | some r, _ => d.storeLine r ok
  | none, some r => d.imageLine r ok
  | none, none => d

/-- MRAM_LINE_DONE (R499). -/
def execMramLineDone (ok : Bool) (s : State) : Host.Outcome State Fault Refusal := s.devStep (fun d => d.mramLine ok)

/-! ### What LONG_COMMAND_DONE completes -/

/-- IMG_VERIFY has checked its image (R545). -/
def Device.imgVerifyDone (d : Device) (tag : Nat) : Device :=
  let s := d.otherSlot
  let i := (d.entryOf tag).p 1 0
  let more := leBytes 3 0 ++ leBytes 4 (d.manifest s i 4 8) ++ leBytes 1 (d.svn s i)
  match d.notAuthentic s i with
  | some r => ((d.imgEvt 1).imgEnd tag .badParam r more).nextImg
  | none => ((d.recordImage s i 0).imgEnd tag .ok 0 more).nextImg

/-- The REASON for which a slot cannot be activated (R537, Table 18.7). -/
def Device.activateReason (d : Device) (s : Nat) : Option Nat :=
  let own (i : Nat) : Bool := bitOf (d.manifest s i 1 21) (d.manifest s i 1 5)
  minReason (minReason (d.imageReason s 0) (d.imageReason s 1))
    (minReason (d.pairReason s) (if own 0 || own 1 then some 9 else none))

/-- ASEQ of the next activation: the running slot's plus 1. -/
def Device.nextAseq (d : Device) : Nat := match d.keep.slot with
  | some r => d.recordSeq r + 1
  | none => max (d.recordSeq 0) (d.recordSeq 1) + 1

/-- IMG_ACTIVATE has checked both images (R537). -/
def Device.imgActivateDone (d : Device) (tag : Nat) : Device :=
  let s := d.otherSlot
  let more (n : Nat) : List Byte := leBytes 3 0 ++ leBytes 4 n
  match d.activateReason s with
  | some r => ((d.imgEvt 1).imgEnd tag .badParam r (more 0)).nextImg
  | none =>
    if !d.mramReady then (d.imgEnd tag .aborted 0x0C (more 0)).nextImg
    else
      let n := d.nextAseq
      let d := (d.writeRecord s n 1 0).setLatch s (some (d.manifestHash s))
      ((d.imgEvt 2).imgEnd tag .ok 0 (more n)).nextImg

/-- The fuses after IMG_CONFIRM of the running slot (R538). -/
def Device.confirmFuses (d : Device) (f : Fuses) : Fuses :=
  match d.keep.slot with
  | some r => (f.raise (d.svn r 0) (d.svn r 1)).revoke (d.manifest r 0 1 21 ||| d.manifest r 1 1 21)
  | none => f

/-- IMG_CONFIRM has blown its fuses `g`; `f` are those before (R538). -/
def Device.imgConfirmDone (d : Device) (tag : Nat) (f g : Fuses) : Device :=
  match d.keep.slot with
  | none => d
  | some r =>
    let d := d.showFuses g
    let d := ((d.recordImage r 0 1).recordImage r 1 1).imgEvt 5
    let d := if f.host < g.host ∨ f.grain < g.grain then d.imgEvt 6 else d
    (d.imgEnd tag .ok 0 (leBytes 1 g.host ++ leBytes 1 g.grain)).nextImg

/-! ### Queries -/

/-- IMG_QUERY (Table 18.6). -/
def runImgQuery (tag : Nat) (d : Device) : Device :=
  let part := (d.entryOf tag).p 1 0
  if part < 2 then
    let sv (i : Nat) : Nat := if (d.notAuthentic part i).isSome then 0xFF else d.svn part i
    d.ok tag true (leBytes 1 (d.recordState part) ++ leBytes 1 (d.recordTries part) ++ leBytes 1 (b2n (d.latch part).isSome)
      ++ leBytes 1 (b2n (d.keep.slot == some part)) ++ leBytes 4 (d.recordSeq part) ++ leBytes 4 (d.manifest part 0 4 8)
      ++ leBytes 4 (d.manifest part 1 4 8) ++ leBytes 1 (sv 0) ++ leBytes 1 (sv 1))
  else
    let sv (i : Nat) : Nat := match d.keep.slot with
      | some r => d.svn r i
      | none => 0
    d.ok tag true (leBytes 2 (sv 0) ++ leBytes 2 (sv 1) ++ leBytes 1 (d.arbCount 0) ++ leBytes 1 (d.arbCount 1)
      ++ leBytes 1 (d.rd Reg.ARB_CNT.REVOKED) ++ leBytes 1 (d.keep.slot.getD 0xFF))

/-- SEC_CERT (R540). -/
def runSecCert (tag : Nat) (d : Device) : Device :=
  let cert := (Config.deviceCert ++ Config.caCert).take 2048
  (d.engineWrite ((d.entryOf tag).p 4 0) cert).ok tag false
    (leBytes 2 cert.length ++ leBytes 2 0 ++ leBytes 8 Config.deviceUid.toNat)

/-- IMG_QUERY (R545). -/
def execImgQuery (e : Entry) (s : State) : Host.Outcome State Fault Refusal :=
  s.devStep (Device.submit 0x0C01 runImgQuery e)
/-- IMG_WRITE (R535). -/
def execImgWrite (e : Entry) (s : State) : Host.Outcome State Fault Refusal := s.devStep (Device.submit 0x0C02 runImg e)
/-- IMG_COPY (R535). -/
def execImgCopy (e : Entry) (s : State) : Host.Outcome State Fault Refusal := s.devStep (Device.submit 0x0C03 runImg e)
/-- IMG_VERIFY (R545). -/
def execImgVerify (e : Entry) (s : State) : Host.Outcome State Fault Refusal := s.devStep (Device.submit 0x0C04 runImg e)
/-- IMG_ACTIVATE (R537). -/
def execImgActivate (e : Entry) (s : State) : Host.Outcome State Fault Refusal := s.devStep (Device.submit 0x0C05 runImg e)
/-- IMG_CONFIRM (R538). -/
def execImgConfirm (e : Entry) (s : State) : Host.Outcome State Fault Refusal := s.devStep (Device.submit 0x0C06 runImg e)
/-- SEC_CERT (R540). -/
def execSecCert (e : Entry) (s : State) : Host.Outcome State Fault Refusal := s.devStep (Device.submit 0x0C07 runSecCert e)

end Sys2Proof.Machine
end

