-- ==== Sys2Proof/Machine/Power.lean ====
section
/-! DEFINITION. Power modes: MODE_SET step by step, deferral, the entry to GRAIN, wakes and excursions (chapter 11). -/
namespace Sys2Proof.Machine

/-! ### Clocks (R335, Table 11.1) -/

/-- The domains that Table 11.1 permits in a mode, bit d for CDd. -/
def clkPermitted (mode : Nat) : Nat :=
  let has (d : Nat) : Bool :=
    if d = 0 || d = 16 || d = 58 || d = 59 then true
    else if d = 54 then false
    else if mode = 0 then false
    else if d = 5 || d = 6 || d = 18 || d = 19 || (55 ≤ d && d ≤ 57) then mode == 3
    else if d = 4 || d = 7 || d = 8 || (10 ≤ d && d ≤ 13) || (20 ≤ d && d ≤ 51) then decide (2 ≤ mode)
    else true
  (List.range 60).foldl (fun m d => if has d then m + 2 ^ d else m) 0

/-- The function of domain `c` asks for its clock (R336); the processors, the bus and the event fabric always do.
`other` tells of the domains whose requests no rule names. -/
def Device.clkAsked (d : Device) (other : BitVec 60) (c : Nat) : Bool :=
  if c ≤ 3 || c = 53 || c = 59 then true
  else if c = 4 then d.power.motion
  else if c = 5 then d.on Reg.NE_CTRL.EN
  else if c = 6 then d.on Reg.BM_CTRL.EN || (List.range 2).any (fun k => d.on Reg.CD_CFG.EN k || d.on Reg.CAM_CTRL.EN k)
  else if c = 7 || c = 8 then d.rd Reg.USB_STAT.STATE != 0
  else if c = 9 then d.on Reg.CYC_CTRL.EN
  else if 10 ≤ c ∧ c < 14 then d.on Reg.SPM_CTRL.EN (c - 10)
  else if c = 15 then d.on Reg.ADC_CTRL.SCAN_EN || d.adc.converting || d.adc.urgent.isSome
  else if c = 16 || c = 58 then d.on Reg.AUD_CTRL.AUD_EN
  else if c = 18 || c = 19 then d.on Reg.CAM_CTRL.EN (c - 18)
  else if 20 ≤ c ∧ c < 52 then d.lstate ((c - 20) % 16) != 0 && d.lstate ((c - 20) % 16) != 7
  else if c = 52 then (List.range 6).any (fun f => d.on Reg.FAN_CTRL.EN f)
  else if c = 55 then d.on Reg.FUS_CTRL.EN
  else if c = 56 || c = 57 then d.on Reg.CAM_CTRL.EN (c - 56)
  else other.getLsbD c

/-- CLK_STAT shows the domains that the mode permits and a function asks for (R335 to R337). -/
def Device.showClocks (d : Device) : Device :=
  let (k, d) := d.draw
  let asked := (List.range 60).foldl (fun m c => if d.clkAsked (Config.clkRequests k) c then m + 2 ^ c else m) 0
  let v := asked &&& clkPermitted d.mode
  (d.wr Reg.CLK_STAT_L.RUN 0 v).wr Reg.CLK_STAT_H.RUN 0 (v / 2 ^ 32)

/-! ### Conditions of a downward step (Table 11.2) -/

/-- USB is attached and not suspended (R275). -/
def Device.usbActive (d : Device) : Bool := d.rd Reg.USB_STAT.STATE != 0 && d.rd Reg.USB_STAT.STATE != 5

/-- Another task is in flight, a store task excepted; or an enabled completion ring RG001 to RG015 holds unconsumed or
held completions. -/
def Device.outstanding (d : Device) : Bool :=
  d.sched.tasks.any (fun t => some t.tag != d.power.task && t.op != 0x0B01)
  || (List.range 8).any (fun q => d.ringOn (2 * q + 1)
      && (d.ringCount (2 * q + 1) != 0 || d.sched.held.any (fun h => h.pair == q)))

/-- The CAUSE for which the step down to mode `g` is refused, if any. -/
def Device.stepRefused (d : Device) (g : Nat) : Option Nat :=
  if g = 2 then none
  else if !d.allQuiet then some 1
  else if d.usbActive then some 2
  else if g = 0 ∧ d.outstanding ∧ d.power.excursion.isNone then some 3
  else none

/-- A store or an append runs; before GRAIN the record's queue empties too (Table 17.11). -/
def Device.keepRuns (d : Device) (g : Nat) : Bool :=
  d.keep.store.isSome
  || (!d.keep.queue.isEmpty && (g == 0 || (d.mramReady && d.recordRoom)))

/-- DEFER_CAUSE of the step down to mode `g`: bit 0 a store or an append, bit 1 a phrase. -/
def Device.deferCause (d : Device) (g : Nat) : Nat :=
  b2n (decide (g ≤ 1) && d.keepRuns g) + 2 * b2n d.audio.seg.isSome

/-! ### Steps -/

/-- FORCE of the MODE_SET under way. -/
def Device.modeForce (d : Device) : Bool := match d.power.task with
  | some tag => (d.entryOf tag).flag 1 0
  | none => false

/-- Axis retention (R166, Table 11.3): 32 bytes per axis. -/
def Device.retainAxes (d : Device) : Device :=
  d.each 64 (fun n d =>
    d.put (0x1000C000 + 32 * n) (posBytes (d.posNow n) ++ leBytes 3 ((d.ax n).acc.toNat % 2 ^ 24)
      ++ leBytes 2 (d.rd Reg.ANGLE_OFS.OFS n) ++ leBytes 1 (d.rd Reg.AX_STAT.POS_STATE n)))

/-- What the step down to mode `g` stops as it begins (Table 11.2). -/
def Device.stepStops (d : Device) (g : Nat) : Device :=
  if g = 2 then (d.perceptionOff).fusionOff
  else if g = 1 then
    let d := d.each 16 (fun t d => if d.lstate t = 0 then d else d.stopLink t)
    (d.finishTiles.retainAxes).modPower (fun p => { p with qeWake := 0 })
  else d.adcIntoGrain.modPower (fun p => { p with qeWake := 0 })

/-- The step down to the next mode begins; one that changes the bus clock first waits until SCS_N is high (R269). -/
def Device.enterStep (d : Device) : Device :=
  let g := d.mode - 1
  let d := (d.wr Reg.PWR_STAT.TARGET 0 (modeCode d.power.target)).wr Reg.PWR_STAT.DEFER_CAUSE 0 0
  let d := d.modAudio (fun a => { a with deferring := false })
  if d.cyclic.frozen ∧ g ≤ 1 then d.modPower (fun p => { p with step := .ready, goal := g })
  else ((d.modPower (fun p => { p with step := .entering, goal := g })).stepStops g).refreshSrdy

/-- The step waits for its causes (R343). -/
def Device.deferStep (d : Device) (cause : Nat) : Device :=
  let g := d.mode - 1
  let fresh := d.power.step != .deferred
  let d := d.modPower (fun p => { p with step := .deferred, goal := g, deferred := p.deferred ||| cause })
  let d := (d.wr Reg.PWR_STAT.TARGET 0 (modeCode d.power.target)).wr Reg.PWR_STAT.DEFER_CAUSE 0 cause
  let d := if fresh then d.pwrEvt 1 else d
  if bitOf cause 1 && !d.audio.deferring then
    (((d.modAudio (fun a => { a with deferring := true })).modSeg (fun g => { g with deferred := true })).audEvt 6)
  else d

/-- FORCE ends a phrase that would defer the step down to mode `g` (R343, R447). -/
def Device.endPhrase (d : Device) (g : Nat) : Device :=
  if d.modeForce && bitOf (d.deferCause g) 1 then d.verdict 2 else d

/-- The next downward step toward the target: refused, deferred or begun (R342, R343). FORCE ends a phrase that would
defer it. `refused` is the status of a MODE_SET that is refused. -/
def Device.lower (d : Device) (refused : Status) : Device :=
  let g := d.mode - 1
  match d.stepRefused g with
  | some c =>
    if d.power.excursion.isSome then d.stopSteps else (d.endMode refused (refused == .busyMoving) c).stopSteps
  | none =>
    let d := d.endPhrase g
    if d.deferCause g = 0 then d.enterStep else d.deferStep (d.deferCause g)

/-- The mode the device rises to: the target of a MODE_SET, or the highest of the wake sources (R349). -/
def Device.riseTo (d : Device) : Nat := max d.power.target d.power.wakeGoal

/-- A step has been made: the next one, or the end of the MODE_SET. In GRAIN, and while an excursion lasts, the
MODE_SET that led to GRAIN stays in flight. -/
def Device.nextStep (d : Device) : Device :=
  let p := d.power
  if d.mode < d.riseTo then d.beginRise
  else if p.target < d.mode ∧ p.wakeGoal = 0 then d.lower .busyMoving
  else
    let d :=
      if d.mode = 0 || d.power.excursion.isSome then d
      else if p.abandoned then (d.endMode .aborted false 5).modPower (fun p => { p with abandoned := false })
      else d.endMode d.modeStatus false 0
    d.stopSteps

/-! ### MODE_SET and MODE_QUERY -/

/-- A mode change is under way, or the device is in GRAIN. -/
def Device.modeBusy (d : Device) : Bool := d.power.step != .none || d.power.task.isSome

/-- A MODE_SET begins (R342, R358). It ends an excursion from DOZE. -/
def Device.beginMode (d : Device) (tag : Nat) : Device :=
  let t := (d.entryOf tag).p 1 0 % 4
  let d := d.turnNormal.modPower (fun p => { p with
    task := some tag, fromMode := d.mode, target := t, deferred := 0, micros := 0, excursions := 0, wakeLate := false,
    wakeGoal := 0, abandoned := false })
  if t = d.mode then d.endMode .ok true 0 else d.nextStep

/-- The next MODE_SET in order begins once none is under way. -/
def Device.nextMode (d : Device) : Device :=
  Device.startQueued [0x0110] Device.modeBusy (fun tag d => d.beginMode tag) d.sched.tasks.length d

/-- MODE_QUERY (Table 11.7). -/
def runModeQuery (tag : Nat) (d : Device) : Device :=
  let waits := d.power.step == .deferred || d.power.step == .ready
  let d := d.showClocks
  d.ok tag true (leBytes 1 (modeCode d.mode) ++ leBytes 1 (if waits then modeCode d.power.target else 0)
    ++ leBytes 1 (d.rd Reg.PWR_STAT.DEFER_CAUSE) ++ [0]
    ++ leBytes 8 (d.rd Reg.CLK_STAT_L.RUN + 2 ^ 32 * d.rd Reg.CLK_STAT_H.RUN)
    ++ leBytes 2 (d.rd Reg.WAKE_REASON.REASON) ++ leBytes 1 (d.rd Reg.BO_STAT.OK))

/-- A MODE_SET that waits is cancelled: no step is made (Table 11.9). -/
def Device.cancelMode (d : Device) (tag : Nat) : Device :=
  if d.power.task = some tag ∧ d.power.step = .deferred then
    let d := d.endMode .cancelled true 0
    ((d.modAudio (fun a => { a with deferring := false })).stopSteps).nextMode
  else d

/-- MODE_QUERY (R358). -/
def execModeQuery (e : Entry) (s : State) : Host.Outcome State Fault Refusal :=
  s.devStep (Device.submit 0x0111 runModeQuery e)

/-- The last deferral condition has ended: the step is checked again (R343). -/
def Device.deferralEnd (d : Device) : Device :=
  if d.power.step ≠ .deferred then d
  else
    let d := d.endPhrase (d.mode - 1)
    if d.deferCause (d.mode - 1) ≠ 0 then d.deferStep (d.deferCause (d.mode - 1)) else d.lower .aborted

/-- SCS_N is high: a step that waited for it is checked once more and made (R269, R342). -/
def Device.stepFreed (d : Device) : Device :=
  if d.power.step = .ready then (d.lower (if d.power.deferred = 0 then .busyMoving else .aborted)).nextMode else d

/-- A MODE_SET with FORCE, taken while a step waits for a phrase, ends the analysis (R447). -/
def Device.forced (d : Device) (tag : Nat) : Device :=
  if (d.entryOf tag).flag 1 0 && d.audio.deferring then (d.verdict 2).deferralEnd.nextMode else d

/-- A MODE_SET waits while another is under way, and is checked after it (R360). -/
def runModeSet (tag : Nat) (d : Device) : Device :=
  if d.modeBusy then (d.queueLong tag).forced tag else d.beginMode tag

/-- MODE_SET (R342). -/
def execModeSet (e : Entry) (s : State) : Host.Outcome State Fault Refusal :=
  s.devStep (Device.submit 0x0110 runModeSet e)
/-- MODE_DEFERRAL_END (R343). -/
def execModeDeferralEnd (s : State) : Host.Outcome State Fault Refusal := s.devStep (fun d => d.deferralEnd.nextMode)

/-! ### The end of a step (R269, R341, R347, R348) -/

/-- The device is in mode `m` (1 to 3) from now on. -/
def Device.setMode (d : Device) (m : Nat) : Device :=
  ((d.wr Reg.PWR_STAT.MODE 0 m).wr Reg.MACHINE_STAT.MOTION_ON 0 (b2n (decide (2 ≤ m)))).pwrEvt 0

/-- DOZE has been reached from RUN: every link is DOWN and CD04 stops. -/
def Device.reachDoze (d : Device) : Device :=
  let d := d.each 16 (fun t d => if d.lstate t = 0 then d else d.setLstate t 0)
  (d.setMode 1).stopMotionClock

/-- RUN has been reached from DOZE: CD04 starts, and every enabled link leaves DOWN (R348). -/
def Device.reachRun (d : Device) : Device :=
  let d := (d.setMode 2).startMotionClock
  d.each 16 (fun t d => if d.on Reg.TL_CTRL.EN t && d.lstate t == 0 then d.startLink t else d)

/-- The entry to GRAIN is complete (R344): a wake that latched since the commit point leaves it at once. -/
def Device.reachGrain (d : Device) : Device :=
  let back := d.power.excursion.isSome
  let d := (d.modPower (fun p => { p with
    step := .none, excursion := none, excursions := p.excursions + b2n back })).pwrEvt 0
  if d.power.wakeLate then (d.modPower (fun p => { p with wakeLate := false })).beginRise
  else (d.wr Reg.PWR_STAT.TARGET 0 0)

/-- The step under way ends, `micros` after it began. -/
def Device.modeStepDone (d : Device) (micros : Nat) : Device :=
  if d.cyclic.frozen && d.changesBusClock then d
  else
    let g := d.power.goal
    match d.power.step with
    | .none => d
    | .deferred => d
    | .ready => d
    | .committed => (d.modPower (fun p => { p with micros := p.micros + micros })).reachGrain
    | .entering =>
      let d := d.modPower (fun p => { p with micros := p.micros + micros })
      if g = 0 then d
      else
        let d := if g = 2 then d.setMode 2 else d.reachDoze
        let d := if d.power.excursion = some g then
            d.modPower (fun p => { p with excursion := none, excursions := p.excursions + 1 }) else d
        d.showClocks.nextStep
    | .rising =>
      let d := d.modPower (fun p => { p with micros := if p.target = 0 then p.micros else p.micros + micros })
      if g = 2 then (d.reachRun.showClocks).nextStep
      else if g = 3 then (((d.setMode 3).perceptionOn).fusionOn.showClocks).nextStep
      else d

/-- MODE_STEP_DONE (R347). -/
def execModeStepDone (micros : BitVec 32) (s : State) : Host.Outcome State Fault Refusal :=
  s.devStep (fun d => (d.modeStepDone micros.toNat).nextMode)

/-- MACHINE_STAT of the machines that GRAIN stops (Table 1.5). -/
def Device.machines (d : Device) (on : Bool) : Device :=
  ((d.wr Reg.MACHINE_STAT.SENSE_ON 0 (b2n on)).wr Reg.MACHINE_STAT.HOST_ON 0 (b2n on)).wr Reg.MACHINE_STAT.KEEP_ON 0 (b2n on)

/-- The commit point of an entry to GRAIN (R344, R345): what GRAIN does not keep is lost. The return of an excursion
that has turned into a normal wake ends before it (R350). -/
def Device.commitPoint (d : Device) : Device :=
  if d.power.step ≠ .entering ∨ d.power.goal ≠ 0 ∨ d.cyclic.frozen then d
  else if d.power.target ≠ 0 then d.adcOutOfGrain.nextStep
  else
    let again := d.power.excursion.isSome
    let now := d.grain
    let d := d.markCd03.modPower (fun p => { p with
      grain := true, step := .committed, commitAt := if again then p.commitAt else now, wakeGoal := 0 })
    let d := { d with mem := d.mem.filter (fun c => !inSram c.1 || c.1 < 0x10040000) }
    let d := (d.machines false).fansIntoGrain.showClocks
    d.refreshSrdy.refreshInts

/-- GRAIN_COMMIT_POINT (R344). -/
def execGrainCommitPoint (s : State) : Host.Outcome State Fault Refusal := s.devStep Device.commitPoint

/-- The exit from GRAIN to DOZE (R347, R348, R384, R424, R488). In an excursion the host paths stay off (R350). -/
def Device.leaveGrain (d : Device) : Device :=
  if !d.power.grain || d.power.step != .rising then d
  else
    let now := d.grain
    let d := (d.modPower (fun p => { p with grain := false, cdGrain := now })).wr Reg.PWR_STAT.MODE 0 1
    let d := ((d.machines true).pwrEvt 0).showClocks
    let d := ((d.adcOutOfGrain).fansOutOfGrain).emptyHandles
    let d := if d.power.excursion.isSome then d else d.hostReturns
    (d.refreshInts).nextStep

/-- GRAIN_EXIT (R348). -/
def execGrainExit (s : State) : Host.Outcome State Fault Refusal := s.devStep (fun d => d.leaveGrain.nextMode)

/-! ### Wakes (R344, R349, R350, R353, R354) -/

/-- Sources among the wake reasons, and the mode each raises to (Table 11.5); TARGET 0 acts as 1. -/
def Device.wakeMode (d : Device) (source : Nat) : Option Nat :=
  if source = 0 then some 3
  else if source = 4 then some 2
  else if source = 2 || source = 3 || (5 ≤ source && source ≤ 7) then some (max 1 (d.rd Reg.WAKE_CFG.TARGET))
  else none

/-- A latched source whose enable lets it raise the mode; USB acts as enabled while the port exists (R275). -/
def Device.wakeActs (d : Device) (source : Nat) : Bool :=
  bitOf (d.rd Reg.WAKE_REASON.REASON) source
  && (bitOf (d.rd Reg.WAKE_EN.EN) source || (source == 4 && d.on Reg.USB_CTRL.PRESENT))

/-- The sources latched besides VAD: none of them leaves a VAD wake an excursion (R350). -/
def Device.onlyVad (d : Device) : Bool :=
  (List.range 8).all (fun s => s == 0 || (d.wakeMode s).isNone || !bitOf (d.rd Reg.WAKE_REASON.REASON) s)

/-- A wake abandons the entry (R344): what the step under way had stopped starts again, and the device returns to the
mode in which the MODE_SET was taken, or to the wake's if that is higher. -/
def Device.abandonEntry (d : Device) (m : Nat) : Device :=
  let g := d.power.goal
  let entering := d.power.step == .entering
  let d := (d.pwrEvt 2).modPower (fun p => { p with
    abandoned := true, step := .none, target := max p.fromMode m, wakeGoal := 0 })
  let d := d.modAudio (fun a => { a with deferring := false })
  let d := if !entering then d
    else if g = 2 then (d.perceptionOn).fusionOn
    else if g = 1 then d.each 16 (fun t d => if d.on Reg.TL_CTRL.EN t then d.startLink t else d)
    else d.adcOutOfGrain
  d.nextStep

/-- A wake raises the device from rest in a mode. -/
def Device.raiseFrom (d : Device) (source m : Nat) : Device :=
  let excursion := source == 0 && d.onlyVad && d.on Reg.WAKE_CFG.VAD_RETURN
  let from' := d.mode
  let now := d.grain
  let d := d.modPower (fun p => { p with
    wakeGoal := m, target := from', wakeAt := now, excursion := if excursion then some from' else p.excursion })
  let d := if excursion then d.pwrEvt 3 else d
  if d.power.step = .committed then d.modPower (fun p => { p with wakeLate := true }) else d.beginRise

/-- A wake to mode `m` (R344, R349): from rest it raises the device; on the way up it raises the goal; it abandons an
entry to DOZE or GRAIN before the commit point, and follows one past it or a step to RUN. A VAD wake leaves the
return of its own excursion alone. -/
def Device.wakeTo (d : Device) (source m : Nat) : Device :=
  let p := d.power
  let abandon : Device := if p.target ≤ 1 ∧ p.excursion.isNone then d.abandonEntry m else d
  let further : Device := d.modPower (fun p => { p with wakeGoal := max p.wakeGoal m })
  match p.step with
  | .rising => further
  | .committed => if p.wakeLate then further else d.raiseFrom source m
  | .entering => if p.target = 2 then further else abandon
  | .deferred => abandon
  | .ready => abandon
  | .none => if d.mode < m then d.raiseFrom source m else d

/-- A source has latched (R349); any but VAD ends an excursion (R350). -/
def Device.wake (d : Device) (source : Nat) : Device :=
  match d.wakeMode source with
  | none => d
  | some m => if d.wakeActs source then (if source = 0 then d else d.turnNormal).wakeTo source m else d

/-- WAKE_SOURCE (R349). -/
def execWakeSource (source : Fin 16) (s : State) : Host.Outcome State Fault Refusal :=
  s.devStep (fun d => (d.wake source).nextMode)

/-- GRAIN_CNT stands at GRAIN_ALARM with ALARM_EN set: ALARM latches (R353). -/
def Device.grainAlarm (d : Device) : Device :=
  if d.on Reg.WAKE_CFG.ALARM_EN && d.grain == d.rd Reg.GRAIN_ALARM_L.ALARM + 2 ^ 32 * d.rd Reg.GRAIN_ALARM_H.ALARM
  then d.wakeLatch 2 else d

/-- GRAIN_ALARM (R353). -/
def execGrainAlarm (s : State) : Host.Outcome State Fault Refusal := s.devStep Device.grainAlarm

/-- QE_SEL has moved by QE_THR counts since entry to GRAIN or DOZE: QE latches (R353, R354). -/
def Device.qeWakeDue (d : Device) : Device :=
  if d.mode ≤ 1 ∧ max 1 (d.rd Reg.WAKE_CFG.QE_THR) ≤ d.power.qeWake.natAbs then
    (d.wakeLatch 7).modPower (fun p => { p with qeWake := 0 })
  else d

/-- QE_WAKE_COUNT (R354). -/
def execQeWakeCount (s : State) : Host.Outcome State Fault Refusal := s.devStep Device.qeWakeDue

/-- An excursion with the verdict NO_HIT returns to the mode it left, through the steps of Table 11.2; with another
verdict, or VAD_RETURN 0, it is a normal wake (R350). -/
def Device.excursionReturn (d : Device) : Device :=
  match d.power.excursion with
  | none => d
  | some m =>
    if d.power.step ≠ .none ∨ d.audio.seg.isSome ∨ d.mode ≤ m then d
    else if d.audio.verdict ≠ 0 ∨ !d.on Reg.WAKE_CFG.VAD_RETURN then d.turnNormal
    else (d.modPower (fun p => { p with target := m, wakeGoal := 0 })).lower .busyMoving

/-- EXCURSION_RETURN (R350). -/
def execExcursionReturn (s : State) : Host.Outcome State Fault Refusal :=
  s.devStep (fun d => d.excursionReturn.nextMode)

end Sys2Proof.Machine
end

