-- ==== Sys2Proof/Machine/Reset.lean ====
section
/-! DEFINITION. Supplies, clocks that fail, POR and DEVRST (chapters 10, 11, 20 and 21). -/
namespace Sys2Proof.Machine

/-! ### What DEVRST keeps (R8, R330) -/

/-- The field a key belongs to, with its register index. -/
def fieldOfKey (k : Nat) : Option (Field × Nat) :=
  (fieldsAt (keyAddr k)).find? (fun p => p.1.lsb == k % 32)

/-- A field that DEVRST keeps. -/
def keptKey (k : Nat) : Bool := match fieldOfKey k with
  | some (f, i) => f.keep i
  | none => false

/-- The tags in flight go to LOST and LOST_IDEM (R235). -/
def Device.loseTasks (d : Device) : Device :=
  d.sched.tasks.foldl (fun d t =>
    let g := t.tag / 32
    let b := t.tag % 32
    let lost := d.rd Reg.LOST.MASK g
    let idem := d.rd Reg.LOST_IDEM.MASK g
    let keeps := bitOf t.entry.flags.toNat 0 && (bitOf idem b || !bitOf lost b)
    (d.wr Reg.LOST.MASK g (setBitOf lost b)).wr Reg.LOST_IDEM.MASK g (if keeps then setBitOf idem b else clrBitOf idem b)) d

/-- GPIO_IN and USB_STAT.VBUS show the balls. -/
def Device.showPads (d : Device) : Device :=
  let g := d.pads.gpio.toNat
  ((d.wr Reg.GPIO_IN_L.IN 0 g).wr Reg.GPIO_IN_H.IN 0 (g / 2 ^ 32)).wr Reg.USB_STAT.VBUS 0 (b2n d.pads.vbus)

/-- Registers after DEVRST: fields marked kept stay, the comparators show the supplies, what shows a ball that, and
LOST_VALID stands if any tag is in LOST (Table 7.10). -/
def Device.resetRegs (d : Device) : Device :=
  let ok := d.rd Reg.BO_STAT.OK
  let d := { d with regs := d.regs.drop (fun k => !keptKey k) }
  let lost := (List.range 4).any (fun g => d.rd Reg.LOST.MASK g != 0)
  ((d.showPads.wr Reg.BO_STAT.OK 0 ok).wr Reg.MB_EVT.CAUSE 0 (if lost then 64 else 0)).refreshQueue

/-- The scruples over DEVRST: occurrence times and latches stay, effects end (R555, R570); the restart of the cyclic
port clears the count of its refused frames (R268). -/
def Events.restart (v : Events) : Events :=
  { Events.reset with units := v.units.map (fun (x : ScrUnit) =>
      { x with due := false, inForce := false, times := if x.cls = 0x09 then [] else x.times }) }

/-- The power machine over DEVRST: the loop-period count, the crystal and the lines stay. -/
def Power.restart (p : Power) : Power :=
  { Power.reset with
    loops := p.loops, recLoops := p.recLoops, recGrain := p.recGrain, crystal := p.crystal, cold := p.cold
    devrst := true, por := p.por, rstN := p.rstN, test := p.test, coreOk := p.coreOk, ioOk := p.ioOk
    ioWarn := p.ioWarn }

/-- The keeping machine over DEVRST: nothing runs; the queue, the latches and the GC's image stay. -/
def Keep.restart (k : Keep) : Keep := { k with store := none, img := none, slot := none }

/-- DEVRST is asserted (R8, R12, R330, R331): everything outside the grain domain takes its reset state. -/
def Device.assertDevrst (d : Device) : Device :=
  if d.power.devrst then d
  else
    let d := (d.loseTasks.tearInFlight.stopMotionClock).resetRegs
    { Device.reset with
      regs := d.regs, busRead := d.busRead, mem := d.mem, tables := d.tables, events := d.events.restart
      power := d.power.restart, sensors := d.sensors.take 1 ++ Device.reset.sensors.drop 1
      keep := d.keep.restart, pads := d.pads, console := { Device.reset.console with log := d.console.log }
      free := d.free }

/-- A reset source acts, and its wake reason latches (R353, Table 11.5). -/
def Device.resetBy (d : Device) (bit : Nat) : Device := d.assertDevrst.wakeLatch bit

/-- SRAM outside the retention area loses its content with the core supply. -/
def Device.dropCore (d : Device) : Device := { d with mem := d.mem.filter (fun c => !inSram c.1 || c.1 < 0x10040000) }

/-- Set or clear a comparator bit of BO_STAT. -/
def Device.comparator (d : Device) (bit : Nat) (v : Bool) : Device :=
  let x := d.rd Reg.BO_STAT.OK
  d.wr Reg.BO_STAT.OK 0 (if v then setBitOf x bit else clrBitOf x bit)

/-- BO_STAT shows VDD_MRAM, the machine keeps VDDIO_A; a boot waits only for VDD_MRAM (Table 11.6, R611). -/
def Device.showSupplies (d : Device) (io mram : Bool) : Device :=
  (d.comparator 4 (!mram)).modPower (fun p => { p with ioWarn := io, bootWaits := p.bootWaits && mram })

/-- VDDIO_A and VDD_MRAM are below their warning thresholds or not (R355). With one of them below, BO_WARN: a store ends at
its safe point and MRAM writes are refused. With neither, BO_WARN ends and BO_CLEAR is latched. -/
def Device.warn (d : Device) (io mram : Bool) : Device :=
  let fresh := !d.boWarn
  let d := d.showSupplies io mram
  if io || mram then
    let d := d.comparator 3 true
    let d := if fresh then
        ((d.count Reg.BO_CNT.COUNT).wr Reg.BO_STAT.BO_WARN_SEEN 0 1).pwrEvt 4 else d
    (d.stopStore 1).stopImage 1
  else if fresh then d else (d.comparator 3 false).pwrEvt 5

/-- VDD_MRAM is below its warning threshold, as BO_STAT shows. -/
def Device.mramLow (d : Device) : Bool := !bitOf (d.rd Reg.BO_STAT.OK) 4

/-- A supply falls below its reset threshold (Table 11.6). VDDIO_A is then below its warning threshold too. -/
def Device.brownOut (d : Device) (supply : ResetSupply) : Device :=
  match supply with
  | .vddCore =>
    ((d.assertDevrst.comparator 1 false).dropCore).modPower (fun p => { p with coreOk := false })
  | .vddioA =>
    let d := d.resetBy 8
    ((d.warn true d.mramLow).comparator 2 false).modPower (fun p => { p with ioOk := false })

/-- BROWN_OUT_RESET (R355). -/
def execBrownOutReset (supply : ResetSupply) (s : State) : Host.Outcome State Fault Refusal :=
  s.devStep (fun d => if d.power.por then d else d.brownOut supply)

/-- A cause of Table 11.5 asserts DEVRST. -/
def Device.resetCause (d : Device) (cause : ResetCause) : Device :=
  match cause with
  | .rstN => d.resetBy 11
  | .deviceReset => d.resetBy 12
  | .test => d.assertDevrst
  | .coreBrownOut => d.brownOut .vddCore
  | .ioBrownOut => d.brownOut .vddioA
  | .clkFail => d.resetBy 14
  | .watchdog => d.resetBy 10

/-- DEVRST_ASSERT (R330). -/
def execDevrstAssert (cause : ResetCause) (s : State) : Host.Outcome State Fault Refusal :=
  s.devStep (fun d => if d.power.por then d else d.resetCause cause)

/-- RST_N_LOW (R586): an accepted level of RST_N; low asserts DEVRST, which holds while it stays low. -/
def execRstNLow (level : Bool) (s : State) : Host.Outcome State Fault Refusal :=
  s.devStep (fun d =>
    let d := if level || d.power.por then d else d.resetBy 11
    d.modPower (fun p => { p with rstN := level }))

/-- TEST_HIGH (R588): DEVRST is held while TEST is high, and no wake reason latches. -/
def execTestHigh (level : Bool) (s : State) : Host.Outcome State Fault Refusal :=
  s.devStep (fun d => (if level && !d.power.por then d.assertDevrst else d).modPower (fun p => { p with test := level }))

/-- REFCLK_FAIL (R338): REFCLK runs in every mode but GRAIN. -/
def execRefclkFail (s : State) : Host.Outcome State Fault Refusal :=
  s.devStep (fun d => if d.power.grain || d.power.devrst then d else d.resetBy 14)

/-- AP_WATCHDOG_EXPIRY (R340). -/
def execApWatchdogExpiry (s : State) : Host.Outcome State Fault Refusal :=
  s.devStep (fun d => if d.power.grain || d.power.devrst then d else d.resetBy 10)

/-! ### Warnings and the grain clock (R339, R355, R357, R607, R608) -/

/-- BROWN_OUT_WARN (R355). -/
def execBrownOutWarn (low : WarnSupply) (s : State) : Host.Outcome State Fault Refusal :=
  s.devStep (fun d => d.warn (low != .vddMram) (low != .vddioA))

/-- BO_CLEAR (R355). -/
def execBoClear (s : State) : Host.Outcome State Fault Refusal := s.devStep (fun d => d.warn false false)

/-- VDDA_LOW (R355): VDDA falls below or rises above its threshold; a conversion in progress notes it (R372). -/
def execVddaLow (low : Bool) (s : State) : Host.Outcome State Fault Refusal :=
  s.devStep (fun d =>
    (d.comparator 5 (!low)).modAdc (fun a => { a with vddaSeen := a.vddaSeen || (low && a.converting) }))

/-- The device runs the grain domain on the substitute clock and reports it. -/
def Device.substituteClock (d : Device) : Device :=
  ((d.wr Reg.PWR_STAT.GRAIN_CLK_SUBST 0 1).wakeLatch 14).pwrEvt 6

/-- GRAIN_CLOCK_SUBSTITUTE (R339). -/
def execGrainClockSubstitute (s : State) : Host.Outcome State Fault Refusal :=
  s.devStep (fun d =>
    if d.power.crystal then (d.modPower (fun p => { p with crystal := false })).substituteClock else d)

/-- GRAIN_CRYSTAL_LOCK (R607): the 4096th edge of the crystal has passed. -/
def execGrainCrystalLock (s : State) : Host.Outcome State Fault Refusal :=
  s.devStep (fun d =>
    if d.power.por then d
    else (d.wr Reg.PWR_STAT.GRAIN_CLK_SUBST 0 0).modPower (fun p => { p with crystal := true }))

/-- GRAIN_CRYSTAL_TIMEOUT (R608): 2.0 s after POR the crystal has not locked. -/
def execGrainCrystalTimeout (s : State) : Host.Outcome State Fault Refusal :=
  s.devStep (fun d => if d.power.crystal || d.power.por then d else d.substituteClock)

/-- GC_RESTART (R353): the grain image restarted by its own watchdog. -/
def execGcRestart (s : State) : Host.Outcome State Fault Refusal := s.devStep (fun d => d.wakeLatch 15)

/-! ### POR and the releases (R8, R589, R613) -/

/-- POR (R8, R330, Table 10.4): everything but MRAM, the fuses and the pads takes its POR value. -/
def Device.powerOn (d : Device) : Device :=
  let d := d.tearInFlight
  let d' := { Device.reset with
    mem := d.mem.filter (fun c => inMram c.1), busRead := d.busRead, pads := d.pads, free := d.free
    keep := { Keep.reset with boots := d.keep.boots }
    power := { Power.reset with
      devrst := true, por := true, rstN := d.power.rstN, test := d.power.test, ioWarn := d.power.ioWarn } }
  (d'.showPads.wr Reg.BO_STAT.OK 0 (d.rd Reg.BO_STAT.OK)).comparator 0 false

/-- VBAT_LOW (R355): POR is held while VBAT_GRAIN is below its threshold. -/
def execVbatLow (s : State) : Host.Outcome State Fault Refusal := s.devStep Device.powerOn

/-- POR_RELEASE (R613). -/
def execPorRelease (s : State) : Host.Outcome State Fault Refusal :=
  s.devStep (fun d =>
    if d.power.por then (d.comparator 0 true).modPower (fun p => { p with por := false }) else d)

/-- DEVRST is released: its supplies have returned, the straps are sampled, and the USB port and QP1 exist or not
(R272, R353, R579, R589, R613). -/
def Device.release (d : Device) (straps : Straps) : Device :=
  let p := d.power
  if !p.devrst || p.por || !p.rstN || p.test then d
  else
    let d := d.modPower (fun p => { p with devrst := false, coreOk := true, ioOk := true })
    let d := (d.comparator 1 true).comparator 2 true
    let d := if p.ioOk then d else d.warn false d.mramLow
    let d := if p.coreOk then d else d.wakeLatch 13
    let st : Straps := { straps with vddioBHi := if p.cold then straps.vddioBHi else d.pads.straps.vddioBHi }
    let d := { d with pads := { d.pads with straps := st } }
    let d := ((d.wr Reg.PAD_STAT.USB_EN 0 (b2n st.usbEn)).wr Reg.PAD_STAT.BOOTSEL 0 (b2n st.bootsel)).wr
      Reg.PAD_STAT.VDDIO_B_HI 0 (b2n st.vddioBHi)
    let d := d.wr Reg.USB_CTRL.PRESENT 0 (b2n st.usbEn)
    (d.wr Reg.RING_CFG.EN 2 (b2n st.usbEn)).wr Reg.RING_CFG.EN 3 (b2n st.usbEn)

/-- DEVRST_RELEASE (R613). -/
def execDevrstRelease (straps : Straps) (s : State) : Host.Outcome State Fault Refusal :=
  s.devStep (fun d => d.release straps)

end Sys2Proof.Machine
end

