-- ==== Sys2Proof/Machine/UsbPort.lean ====
section
/-! DEFINITION. The attachment of the USB port: its pull-up, its default state and its reset (chapter 09). -/
namespace Sys2Proof.Machine

/-- The port exists (R272). -/
def Device.usbPresent (d : Device) : Bool := d.on Reg.USB_CTRL.PRESENT

/-- The port returns to its default state (R287): messages queued or sent and not acknowledged are forgotten;
completions and stream entries stay in their rings, and an unacknowledged report is sent again (R284). -/
def Device.usbForget (d : Device) : Device :=
  d.modUsb (fun u => { u with ep1 := [], ep1In := none, ep3In := none, ep0 := none, halted := 0, test := 0, sent1 := [], sent3 := []
                              wake := .idle })

/-- The port's state, speed, address and remote-wake feature. -/
def Device.usbState (d : Device) (state : Nat) (hs : Bool) : Device :=
  (((d.wr Reg.USB_STAT.STATE 0 state).wr Reg.USB_STAT.HS 0 (b2n hs)).wr Reg.USB_STAT.ADDR 0 0).wr
    Reg.USB_STAT.RWAKE_FEAT 0 0

/-- The pull-up is applied or released as its conditions say (R272, R274, R297, R615). -/
def Device.usbPull (d : Device) : Device :=
  let want := d.usbPresent && d.on Reg.MB_STAT.MB_READY && d.pads.vbus && !d.on Reg.USB_CTRL.SOFT_DETACH && !d.usb.reattach
  if want == (d.rd Reg.USB_STAT.STATE != 0) then d
  else if want then (d.usbForget.usbState 1 false).usbEvt 0
  else (d.usbForget.usbState 0 false).usbEvt 1

/-- A write of 1 to REINIT (Table 9.7, R330): the FUNC reset of the port's block, detached for 20 ms. -/
def Device.usbReinit (d : Device) : Device :=
  let keep := [Reg.USB_CTRL.PRESENT.key 0, Reg.USB_STAT.VBUS.key 0, Reg.USB_STAT.STATE.key 0, Reg.USB_RWAKE.PEND.key 0,
    Reg.USB_RWAKE.DONE.key 0, Reg.USB_RWAKE_EN.EN.key 0]
  ((d.funcReset 0xD100 0xD200 keep).modUsb (fun _ => { Usb.reset with reattach := true })).usbPull

/-- USB_REATTACH (R297): 20 ms after the detach. -/
def Device.usbAttachAgain (d : Device) : Device := (d.modUsb (fun u => { u with reattach := false })).usbPull

end Sys2Proof.Machine
end

