-- ==== Sys2Proof/Machine/Boot.lean ====
section
/-! DEFINITION. The boot: slot selection, the grain hand-over, the record's head, bank selection and loading, the
known-answer tests, and MB_READY (R505 to R508, R513, R524 to R533, R571, R611). -/
namespace Sys2Proof.Machine

/-! ### Slots (R527, R528) -/

/-- The candidates in order (R527, step 1). -/
def Device.candidates (d : Device) : List Nat :=
  let ok (s : Nat) : Bool := d.recordValid s && d.recordState s != 3
  match ok 0, ok 1 with
  | true, true =>
    let l := if d.recordSeq 0 < d.recordSeq 1 then [1, 0] else [0, 1]
    if d.pads.straps.bootsel then l.reverse else l
  | true, false => [0]
  | false, true => [1]
  | false, false => []

/-- Step 2: a trial that has used its three boots is reverted and dropped; any other trial counts one. -/
def Device.trialStep (d : Device) (cs : List Nat) : Device × List Nat :=
  match cs with
  | [] => (d, [])
  | s :: rest =>
    if d.recordState s ≠ 1 then (d, cs)
    else if d.recordTries s = 3 then
      ((((d.writeRecord s (d.recordSeq s) 3 3).recordImage s 0 2).recordImage s 1 2).imgEvt 3, rest)
    else (d.writeRecord s (d.recordSeq s) 1 (d.recordTries s + 1), cs)

/-- An image's key and counter tests, for a slot whose content was checked before (R528). -/
def Device.shortReason (d : Device) (s i : Nat) : Option Nat :=
  if !d.keyOk s i then some 2 else if !d.current s i then some 5 else none

/-- Step 3 for one candidate: the REASON for which it is not bootable, if any. A full check that passes sets the
verified latch. -/
def Device.checkSlot (d : Device) (s : Nat) : Device × Option Nat :=
  match d.latch s with
  | some h =>
    if d.manifestHash s ≠ h then (d, some 1)
    else (d, minReason (d.shortReason s 0) (d.shortReason s 1))
  | none =>
    match minReason (d.imageReason s 0) (d.imageReason s 1) with
    | some r => (d, some r)
    | none => (d.setLatch s (some (d.manifestHash s)), none)

/-- All candidates checked in turn. -/
def Device.checkSlots (d : Device) (cs : List Nat) : Device × List (Nat × Option Nat) :=
  cs.foldl (fun (p : Device × List (Nat × Option Nat)) s =>
    let (d, r) := p.1.checkSlot s
    (d, p.2 ++ [(s, r)])) (d, [])

/-- What a boot selects: the slot, whether it is RESTRICTED, and WHY (R527, step 4). -/
def Device.selectSlot (d : Device) (rs : List (Nat × Option Nat)) : Option Nat × Bool × Nat :=
  let ok := (rs.filter (fun r => r.2.isNone)).map (·.1)
  match ok.find? (fun s => (d.pairReason s).isNone) with
  | some s => (some s, false, 0)
  | none => match ok with
    | s :: _ => (some s, true, (d.pairReason s).getD 0)
    | [] => (none, true, ((rs.head?.map (·.2)).join).getD 0)

/-- Step 5: the fuses after the counters of a CONFIRMED slot are raised. -/
def Device.bootFuses (d : Device) (slot : Option Nat) (f : Fuses) : Fuses :=
  match slot with
  | some s => if d.recordState s = 2 then f.raise (d.svn s 0) (d.svn s 1) else f
  | none => f

/-- The counters shown, and a raise reported and recorded. -/
def Device.reportRaise (d : Device) (slot : Option Nat) (f g : Fuses) : Device :=
  let d := d.showFuses g
  match slot with
  | some s =>
    let d := if f.host < g.host then (d.recordImage s 0 1).imgEvt 6 else d
    if f.grain < g.grain then (d.recordImage s 1 1).imgEvt 6 else d
  | none => d

/-- The grain hand-over (R530): a grain image that the GC does not run is loaded, and its data area starts anew. -/
def Device.handOver (d : Device) (slot : Option Nat) : Device :=
  match slot with
  | none => d
  | some s =>
    let h := sha256 (d.bytes (manifestAddr s 1) 4096)
    if h = d.keep.gcImage then d
    else
      { d.modKeep (fun k => { k with gcImage := h }) with
        mem := d.mem.filter (fun c => !(0x10014000 ≤ c.1 && c.1 < 0x10030000)) }

/-! ### The record's head (R513) -/

/-- Entry `e` lies in the record and verifies against its predecessor's hash. -/
def Device.entryOk (d : Device) (e : Nat) : Bool :=
  let prev := if e = 0 then List.replicate 32 0 else d.hashOf (e - 1)
  d.ld 4 (entryAddr e) == e && d.hashOf e == sha256 (prev ++ d.bytes (entryAddr e) 32)

/-- The entries that lie in the record, by their line. -/
def Device.entriesKept (d : Device) : List Nat :=
  ((List.range 16384).filter (fun i => d.ld 4 (entryAddr i) % 16384 == i)).map (fun i => d.ld 4 (entryAddr i))

/-- HEAD: one past the highest entry that verifies. -/
def Device.findHead (d : Device) : Nat :=
  (d.entriesKept.filter d.entryOk).foldl (fun h e => max h (e + 1)) 0

/-- The highest value at byte +`k` of the entries of a type below HEAD. -/
def Device.highest (d : Device) (head type k : Nat) : Nat :=
  (d.entriesKept.filter (fun e => decide (e < head) && d.ld 2 (entryAddr e + 14) == type)).foldl
    (fun h e => max h (d.ld 4 (entryAddr e + k))) 0

/-- The line at HEAD is partly written: not blank, and not the whole entry that the append was to replace. -/
def Device.tornAt (d : Device) (head : Nat) : Bool :=
  (d.bytes (entryAddr head) 64).any (fun b => b != 0)
  && !(decide (16384 ≤ head) && d.ld 4 (entryAddr head) == head - 16384)

/-- HEAD, RELEASED, EXPORT_END and the chain after a boot; a torn entry queues its TORN entry ahead of the others. -/
def Device.openRecord (d : Device) : Device :=
  let head := d.findHead
  let (k, d) := d.draw
  let anchor := if head ≤ 16384 then List.replicate 32 0 else beBytes 32 (Config.lostAnchor k).toNat
  let exported := d.highest head 0x0070 24
  let any := d.entriesKept.any (fun e => decide (e < head) && d.ld 2 (entryAddr e + 14) == 0x0070)
  let d := (d.wr Reg.REC_HEAD.ESEQ 0 head).wr Reg.REC_RELEASED.ESEQ 0 (d.highest head 0x0071 20)
  let d := d.wr Reg.REC_EXPORT_END.ESEQ 0 (if any then exported + 1 else 0)
  let d := d.modKeep (fun k => { k with
    hash := if head = 0 then List.replicate 32 0 else d.hashOf (head - 1), anchor := anchor })
  if d.tornAt head then
    let now := d.grain
    ((d.modKeep (fun k => { k with queue := ⟨0x0073, now, leBytes 4 0 ++ leBytes 4 head, none⟩ :: k.queue })).refreshQueue).storeEvt 7
  else d

/-! ### Banks (R506 to R508) -/

/-- The valid bank of higher SEQ of a kind. -/
def Device.selectBank (d : Device) (kind : Nat) : Option Nat :=
  match d.bankValid kind 0, d.bankValid kind 1 with
  | true, true => if d.bankSeq kind 0 < d.bankSeq kind 1 then some 1 else some 0
  | true, false => some 0
  | false, true => some 1
  | false, false => none

/-- A bank that marks an interrupted store of its kind (R507). -/
def Device.interrupted (d : Device) (kind bank : Nat) : Bool :=
  let b := bankBase kind bank
  !d.bankValid kind bank && d.ld 4 b == 0x4E474542
  && (match d.activeBank kind with
      | some a => decide (d.bankSeq kind a < d.ld 4 (b + 4))
      | none => true)

/-- An interrupted store is reported once: wake reason, cause, record entry, and its marker is zeroed. -/
def Device.reportInterrupted (d : Device) (kind bank : Nat) : Device :=
  if d.interrupted kind bank then
    let seq := d.ld 4 (bankBase kind bank + 4)
    ((d.storeEvt 2).record 0x0011 (storeData kind bank 0 seq 0 0)).writeLine (bankBase kind bank) (List.replicate 64 0)
  else d

/-- A stored field takes its value as shadow and as value in force; a kept one only after POR (R508). -/
def Device.loadField (d : Device) (v : Nat) (p : Field × Nat) : Device :=
  let x := bitsOf v p.1.lsb p.1.width
  if p.1.keep p.2 && !d.power.cold then d
  else if p.1.acc = .sh then (d.wr p.1 p.2 x).wrSh p.1 p.2 x
  else d.wr p.1 p.2 x

/-- One stored pair: a register word, or a point of a learned fan map. -/
def Device.loadPair (d : Device) (kind : Nat) (q : Nat × Nat) : Device :=
  if q.1 < 0x10000 then
    ((fieldsAt q.1).filter (fun p => captured kind p.1)).foldl (fun d p => d.loadField q.2 p) d
  else if kind = 1 ∧ 0xF0000000 ≤ q.1 ∧ q.1 < 0xF0000000 + 64 * 6 then
    d.modFan ((q.1 - 0xF0000000) / 64) (fun f => { f with map := modNth (fun _ => q.2 % 65536) ((q.1 - 0xF0000000) % 64 / 4) f.map })
  else d

/-- Microstep table `t` of a bank (R88, R508). -/
def Device.loadTable (d : Device) (bank t : Nat) : Device :=
  let a := d.bankTables 0 bank + 2048 * (t - 1)
  { d with tables := sparsePut t ((List.range 1024).map (fun i => d.ld 2 (a + 2 * i))) d.tables }

/-- The active bank of a kind is loaded if the running host image accepts its IFREV (R508). -/
def Device.loadBank (d : Device) (kind : Nat) : Device :=
  match d.activeBank kind, d.keep.slot with
  | some b, some s =>
    let rev := d.ld 2 (commitAddr kind b + 20)
    if !d.inRange s 0 2 22 24 rev then d
    else
      let d := (d.bankPairs kind b).foldl (fun d q => d.loadPair kind q) d
      let d := if kind = 0 ∧ d.power.cold then d.each 7 (fun t d => d.loadTable b (t + 1)) else d
      match d.bankUser kind b with
      | some (src, len, dst) => d.hostWrite dst ((d.bytes src len).take (0x11000000 - dst))
      | none => d
  | _, _ => d

/-- Selection for a kind; an empty kind sets STORE_EMPTY (R506). -/
def Device.openBank (d : Device) (kind : Nat) : Device :=
  let b := d.selectBank kind
  let d := d.setActive kind b
  if b.isNone then d.storeEvt 3 else d

/-! ### Known-answer tests (R571) -/

/-- An engine that fails its test is retired again, and its axis migrated at rest or left OFF and DEGRADED. -/
def Device.retireAtBoot (d : Device) (e : Nat) : Device :=
  let x := d.scrUnit 0x00 e
  let d := ((d.setScrUnit { x with inForce := true }).setRetired e true).engEvt e 1
  let d := d.refreshSpares
  if d.engineOf e = e ∧ e < 64 then
    match d.idleEngines with
    | s :: _ => ((d.assignEngine e s).engEvt s 3).recordRetired 0 e e
    | [] => ((d.wr Reg.AX_STAT.ENGINE e 0x7F).wr Reg.AX_STAT.DEGRADED e 1).recordRetired 0 e 0xFF
  else d.recordRetired 0 e 0xFF

/-- The units of a class whose lasting latch is set. -/
def Device.latchedUnits (d : Device) (c n : Nat) : List Nat := (List.range n).filter (fun u => d.lasting c u)

/-- A unit's effect is in force again. -/
def Device.enforce (d : Device) (c u : Nat) : Device := d.setScrUnit { d.scrUnit c u with inForce := true }

/-- The tests of a boot: every engine, lane and tile whose latch is set; those that fail are retired again. -/
def Device.bootTests (d : Device) (r : BootReport) : Device :=
  let engines := (d.latchedUnits 0x00 68).filter (fun e => bitOf r.failedEngines.toNat e)
  let d := engines.foldl (fun d e => d.setRetired e true) d
  let d := engines.foldl (fun d e => d.retireAtBoot e) d
  let d := ((d.latchedUnits 0x0C 8).filter (fun u => bitOf r.failedLanes.toNat u)).foldl
    (fun d u => (d.retireLane u).enforce 0x0C u) d
  ((d.latchedUnits 0x0D 16).filter (fun u => bitOf r.failedTiles.toNat u)).foldl
    (fun d u => (d.retireTile u).enforce 0x0D u) d

/-! ### The boot -/

/-- The identity registers of the device and of the boot (Table 18.8). -/
def Device.showBoot (d : Device) (slot : Option Nat) (restricted : Bool) (why : Nat) : Device :=
  let d := (d.wr Reg.DEV_UID_L.UID 0 Config.deviceUid.toNat).wr Reg.DEV_UID_H.UID 0 (Config.deviceUid.toNat / 2 ^ 32)
  let d := ((d.wr Reg.IMG_STAT.RESTRICTED 0 (b2n restricted)).wr Reg.IMG_STAT.ROM_SERVED 0 (b2n slot.isNone)).wr
    Reg.IMG_STAT.SLOT 0 (slot.getD Config.slotUnbooted.toNat)
  let trial := match slot with
    | some s => d.recordState s == 1
    | none => false
  let d := ((d.wr Reg.IMG_STAT.TRIAL 0 (b2n trial)).wr Reg.IMG_STAT.BOOTSEL 0 (b2n d.pads.straps.bootsel)).wr
    Reg.IMG_STAT.WHY 0 why
  (if restricted then d.imgEvt 4 else d).modKeep (fun k => { k with slot := slot })

/-- DATA of the BOOT entry (Table 17.6). -/
def Device.bootData (d : Device) (restricted : Bool) : List Byte :=
  let bank (k : Nat) : List Byte := leBytes 1 ((d.activeBank k).getD 0xFF)
  let version (i : Nat) : Nat := match d.keep.slot with
    | some s => d.manifest s i 4 8
    | none => 0
  leBytes 1 (b2n restricted) ++ leBytes 1 (d.keep.slot.getD Config.slotUnbooted.toNat) ++ bank 0 ++ bank 1 ++ leBytes 4 (version 0)
    ++ leBytes 4 (version 1) ++ leBytes 2 (d.rd Reg.WAKE_REASON.REASON)

/-- Store banks, their loading, and the BOOT entry with those of interrupted stores (R506 to R508, R527 step 6). -/
def Device.bootStores (d : Device) (restricted : Bool) : Device :=
  let d := ((d.openBank 0).openBank 1).openRecord
  let torn := [(0, 0), (0, 1), (1, 0), (1, 1)].filter (fun p => d.interrupted p.1 p.2)
  let d := if torn.isEmpty then d else d.wakeLatch 9
  let d := if restricted then d else (d.loadBank 0).loadBank 1
  let d := d.record 0x0001 (d.bootData restricted)
  let d := torn.foldl (fun d p => d.reportInterrupted p.1 p.2) d
  d.appendMany (d.keep.queue.length + 1)

/-- The boot is over: CD04 runs, and MB_READY is set (R240, R529, R615). -/
def Device.bootEnds (d : Device) : Device :=
  let d := ((d.startMotionClock.machines true).wr Reg.MACHINE_STAT.MOTION_ON 0 1).wr Reg.MB_STAT.MB_READY 0 1
  (d.modPower (fun p => { p with cold := false, bootWaits := false })).showClocks.refreshSrdy.usbPull

/-- The boot with the fuses as they are, and the fuses after it. -/
def Device.boot (d : Device) (report : BootReport) (f : Fuses) : Device × Fuses :=
  let d := (d.showFuses f).modKeep (fun k => { k with boots := k.boots + 1 })
  let d := d.wr Reg.BOOT_CNT.COUNT 0 d.keep.boots
  let (d, cs) := d.trialStep d.candidates
  let (d, rs) := d.checkSlots cs
  let (slot, restricted, why) := d.selectSlot rs
  let g := d.bootFuses slot f
  let d := ((d.reportRaise slot f g).handOver slot).showBoot slot restricted why
  let d := (d.bootStores restricted).bootTests report
  (d.bootEnds, g)

/-- BOOT (R527): after the release of POR and DEVRST, once MRAM_OK is set (R611). -/
def execBoot (report : BootReport) (s : State) : Host.Outcome State Fault Refusal :=
  if s.dev.power.por || s.dev.power.devrst || s.dev.on Reg.MB_STAT.MB_READY then .next s
  else if !bitOf (s.dev.rd Reg.BO_STAT.OK) 4 then .next { s with dev := s.dev.modPower (fun p => { p with bootWaits := true }) }
  else .next { s with dev := (s.dev.boot report s.fuses).1, fuses := (s.dev.boot report s.fuses).2 }

end Sys2Proof.Machine
end

