-- ==== Sys2Proof/Machine/Faults.lean ====
section
/-! DEFINITION. Lasting faults, retirement and the checker's self-test; the event and fault commands (chapter 19). -/
namespace Sys2Proof.Machine

/-! ### Interrupt pulses (R552) -/

/-- The pulse of INTn, or the inactive time after it, has run; a counted latching gives the next pulse. -/
def IntGen.pulseEnd (g : IntGen) : IntGen :=
  if g.phase = 1 then { g with phase := 2 }
  else if g.phase = 2 then (if g.count = 0 then { g with phase := 0 } else ⟨1, g.count - 1⟩)
  else g

/-- INT_PULSE_END (R552). -/
def execIntPulseEnd (n : Fin 4) (s : State) : Host.Outcome State Fault Refusal :=
  s.devStep (fun d => (d.modEvents (fun v => { v with ints := modNth IntGen.pulseEnd n v.ints })).refreshInts)

/-! ### The checker's self-test (R564, R571) -/

/-- The known-answer test has failed: class 0x01, DOWN, the counts and held latches of class 0x00 cleared; an axis it
carries takes the hard-fault path. -/
def Device.checkerFails (d : Device) : Device :=
  let carried := if d.rd Reg.CHK_STAT.STATE = 1 then some (d.rd Reg.CHK_STAT.CARRIED) else none
  let d := ((d.occur 0x01 0).wr Reg.CHK_STAT.STATE 0 3).chkEvt 1
  let d := d.events.checker.heldRetire.foldl (fun d e => d.clearLatch 0x00 e) d
  let d := d.each 68 (fun e d => if d.lasting 0x00 e then d else d.clearLatch 0x00 e)
  let d := d.modChecker (fun c => { c with suspect := false, mismatches := [], heldRetire := [] })
  match carried with
  | some n => d.hardFault n 3
  | none => d

/-- The test has passed: the mismatches stand, and held retirements proceed. -/
def Device.checkerPasses (d : Device) : Device :=
  let held := d.events.checker.heldRetire
  let d := d.modChecker (fun c => { c with suspect := false, mismatches := [], heldRetire := [] })
  held.foldl (fun d e => d.retireEngine e) (d.wr Reg.CHK_STAT.STATE 0 0)

/-- CHECKER_SELF_TEST (R564). -/
def execCheckerSelfTest (pass : Bool) (s : State) : Host.Outcome State Fault Refusal :=
  s.devStep (fun d =>
    if !d.events.checker.suspect then d else if pass then d.checkerPasses else d.checkerFails)

/-! ### Lasting effects (R556) -/

/-- Class 0x04: CRC_LASTING, and ERR_ACT (R192). -/
def Device.crcLasting (d : Device) (t : Nat) : Device :=
  let d := (d.wr Reg.TL_STAT.CRC_LASTING t 1).tlEvt t 4
  let act := d.rd Reg.TL_CFG.ERR_ACT t
  if act = 0 then d
  else if act = 1 then (tileAxes t).foldl (fun d n => if d.stoppable n then d.askStop n 6 else d) d
  else if d.lstate t = 0 ∨ d.lstate t = 7 then d else d.linkDown t

/-- The lasting effect that a class has beyond what its occurrences did; the classes not named act in their
occurrence. -/
def Device.lastingEffect (d : Device) (c u : Nat) : Device :=
  if c = 0x02 then d.wr Reg.CUR_STAT.STALL_LASTING u 1
  else if c = 0x04 then d.crcLasting u
  else if c = 0x08 then d.tlEvt u 11
  else if c = 0x09 then d.cycEvt 10
  else if c = 0x0B then ((d.camStop u).wr Reg.CAM_STAT.CSI_LASTING u 1).camEvt u 4
  else if c = 0x0C then d.retireLane u
  else if c = 0x0D then d.retireTile u
  else if c = 0x0F then d.wr Reg.AUD_STAT.KWS_LASTING 0 1
  else if 0x10 ≤ c ∧ c ≤ 0x12 then d.beginHover u (c - 0x10)
  else if c = 0x15 then d.failFan u 4
  else d

/-- A unit turns lasting (R556). Class 0x00 has done so in the tick of its mismatch. -/
def Device.turnLasting (d : Device) (c u : Nat) : Device :=
  if (d.scrUnit c u).due then (d.latchUnit c u).lastingEffect c u else d

/-- SCRUPLE_LASTING (R556). -/
def execScrupleLasting (cls : Fin 25) (unit : Fin 68) (s : State) : Host.Outcome State Fault Refusal :=
  s.devStep (fun d => d.turnLasting cls unit)

/-! ### Event and fault commands (Table 19.4) -/

/-- EVT_QUERY. -/
def runEvtQuery (tag : Nat) (d : Device) : Device :=
  d.ok tag true (leBytes 4 (d.rd Reg.EV_LAT.LAT ((d.entryOf tag).p 1 0)) ++ leBytes 2 (d.rd Reg.EV_SUM.SUM))

/-- A W1C write of EV_LATg: the bits of a mask clear. -/
def Device.clearEvents (d : Device) (g mask : Nat) : Device :=
  let v := d.rd Reg.EV_LAT.LAT g
  ((d.wr Reg.EV_LAT.LAT g (v - (v &&& mask))).refreshSum).refreshInts

/-- EVT_CLEAR. -/
def runEvtClear (tag : Nat) (d : Device) : Device :=
  let e := d.entryOf tag
  let g := e.p 1 0
  let hit := d.rd Reg.EV_LAT.LAT g &&& e.p 4 4
  (d.clearEvents g (e.p 4 4)).ok tag (hit == 0) []

/-- Give event `e` a routing byte; that of a reserved event ignores it, and bit 7 is reserved (R549, R551). -/
def Device.setRoute (d : Device) (e v : Nat) : Device :=
  if eventListed e then
    let w := d.rd Reg.EV_ROUTE.ROUTE (e / 4)
    let k := 8 * (e % 4)
    d.wr Reg.EV_ROUTE.ROUTE (e / 4) (w - bitsOf w k 8 * 2 ^ k + v % 128 * 2 ^ k)
  else d

/-- EVT_ROUTE. -/
def runEvtRoute (tag : Nat) (d : Device) : Device :=
  let e := d.entryOf tag
  let d := (List.range (e.p 2 2)).foldl (fun d k => d.setRoute (e.p 2 0 + k) (e.p 1 4)) d
  d.refreshInts.ok tag false []

/-- N and W in force of class `c` (R554, R560): a W outside its limits is the nearer limit. -/
def Device.setScruple (d : Device) (c n w : Nat) : Device :=
  if 0x18 < c || scrFixed c then d
  else
    let d := if n = 0 then d else d.wr Reg.SCR_CFG.N c n
    d.wr Reg.SCR_CFG.W c (min 3600000 (max 1 w))

/-- SCRUPLE_SET. -/
def runScrupleSet (tag : Nat) (d : Device) : Device :=
  let e := d.entryOf tag
  let c := e.p 1 0
  let d := d.setScruple c (e.p 1 1) (e.p 4 4)
  d.ok tag (scrFixed c) (leBytes 1 (d.scrN c) ++ leBytes 3 0 ++ leBytes 4 (d.scrW c))

/-- AXIS_REINIT acts at the next tick boundary; where none comes, it needs what is off (R351). -/
def runAxisReinit (tag : Nat) (d : Device) : Device := if d.motionRuns then d else d.refuse tag .functionDown

/-- ENGINE_REINIT starts its tests; LONG_COMMAND_DONE ends them. -/
def runEngineReinit (tag : Nat) (d : Device) : Device := d.runLong [0x0D06] (fun _ d => d) tag

/-- ENGINE_REINIT ends: the engines that passed are idle spares again and their class 0x00 latches clear. -/
def Device.engineReinitDone (d : Device) (tag : Nat) (o : LongOutcome) : Device :=
  let passed := (List.range 68).filter (fun e => d.retired e && bitOf o.units.toNat e)
  let d := passed.foldl (fun d e => ((d.setRetired e false).engEvt e 2).clearLatch 0x00 e) d
  let d := d.refreshSpares.say
  d.ok tag passed.isEmpty
    (leBytes 9 ((passed.map (fun e => 2 ^ e)).sum) ++ leBytes 1 d.idleEngines.length)

/-- CHECKER_REINIT starts its test. -/
def runCheckerReinit (tag : Nat) (d : Device) : Device := d.runLong [0x0D07] (fun _ d => d) tag

/-- CHECKER_REINIT ends: on a pass class 0x01 clears and rotation resumes with A00. -/
def Device.checkerReinitDone (d : Device) (tag : Nat) (o : LongOutcome) : Device :=
  if o.ok then
    let was := d.rd Reg.CHK_STAT.STATE
    let d := if was = 3 then (d.wr Reg.CHK_STAT.STATE 0 0).chkEvt 2 else d
    let d := (d.clearLatch 0x01 0).modChecker (fun c => { c with next := 0, checking := none })
    d.say.ok tag false [0]
  else d.checkerFails.ok tag false [1]

/-- Mask of the units of class `c` that satisfy a test. -/
def Device.unitMask (d : Device) (c : Nat) (p : ScrUnit → Bool) : Nat :=
  (List.range 72).foldl (fun m u => if p (d.scrUnit c u) then m + 2 ^ u else m) 0

/-- FAULT_QUERY. -/
def runFaultQuery (tag : Nat) (d : Device) : Device :=
  let c := (d.entryOf tag).p 1 0
  d.ok tag true (leBytes 9 (d.unitMask c (fun x => x.latched)) ++ leBytes 1 (d.scrN c) ++ leBytes 4 (d.scrW c)
    ++ leBytes 1 (d.events.units.filter (fun x => x.cls == c && decide (0 < d.scrCount x))).length)

/-- FAULT_ACK (R558): latches whose effect is in force are left. -/
def runFaultAck (tag : Nat) (d : Device) : Device :=
  let e := d.entryOf tag
  let c := e.p 1 0
  let m := d.unitMask c (fun x => x.latched && !x.inForce) &&& e.p 9 4
  ((bitsBelow m 72).foldl (fun d u => d.clearLatch c u) d).ok tag (m == 0) (leBytes 9 m)

/-- EVT_QUERY (R574). -/
def execEvtQuery (e : Entry) (s : State) : Host.Outcome State Fault Refusal := s.devStep (Device.submit 0x0D01 runEvtQuery e)
/-- EVT_CLEAR (R574). -/
def execEvtClear (e : Entry) (s : State) : Host.Outcome State Fault Refusal := s.devStep (Device.submit 0x0D02 runEvtClear e)
/-- EVT_ROUTE (R574). -/
def execEvtRoute (e : Entry) (s : State) : Host.Outcome State Fault Refusal := s.devStep (Device.submit 0x0D03 runEvtRoute e)
/-- SCRUPLE_SET (R560, R574). -/
def execScrupleSet (e : Entry) (s : State) : Host.Outcome State Fault Refusal :=
  s.devStep (Device.submit 0x0D04 runScrupleSet e)
/-- AXIS_REINIT (R572, R574). -/
def execAxisReinit (e : Entry) (s : State) : Host.Outcome State Fault Refusal :=
  s.devStep (Device.submit 0x0D05 runAxisReinit e)
/-- ENGINE_REINIT (R574). -/
def execEngineReinit (e : Entry) (s : State) : Host.Outcome State Fault Refusal :=
  s.devStep (Device.submit 0x0D06 runEngineReinit e)
/-- CHECKER_REINIT (R574). -/
def execCheckerReinit (e : Entry) (s : State) : Host.Outcome State Fault Refusal :=
  s.devStep (Device.submit 0x0D07 runCheckerReinit e)
/-- FAULT_QUERY (R574). -/
def execFaultQuery (e : Entry) (s : State) : Host.Outcome State Fault Refusal :=
  s.devStep (Device.submit 0x0D08 runFaultQuery e)
/-- FAULT_ACK (R558, R574). -/
def execFaultAck (e : Entry) (s : State) : Host.Outcome State Fault Refusal := s.devStep (Device.submit 0x0D09 runFaultAck e)

end Sys2Proof.Machine
end

