-- ==== Sys2Proof/Machine/Bus.lean ====
section
/-! DEFINITION. The register bus (chapter 10): reads with their latches, writes by access code, the enables and other
fields whose write does more, the grain-clock edge, and the register rows. -/
namespace Sys2Proof.Machine

/-! ### Reads (R300, R309, R326, R327, R329) -/

/-- The words of a wide value that a read of its low word at `a` latches (R309). -/
def latchedBy (a : Nat) : List Nat :=
  let o := a % 0x100
  if 0x4000 ≤ a ∧ a < 0x8000 then
    (if o = 0x08 then [a + 4, a + 8] else if o = 0xD0 then [a + 4, a + 8, a + 12] else [])
  else if a = Reg.CE_L.CE.addr 0 then [a + 4]
  else if a = Reg.GRAIN_CNT_L.COUNT.addr 0 then [a + 4]
  else if a = Reg.CLK_STAT_L.RUN.addr 0 then [a + 4]
  else if a = Reg.GPIO_IN_L.IN.addr 0 then [a + 4]
  else if a = Reg.DEV_UID_L.UID.addr 0 then [a + 4]
  else if a = Reg.PRE_WR.IDX.addr 0 then [a + 4]
  else match Reg.BSH_SUM_L.SUM.index? a with
    | some n => [Reg.BSH_SUM_H.SUM.addr n, Reg.BSH_CNT.COUNT.addr n, Reg.SPN_MIN.MIN.addr n, Reg.SPN_MAX.MAX.addr n]
    | none => []

/-- An address of the USB block, which reads 0 and ignores writes where the port does not exist (R272). -/
def Device.usbHidden (d : Device) (a : Nat) : Bool := decide (0xD100 ≤ a) && decide (a < 0xD200) && !d.usbPresent

/-- The word a requester would read at a window address: the word latched for it, else the bus word. Before its first
read of the low word the others read their copies (DESIGN CHOICE, log entry 46). -/
def Device.peek (d : Device) (req : Requester) (a : Nat) : Nat :=
  if d.usbHidden a then 0
  else match d.latches.find? (fun l => l.req == req && l.addr == a) with
    | some l => l.word
    | none => d.busWord a

/-- A read of a window address: a low word latches the other words of its value for the requester (R309). -/
def Device.readWindow (d : Device) (req : Requester) (a : Nat) : Nat × Device :=
  let v := if (latchedBy a).isEmpty then d.peek req a else d.busWord a
  let d := (latchedBy a).foldl (fun (d : Device) b =>
    { d with latches := ⟨req, b, d.busWord b⟩ :: d.latches.filter (fun l => !(l.req == req && l.addr == b)) }) d
  (v, d)

/-- Register address and bit of an alias (R326). -/
def aliasTarget (a : Nat) : Nat × Nat := ((a - 0x100000) / 128 * 4, (a - 0x100000) / 4 % 32)

/-- An address of the bit-alias region that has a target in the window. -/
def inAlias (a : Nat) : Bool := decide (0x100000 ≤ a) && decide (a < 0x300000)

/-- The reserved addresses of retention SRAM (Table 11.3). -/
def reservedRetention (a : Nat) : Bool :=
  (decide (0x1000BB80 ≤ a) && decide (a < 0x1000C000)) || (decide (0x1000C800 ≤ a) && decide (a < 0x10010000))

/-- The grain controller's own areas of retention SRAM (Table 11.3): its log and its image data. -/
def grainAreas (a : Nat) : Bool := decide (0x10010000 ≤ a) && decide (a < 0x10030000)

/-- A word read by a requester at any address of a region (R629). At a reserved address of retention SRAM it is a free
value (R346), and where the grain controller keeps what no rule lays out. -/
def Device.readAt (d : Device) (req : Requester) (a : Nat) : Nat × Device :=
  if a < 0x10000 then d.readWindow req a
  else if inAlias a then (b2n (bitOf (d.peek req (aliasTarget a).1) (aliasTarget a).2), d)
  else if reservedRetention a || grainAreas a then ((Config.reservedWord a d.draw.1).toNat, d.draw.2)
  else if inSram a || inMram a then (d.ld 4 a, d)
  else (0, d)

/-- The word a requester has read, where it can be seen. -/
def Device.showRead (d : Device) (req : Requester) (v : Nat) : Device :=
  { d with busRead := (req, v) :: d.busRead.filter (fun p => p.1 != req) }

/-! ### What guards the WD fields of a register (R310, R314, Table 23.10) -/

/-- Whether the block of a WD register is enabled, the flag of a refused write, and its event: 4 and 48 stand for the
causes of the system block and of the mailbox. -/
structure Guard where
  on : Bool
  flag : Field
  idx : Nat
  ev : Nat

/-- The guard of the register at `a`. -/
def Device.guard (d : Device) (a : Nat) : Option Guard :=
  let within (lo hi : Nat) : Bool := decide (lo ≤ a) && decide (a < hi)
  let by0 (en flag : Field) (i ev : Nat) : Option Guard := some ⟨d.on en i, flag, i, ev⟩
  if within 0x200 0x240 then by0 Reg.SDI_CFG.EN Reg.SDI_CFG.WRITE_IGNORED ((a - 0x200) / 4) 4
  else if within 0x300 0x380 then by0 Reg.SPM_CTRL.EN Reg.SPM_CTRL.WRITE_IGNORED ((a - 0x300) / 0x20) 4
  else if within 0x380 0x400 then by0 Reg.QE_CFG.EN Reg.QE_CFG.WRITE_IGNORED ((a - 0x380) / 0x10) 4
  else if within 0x2000 0x3000 then
    let r := (a - 0x2000) / 0x10
    some ⟨d.ringOn r || d.rd Reg.RING_CFG.ROLE r == 2, Reg.RING_CFG.WRITE_IGNORED, r, 48⟩
  else if within 0x3010 0x3030 then
    let q := (a - 0x3010) / 4
    some ⟨d.ringOn (2 * q), Reg.QP_CTRL.WRITE_IGNORED, q, 48⟩
  else if within 0x8000 0x9000 then
    let t := (a - 0x8000) / 0x100
    some ⟨if a % 0x100 = 8 then d.on Reg.TL_CTRL.TEL_EN t else d.on Reg.TL_CTRL.EN t, Reg.TL_CTRL.WRITE_IGNORED, t,
      260 + 2 * t⟩
  else if within 0x9000 0xA000 then by0 Reg.ADC_CTRL.SCAN_EN Reg.ADC_CTRL.WRITE_IGNORED 0 12
  else if within 0xA500 0xA5C0 then
    let f := (a - 0xA500) / 0x20
    by0 Reg.FAN_CTRL.EN Reg.FAN_CTRL.WRITE_IGNORED f (394 + f)
  else if within 0xB000 0xB080 then
    let c := (a - 0xB000) / 0x40
    by0 Reg.CAM_CTRL.EN Reg.CAM_CTRL.WRITE_IGNORED c (332 + c)
  else if within 0xB080 0xB0A0 then by0 Reg.BM_CTRL.EN Reg.BM_CTRL.WRITE_IGNORED 0 336
  else if within 0xB0A0 0xB0C0 then by0 Reg.CD_CFG.EN Reg.CD_CFG.WRITE_IGNORED ((a - 0xB0A0) / 0x10) 335
  else if within 0xB100 0xB10C then by0 Reg.NE_CTRL.EN Reg.NE_CTRL.WRITE_IGNORED 0 338
  else if a = 0xB204 then by0 Reg.AUD_CTRL.AUD_EN Reg.AUD_CTRL.WRITE_IGNORED 0 358
  else if a = 0xB20C ∨ a = 0xB210 then by0 Reg.AUD_CTRL.KWS_EN Reg.AUD_CTRL.WRITE_IGNORED 0 358
  else if a = 0xB214 then by0 Reg.AUD_CTRL.CLIP_EN Reg.AUD_CTRL.WRITE_IGNORED 0 358
  else if within 0xB400 0xB500 then by0 Reg.FUS_CTRL.EN Reg.FUS_CTRL.WRITE_IGNORED 0 365
  else if within 0xB500 0xB600 then by0 Reg.ADV_CFG.EN Reg.ADV_CFG.WRITE_IGNORED ((a - 0xB500) / 0x20) 365
  else if within 0xD000 0xD018 then by0 Reg.CYC_CTRL.EN Reg.CYC_CTRL.WRITE_IGNORED 0 33
  else if a = 0xD104 then some ⟨!d.on Reg.USB_CTRL.SOFT_DETACH, Reg.USB_CTRL.WRITE_IGNORED, 0, 35⟩
  else if within 0xD120 0xD140 then
    some ⟨d.on Reg.USB_STRM.SEN ((a - 0xD120) / 4), Reg.USB_CTRL.WRITE_IGNORED, 0, 35⟩
  else none

/-- A refused WD write is flagged (R312, R314, R239): the flag stands and raises its event when it was not set before
the write, `d0`; a 1 that the write itself wrote to it clears nothing (Table 10.6). -/
def Device.flagRefusal (d d0 : Device) (g : Guard) : Device :=
  if d0.on g.flag g.idx then d.wr g.flag g.idx 1
  else if g.ev = 4 then (d.wr g.flag g.idx 1).regEvt 0
  else if g.ev = 48 then (d.wr g.flag g.idx 1).mbEvt 7
  else d.cause g.flag g.idx 0 true g.ev

/-! ### Writes by access code (R6, R310 to R313, R327) -/

/-- A value with the bits of a mask taken from another. -/
def merge (old v mask : Nat) : Nat := (old - (old &&& mask)) ||| (v &&& mask)

/-- What a write of `data` under `mask` would leave in a field. -/
def Field.merged (f : Field) (old data mask : Nat) : Nat :=
  merge old (bitsOf data f.lsb f.width) (bitsOf mask f.lsb f.width)

/-- EN of a device-internal ring, which no write changes (R211). -/
def Device.fixedEnable (d : Device) (p : Field × Nat) : Bool :=
  p.1.key p.2 == Reg.RING_CFG.EN.key p.2 && decide (p.1.base = 0x2004) && d.rd Reg.RING_CFG.ROLE p.2 == 2

/-- A field that a guarded write may not change: WD, or the enable of a device-internal ring. -/
def Device.guarded (d : Device) (p : Field × Nat) : Bool := p.1.acc == .wd || d.fixedEnable p

/-- One field takes a write; `refused` tells whether guarded fields keep their values. -/
def Device.takeWrite (data mask : Nat) (refused : Bool) (d : Device) (p : Field × Nat) : Device :=
  let f := p.1
  let i := p.2
  let m := bitsOf mask f.lsb f.width
  if m = 0 then d
  else if d.guarded p && refused then d
  else match f.acc with
    | .rw => d.wr f i (f.merged (d.rd f i) data mask)
    | .wd => d.wr f i (f.merged (d.rd f i) data mask)
    | .sh => d.wrSh f i (f.merged (d.rdSh f i) data mask)
    | .w1c => d.wr f i (d.rd f i - (d.rd f i &&& (bitsOf data f.lsb f.width &&& m)))
    | .ro => d
    | .wo => d
    | .rcBG => d
    | .rcD => d
    | .rcS => d

/-- The fields of a register take a write, whole or refused in their guarded fields. -/
def Device.writeFields (d : Device) (a data mask : Nat) : Device :=
  let fs := fieldsAt a
  let changes := fs.any (fun p => d.guarded p && p.1.merged (d.rd p.1 p.2) data mask != d.rd p.1 p.2)
  match d.guard a with
  | some g =>
    let refused := changes && g.on
    let e := fs.foldl (Device.takeWrite data mask refused) d
    if refused then e.flagRefusal d g else e
  | none => fs.foldl (Device.takeWrite data mask false) d

/-! ### Enables and other fields whose write does more -/

/-- A one-bit field went from 0 to 1. -/
def rose (d0 d : Device) (f : Field) (i : Nat) : Bool := !d0.on f i && d.on f i
/-- A one-bit field changed. -/
def turned (d0 d : Device) (f : Field) (i : Nat) : Bool := d0.on f i != d.on f i

/-- An enable that RESTRICTED mode ignores stays as it was (R531). -/
def Device.unrestricted (d d0 : Device) (f : Field) (i : Nat) : Device :=
  if rose d0 d f i && d.on Reg.IMG_STAT.RESTRICTED then d.wr f i 0 else d

/-- The tag ranges of two pairs overlap (R216). -/
def Device.tagsOverlap (d : Device) (p q : Nat) : Bool :=
  let b (x : Nat) : Nat := d.rd Reg.QP_CTRL.TAG_BASE x
  let n (x : Nat) : Nat := d.rd Reg.QP_CTRL.TAG_CNT x
  decide (0 < n p) && decide (0 < n q) && decide (b p < b q + n q) && decide (b q < b p + n p)

/-- The conditions of enabling ring `r` (R209, R216). -/
def Device.ringFit (d : Device) (r : Nat) : Bool :=
  let base := d.rd Reg.RING_BASE.BASE r * 64
  let lg := d.rd Reg.RING_CFG.LOG2SIZE r
  let es := d.rd Reg.RING_CFG.ESIZE r
  decide (0x10000000 ≤ base) && decide (4 ≤ lg) && decide (lg ≤ 16) && decide (es ≤ 2)
    && decide (base + 2 ^ lg * (16 * 2 ^ es) ≤ 0x11000000)
    && (decide (16 ≤ r) || es == (if r % 2 = 0 then 2 else 1))
    && (decide (16 ≤ r) || r % 2 == 1 ||
      (decide (d.rd Reg.QP_CTRL.TAG_BASE (r / 2) + d.rd Reg.QP_CTRL.TAG_CNT (r / 2) ≤ 128)
        && (List.range 8).all (fun p => p == r / 2 || !d.tagsOverlap p (r / 2))))

/-- EN of ring `r` has been set: both indices 0, or CFG_REJECT (R207, R209, R216). Without the USB port QP1 stays
disabled (R272). -/
def Device.enableRing (d : Device) (r : Nat) : Device :=
  if (r = 2 ∨ r = 3) ∧ !d.usbPresent then d.wr Reg.RING_CFG.EN r 0
  else if d.ringFit r then (d.wr Reg.RING_PI.PI r 0).wr Reg.RING_CI.CI r 0
  else ((d.wr Reg.RING_CFG.EN r 0).wr Reg.RING_CFG.CFG_REJECT r 1).mbEvt 5

/-- TL_CTRL.EN has changed (R184, R203). -/
def Device.linkWritten (d : Device) (t : Nat) : Device :=
  if d.on Reg.TL_CTRL.EN t then (if d.running && d.lstate t == 0 then d.startLink t else d)
  else (d.stopLink t).finishTiles

/-- Words of the cyclic frame (R245). -/
def Device.cycWords (d : Device) : Nat := min 8192 (max 64 (d.rd Reg.CYC_CFG.FRAME_BITS)) / 32

/-- No reply is frozen any more (R242, R247, R268): a mode step that waited for it is made (R269). -/
def Device.cycStop (d : Device) : Device := (d.modCyclic (fun c => { c with frozen := false })).stepFreed.refreshSrdy

/-- The axes of LIVE_MASK. -/
def Device.liveAxes (d : Device) : List Nat :=
  (List.range 64).filter (fun n => bitOf (d.rd Reg.LIVE_MASK.MASK (n / 32)) (n % 32))

/-- CYC_CTRL has been written (R268, R270): a write from a commit of the port itself acts after that commit. -/
def Device.cycWritten (d d0 : Device) (own reinit : Bool) : Device :=
  let d := if rose d0 d Reg.CYC_CTRL.EN 0 && decide (d.cycWords < 4 + 2 * d.liveAxes.length) then
      (d.wr Reg.CYC_CTRL.EN 0 0).cause Reg.CYC_CTRL.CFG_REJECT 0 0 true 33
    else d
  if reinit || rose d0 d Reg.CYC_CTRL.EN 0 then
    (if own then d.modCyclic (fun c => { c with restartDue := some (reinit || c.restartDue == some true) })
      else d.cycRestart reinit)
  else if turned d0 d Reg.CYC_CTRL.EN 0 && !own then d.cycStop
  else d

/-- SEN of slot `k` has been set: only for a device-produced ring that no other slot holds (R286). -/
def Device.streamWritten (d : Device) (k : Nat) : Device :=
  let r := d.rd Reg.USB_STRM.RING k
  if d.rd Reg.RING_CFG.ROLE r = 1
      ∧ (List.range 8).all (fun j => j == k || !(d.on Reg.USB_STRM.SEN j && d.rd Reg.USB_STRM.RING j == r)) then d
  else (d.wr Reg.USB_STRM.SEN k 0).usbEvt 9

/-- EN of SPI port `p` has been set: the 20 µs check again (R108). -/
def Device.portWritten (d : Device) (p : Nat) : Device :=
  let ns := d.addrAxes p
  if d.portOverrun p ns.length then ns.foldl (fun d n => d.folEvt n 3) d else d

/-- The wake GPIO has come to its active level, `old` being the levels before: reason GPIO latches (R353). -/
def Device.wakeGpio (d : Device) (old : Nat) : Device :=
  let g := d.rd Reg.WAKE_CFG.GPIO_SEL
  let active (v : Nat) : Bool := bitOf v g != d.on Reg.WAKE_CFG.GPIO_POL
  if g < 48 ∧ active d.pads.gpio.toNat ∧ !active old then d.wakeLatch 3 else d

/-- The balls that GPIO_OUT drives show their level (R590, R592). -/
def Device.driveGpio (d : Device) : Device :=
  let out := d.rd Reg.GPIO_OUT_L.OUT + 2 ^ 32 * d.rd Reg.GPIO_OUT_H.OUT
  let bits := (List.range 48).foldl (fun v g =>
    if d.gpioOe g && !(List.range 64).any (fun n => d.stepMaps n g)
    then (if bitOf out g then setBitOf v g else clrBitOf v g) else v) d.pads.gpio.toNat
  { d with pads := { d.pads with gpio := BitVec.ofNat 48 bits } }.showPads.wakeGpio d.pads.gpio.toNat

/-- GPIO_OE is written: bits that would be set for a mapped GPIO stay 0 and set GPIO_CONFLICT (R591). -/
def Device.writeOe (d : Device) (high : Bool) (data mask : Nat) : Device :=
  let f := if high then Reg.GPIO_OE_H.OE else Reg.GPIO_OE_L.OE
  let base := if high then 32 else 0
  let v := f.merged (d.rd f) data mask
  let clash := (bitsBelow v f.width).filter (fun k => !bitOf (d.rd f) k
    && (List.range 64).any (fun n => d.stepMaps n (base + k) || d.homeMaps n (base + k)))
  let d := (d.wr f 0 (clash.foldl clrBitOf v)).driveGpio
  if clash.isEmpty then d else d.wr Reg.PAD_STAT.GPIO_CONFLICT 0 1

/-- EV_ROUTEi is written (R549, R551). -/
def Device.writeRoute (d : Device) (i data mask : Nat) : Device :=
  ((List.range 4).foldl (fun d b =>
    if bitsOf mask (8 * b) 8 = 0 then d
    else d.setRoute (4 * i + b) (merge (bitsOf (d.rd Reg.EV_ROUTE.ROUTE i) (8 * b) 8) (bitsOf data (8 * b) 8)
      (bitsOf mask (8 * b) 8))) d).refreshInts

/-- SCR_CFGc is written (R554, R560). -/
def Device.writeScruple (d : Device) (c data mask : Nat) : Device :=
  d.setScruple c (Reg.SCR_CFG.N.merged (d.rd Reg.SCR_CFG.N c) data mask)
    (Reg.SCR_CFG.W.merged (d.rd Reg.SCR_CFG.W c) data mask)

/-- Wake reasons that have been cleared lose their PEND and DONE bits too (R293, R353). -/
def Device.wakeCleared (d d0 : Device) : Device :=
  let gone := d0.rd Reg.WAKE_REASON.REASON - d.rd Reg.WAKE_REASON.REASON
  d.refreshPend.wr Reg.USB_RWAKE.DONE 0
    (d.rd Reg.USB_RWAKE.DONE - (d.rd Reg.USB_RWAKE.DONE &&& gone))

/-- A DOORBELL write (R208): the index advances, or DB_REJECT; ignored before MB_READY (R240). -/
def Device.doorbell (d : Device) (v : Nat) : Device :=
  if !d.on Reg.MB_STAT.MB_READY then d
  else
    let r := bitsOf v 24 8
    let consumer := bitOf v 23
    let idx := bitsOf v 0 17
    let f := if consumer then Reg.RING_CI.CI else Reg.RING_PI.PI
    let old := d.rd f r
    let step := (idx + 2 ^ 17 - old % 2 ^ 17) % 2 ^ 17
    let n := d.ringCount r
    if !d.ringOn r || d.rd Reg.RING_CFG.ROLE r != (if consumer then 1 else 0)
        || (if consumer then decide (n < step) else decide (d.ringSize r < n + step))
    then d.mbEvt 0
    else d.wr f r (old + step)

/-- Audio enables: AUD_EN, then KWS_EN, then CLIP_EN. -/
def Device.audioWritten (d d0 : Device) : Device :=
  let d := d.unrestricted d0 Reg.AUD_CTRL.AUD_EN 0
  let d := if turned d0 d Reg.AUD_CTRL.AUD_EN 0 then d.audWritten (d.on Reg.AUD_CTRL.AUD_EN) else d
  let d := if turned d0 d Reg.AUD_CTRL.KWS_EN 0 then d.kwsWritten (d.on Reg.AUD_CTRL.KWS_EN) else d
  if turned d0 d Reg.AUD_CTRL.CLIP_EN 0 then d.clipWritten (d.on Reg.AUD_CTRL.CLIP_EN) else d

/-- An enable that RESTRICTED mode ignores, and what follows its change. -/
def Device.enableWritten (d d0 : Device) (f : Field) (i : Nat) (act : Bool → Device → Device) : Device :=
  let d := d.unrestricted d0 f i
  if turned d0 d f i then act (d.on f i) d else d

/-- What follows a write to the register at `a`, the device having been `d0` before it. -/
def Device.afterWrite (d d0 : Device) (own : Bool) (a data mask : Nat) : Device :=
  let m := data &&& mask
  let within (lo hi : Nat) : Bool := decide (lo ≤ a) && decide (a < hi)
  if a = 0x404 then d.wakeCleared d0
  else if a = 0x408 then d.wr Reg.WAKE_EN.EN 0 (d.rd Reg.WAKE_EN.EN &&& 0xFD)
  else if within 0x300 0x380 then
    let p := (a - 0x300) / 0x20
    if rose d0 d Reg.SPM_CTRL.EN p then d.portWritten p else d
  else if a = 0x608 ∨ a = 0x60C then d.driveGpio
  else if within 0x1200 0x1240 ∨ within 0x1244 0x1254 then d.refreshSum.refreshInts
  else if within 0x2000 0x3000 then
    let r := (a - 0x2000) / 0x10
    if rose d0 d Reg.RING_CFG.EN r then d.enableRing r else d
  else if within 0x8000 0x9000 then
    let t := (a - 0x8000) / 0x100
    d.enableWritten d0 Reg.TL_CTRL.EN t (fun _ d => d.linkWritten t)
  else if a = 0x9000 then
    let d := if turned d0 d Reg.ADC_CTRL.REFBUF_EN 0 then d.refbufWritten (d.on Reg.ADC_CTRL.REFBUF_EN) else d
    if turned d0 d Reg.ADC_CTRL.SCAN_EN 0 then d.scanWritten (d.on Reg.ADC_CTRL.SCAN_EN) else d
  else if within 0xA500 0xA5C0 then
    let f := (a - 0xA500) / 0x20
    if turned d0 d Reg.FAN_CTRL.EN f then d.fanEnabled f (d.on Reg.FAN_CTRL.EN f) else d
  else if within 0xB000 0xB080 then
    let c := (a - 0xB000) / 0x40
    d.enableWritten d0 Reg.CAM_CTRL.EN c (fun on d => d.camWritten c on)
  else if a = 0xB080 then d.enableWritten d0 Reg.BM_CTRL.EN 0 (fun on d => d.bmWritten on)
  else if a = 0xB084 ∨ a = 0xB088 then d.hintWritten ((a - 0xB084) / 4)
  else if within 0xB0A0 0xB0C0 then
    let k := (a - 0xB0A0) / 0x10
    d.enableWritten d0 Reg.CD_CFG.EN k (fun on d => d.cdWritten k on)
  else if a = 0xB100 then d.enableWritten d0 Reg.NE_CTRL.EN 0 (fun on d => d.neWritten on)
  else if a = 0xB200 then d.audioWritten d0
  else if a = 0xB400 then d.enableWritten d0 Reg.FUS_CTRL.EN 0 (fun on d => d.fusWritten on)
  else if within 0xB500 0xB600 then
    let c := (a - 0xB500) / 0x20
    if turned d0 d Reg.ADV_CFG.EN c then d.advWritten c (d.on Reg.ADV_CFG.EN c) else d
  else if a = 0xD000 then d.cycWritten d0 own (bitOf m 1)
  else if a = 0xD100 then if bitOf m 2 then d.usbReinit else d.usbPull
  else if a = 0xD118 then d.refreshPend
  else if within 0xD120 0xD140 then
    let k := (a - 0xD120) / 4
    if rose d0 d Reg.USB_STRM.SEN k then d.streamWritten k else d
  else d

/-- No requester reaches the bus: in reset, in GRAIN, and in an excursion from it. -/
def Device.busOff (d : Device) : Bool := d.power.devrst || d.power.por || d.hostless

/-- A write of the bits of a mask to the register at window address `a` (R6, R326); `own` marks a commit of the cyclic
port. -/
def Device.writeReg (d : Device) (own : Bool) (a data mask : Nat) : Device :=
  if d.busOff || d.usbHidden a then d
  else if a = 0x3000 then (if mask = 0xFFFFFFFF then d.doorbell data else d)
  else if a = 0x100 then d.raiseStrobes (data &&& mask)
  else if a = 0x3C then
    (if bitOf (data &&& mask) 0 then (d.each 5 (fun i d => d.wr Reg.ARB_WAIT.COUNT i 0)).wr Reg.ARB_AGED.COUNT 0 0 else d)
  else if 0x1000 ≤ a ∧ a < 0x1200 then d.writeRoute ((a - 0x1000) / 4) data mask
  else if 0x1300 ≤ a ∧ a < 0x1380 then d.writeScruple ((a - 0x1300) / 4) data mask
  else if a = 0x610 then d.writeOe false data mask
  else if a = 0x614 then d.writeOe true data mask
  else if 0xC400 ≤ a ∧ a < 0xCC00 ∧ d.stageLocked ((a - 0xC400) / 0x400) then d.imgEvt 7
  else (d.writeFields a data mask).afterWrite d own a data mask

/-- A whole-word write at a window address. -/
def Device.busWrite (d : Device) (a data : Nat) : Device := d.writeReg false a data 0xFFFFFFFF

/-- A write at an address of the window, the alias region or the SRAM window. -/
def Device.writeAt (d : Device) (own : Bool) (a data : Nat) : Device :=
  if a < 0x10000 then d.writeReg own a data 0xFFFFFFFF
  else if inAlias a then d.writeReg own (aliasTarget a).1 (data % 2 * 2 ^ (aliasTarget a).2) (2 ^ (aliasTarget a).2)
  else if inSram a then (if d.busOff then d else d.hostWrite a (leBytes 4 data))
  else d

/-- An address of a region of the map (R629). -/
def mapped (a : Nat) : Bool := decide (a < 0x10000) || (decide (0x100000 ≤ a) && decide (a < 0x900000)) || inSram a || inMram a

/-! ### The grain-clock edge (R303, R304, R307) -/

/-- Copies of class D: a value replaces its copy when this sample and the last agree. -/
def agreed (cur samp copy : RegFile) : RegFile :=
  cur.foldl (fun t p => if sparseGet p.1 samp = some p.2 then sparsePut p.1 p.2 t else t) copy

/-- All copies at a grain edge. -/
def Regs.edge (r : Regs) : Regs :=
  { r with
    bgCopy := r.bg
    ddCopy := agreed r.dd r.ddSamp r.ddCopy, ddSamp := r.dd
    ssCopy := agreed r.ssSnap r.ssSamp r.ssCopy, ssSamp := r.ssSnap }

/-- GRAIN_CLOCK_EDGE: GRAIN_CNT advances, the copies are refreshed, counts of occurrences age. -/
def Device.grainEdge (d : Device) : Device :=
  if d.power.por then d
  else
    let d := (d.setGrain (d.grain + 1)).refEdge
    let d := (List.range 25).foldl (fun d c => if d.events.units.any (fun x => x.cls == c) then d.refreshScr c else d) d
    let d := if d.power.devrst then d else d.showClocks
    { d with regs := d.regs.edge }

/-- GRAIN_CLOCK_EDGE (R6). -/
def execGrainClockEdge (s : State) : Host.Outcome State Fault Refusal := s.devStep Device.grainEdge

/-! ### The register rows -/

/-- REGISTER_WRITE (R6): a word-aligned write in a region of the map; any other address is a fault. -/
def execRegisterWrite (addr : BitVec 32) (data : Word) (s : State) : Host.Outcome State Fault Refusal :=
  if addr.toNat % 4 != 0 || !mapped addr.toNat then .fault (.noSuchAddress addr)
  else s.devStep (fun d => d.writeAt false addr.toNat data.toNat)
/-- BIT_ALIAS_WRITE (R327). -/
def execBitAliasWrite (addr : BitVec 32) (data : Word) (s : State) : Host.Outcome State Fault Refusal :=
  if addr.toNat % 4 != 0 || !(decide (0x100000 ≤ addr.toNat) && decide (addr.toNat < 0x900000)) then
    .fault (.noSuchAddress addr)
  else s.devStep (fun d => d.writeAt false addr.toNat data.toNat)
/-- LATCHED_LOW_WORD_READ (R309). -/
def execLatchedLowWordRead (req : Requester) (addr : BitVec 32) (s : State) : Host.Outcome State Fault Refusal :=
  if addr.toNat % 4 != 0 || !mapped addr.toNat then .fault (.noSuchAddress addr)
  else s.devStep (fun d =>
    if d.busOff then d
    else (d.readAt req addr.toNat).2.showRead req (d.readAt req addr.toNat).1)
/-- DOORBELL (R208). -/
def execDoorbell (data : Word) (s : State) : Host.Outcome State Fault Refusal :=
  s.devStep (fun d => d.busWrite (Reg.DOORBELL.DB.addr 0) data.toNat)
/-- UPDATE (R315, R316). -/
def execUpdate (data : Word) (s : State) : Host.Outcome State Fault Refusal :=
  s.devStep (fun d => d.busWrite (Reg.UPDATE.SG.addr 0) data.toNat)
/-- ARB_CLR (R19). -/
def execArbClr (data : Word) (s : State) : Host.Outcome State Fault Refusal :=
  s.devStep (fun d => d.busWrite (Reg.ARB_CLR.CLR.addr 0) data.toNat)
/-- RING_ENABLE (R209). -/
def execRingEnable (r : Fin 256) (data : Word) (s : State) : Host.Outcome State Fault Refusal :=
  s.devStep (fun d => d.busWrite (Reg.RING_CFG.EN.addr r) data.toNat)
/-- TL_CTRL_EN_WRITE (R313). -/
def execTlCtrlEnWrite (t : Fin 16) (data : Word) (s : State) : Host.Outcome State Fault Refusal :=
  s.devStep (fun d => d.busWrite (Reg.TL_CTRL.EN.addr t) data.toNat)
/-- CYC_REINIT (R268). -/
def execCycReinit (data : Word) (s : State) : Host.Outcome State Fault Refusal :=
  s.devStep (fun d => d.busWrite (Reg.CYC_CTRL.REINIT.addr 0) data.toNat)
/-- CYC_ENABLE (R270). -/
def execCycEnable (data : Word) (s : State) : Host.Outcome State Fault Refusal :=
  s.devStep (fun d => d.busWrite (Reg.CYC_CTRL.EN.addr 0) data.toNat)
/-- USB_REINIT (R297). -/
def execUsbReinit (data : Word) (s : State) : Host.Outcome State Fault Refusal :=
  s.devStep (fun d => d.busWrite (Reg.USB_CTRL.REINIT.addr 0) data.toNat)
/-- SOFT_DETACH_WRITE (R274). -/
def execSoftDetachWrite (data : Word) (s : State) : Host.Outcome State Fault Refusal :=
  s.devStep (fun d => d.busWrite (Reg.USB_CTRL.SOFT_DETACH.addr 0) data.toNat)
/-- USB_STREAM_ENABLE (R286). -/
def execUsbStreamEnable (k : Fin 8) (data : Word) (s : State) : Host.Outcome State Fault Refusal :=
  s.devStep (fun d => d.busWrite (Reg.USB_STRM.SEN.addr k) data.toNat)
/-- SCAN_ENABLE (R368). -/
def execScanEnable (data : Word) (s : State) : Host.Outcome State Fault Refusal :=
  s.devStep (fun d => d.busWrite (Reg.ADC_CTRL.SCAN_EN.addr 0) data.toNat)
/-- REFBUF_ENABLE (R369). -/
def execRefbufEnable (data : Word) (s : State) : Host.Outcome State Fault Refusal :=
  s.devStep (fun d => d.busWrite (Reg.ADC_CTRL.REFBUF_EN.addr 0) data.toNat)
/-- CAM_ENABLE (R426). -/
def execCamEnable (c : Fin 2) (data : Word) (s : State) : Host.Outcome State Fault Refusal :=
  s.devStep (fun d => d.busWrite (Reg.CAM_CTRL.EN.addr c) data.toNat)
/-- NE_ENABLE (R427). -/
def execNeEnable (data : Word) (s : State) : Host.Outcome State Fault Refusal :=
  s.devStep (fun d => d.busWrite (Reg.NE_CTRL.EN.addr 0) data.toNat)
/-- BM_ENABLE (R408). -/
def execBmEnable (data : Word) (s : State) : Host.Outcome State Fault Refusal :=
  s.devStep (fun d => d.busWrite (Reg.BM_CTRL.EN.addr 0) data.toNat)
/-- CD_ENABLE (R402). -/
def execCdEnable (k : Fin 2) (data : Word) (s : State) : Host.Outcome State Fault Refusal :=
  s.devStep (fun d => d.busWrite (Reg.CD_CFG.EN.addr k) data.toNat)
/-- AUD_ENABLE (R433). -/
def execAudEnable (data : Word) (s : State) : Host.Outcome State Fault Refusal :=
  s.devStep (fun d => d.busWrite (Reg.AUD_CTRL.AUD_EN.addr 0) data.toNat)
/-- KWS_ENABLE (R450). -/
def execKwsEnable (data : Word) (s : State) : Host.Outcome State Fault Refusal :=
  s.devStep (fun d => d.busWrite (Reg.AUD_CTRL.KWS_EN.addr 0) data.toNat)
/-- CLIP_EN_CHANGE (R445). -/
def execClipEnChange (data : Word) (s : State) : Host.Outcome State Fault Refusal :=
  s.devStep (fun d => d.busWrite (Reg.AUD_CTRL.CLIP_EN.addr 0) data.toNat)
/-- FUS_ENABLE (R468). -/
def execFusEnable (data : Word) (s : State) : Host.Outcome State Fault Refusal :=
  s.devStep (fun d => d.busWrite (Reg.FUS_CTRL.EN.addr 0) data.toNat)
/-- ADV_ENABLE (R466). -/
def execAdvEnable (c : Fin 8) (data : Word) (s : State) : Host.Outcome State Fault Refusal :=
  s.devStep (fun d => d.busWrite (Reg.ADV_CFG.EN.addr c) data.toNat)
/-- FAN_ENABLE (R488). -/
def execFanEnable (f : Fin 6) (data : Word) (s : State) : Host.Outcome State Fault Refusal :=
  s.devStep (fun d => d.busWrite (Reg.FAN_CTRL.EN.addr f) data.toNat)
/-- CHECKER_ENABLE (R561). -/
def execCheckerEnable (data : Word) (s : State) : Host.Outcome State Fault Refusal :=
  s.devStep (fun d => d.busWrite (Reg.CHK_CTRL.EN.addr 0) data.toNat)
/-- SDI_ENABLE (R81). -/
def execSdiEnable (m : Fin 16) (data : Word) (s : State) : Host.Outcome State Fault Refusal :=
  s.devStep (fun d => d.busWrite (Reg.SDI_CFG.EN.addr m) data.toNat)
/-- QE_ENABLE (R84). -/
def execQeEnable (k : Fin 8) (data : Word) (s : State) : Host.Outcome State Fault Refusal :=
  s.devStep (fun d => d.busWrite (Reg.QE_CFG.EN.addr k) data.toNat)
/-- SPM_ENABLE (R108). -/
def execSpmEnable (p : Fin 4) (data : Word) (s : State) : Host.Outcome State Fault Refusal :=
  s.devStep (fun d => d.busWrite (Reg.SPM_CTRL.EN.addr p) data.toNat)
/-- BM_HINT_WRITE (R406). -/
def execBmHintWrite (c : Fin 2) (data : Word) (s : State) : Host.Outcome State Fault Refusal :=
  s.devStep (fun d => d.busWrite (Reg.BM_HINT.DX.addr c) data.toNat)
/-- WAKE_REASON_CLEAR (R353). -/
def execWakeReasonClear (data : Word) (s : State) : Host.Outcome State Fault Refusal :=
  s.devStep (fun d => d.busWrite (Reg.WAKE_REASON.REASON.addr 0) data.toNat)
/-- GPIO_OE_WRITE (R591). -/
def execGpioOeWrite (high : Bool) (data : Word) (s : State) : Host.Outcome State Fault Refusal :=
  s.devStep (fun d =>
    d.busWrite (if high then Reg.GPIO_OE_H.OE.addr 0 else Reg.GPIO_OE_L.OE.addr 0) data.toNat)

end Sys2Proof.Machine
end

