-- ==== Sys2Proof/Machine/Cyclic.lean ====
section
/-! DEFINITION. The cyclic command port: the frozen reply, the judgement and commit of a request, the silent master
(chapter 08). -/
namespace Sys2Proof.Machine

/-! ### Words and their CRC (R246, R253) -/

/-- The CRC word of a frame whose other words are these (R246). -/
def frameCrc (ws : List Word) : Nat := crcBits (ws.flatMap (fun w => msbBits 32 w.toNat))

/-- The bytes of words, least significant first (R253). -/
def wordsBytes (ws : List Word) : List Byte := ws.flatMap (fun w => leBytes 4 w.toNat)

/-- The words of bytes, least significant first (R253). -/
def bytesWords : List Byte → List Word
  | a :: b :: c :: e :: t => BitVec.ofNat 32 (ofLe [a, b, c, e]) :: bytesWords t
  | _ => []

/-! ### The reply (R259 to R264) -/

/-- The published snapshot value of a field of axis `n` (R74). -/
def Device.snap (d : Device) (f : Field) (n : Nat) : Nat := (sparseGet (f.key n) d.regs.ssSnap).getD (f.reset n)

/-- The two live-block words of axis `n` (R263). -/
def Device.liveWords (d : Device) (n : Nat) : List Word :=
  let b := d.snap Reg.AX_STAT.STATE n + 2 ^ 4 * d.snap Reg.AX_STAT.POS_STATE n + 2 ^ 6 * nth 0 n d.cyclic.live
    + 2 ^ 16 * (d.snap Reg.VEL.VEL n / 2 ^ 16)
  [BitVec.ofNat 32 (d.snap Reg.POS_L.POS n), BitVec.ofNat 32 b]

/-- LOST_VALID of MB_EVT. -/
def Device.lostValid (d : Device) : Bool := bitOf (d.rd Reg.MB_EVT.CAUSE) 6

/-- The reply that a freeze makes, DALIVE having advanced (Table 8.4). -/
def Device.replyNow (d : Device) : List Word :=
  let w := d.cycWords
  let live := d.liveAxes.flatMap (fun n => d.liveWords n)
  let reads := d.cyclic.readData
  let room := w - 4 - live.length - reads.length
  let held := if d.ringOn 1 then d.ringCount 1 else 0
  let n := min (min held (room / 8)) 255
  let ci := d.rd Reg.RING_CI.CI 1
  let cpls := (List.range n).flatMap (fun j => bytesWords (d.bytes (d.ringAddr 1 (ci + j)) 32))
  let free := if d.ringOn 0 then min 255 (d.ringSize 0 - d.ringCount 0) else 0
  let w0 := d.rd Reg.CYC_STAT.DALIVE * 2 ^ 28 + 5 * 2 ^ 24 + d.rd Reg.CYC_STAT.ALIVE_REF * 2 ^ 20
    + d.rd Reg.CYC_STAT.LAST_RES * 2 ^ 16 + d.cyclic.skip * 2 ^ 12 + min 15 d.cyclic.badCnt * 2 ^ 8
    + d.rd Reg.CYC_STAT.HIST
  let w1 := d.evtSum 5 + d.rd Reg.IMG_STAT.RESTRICTED * 2 ^ 16 + d.mode * 2 ^ 17 + b2n (!d.pads.sstopN) * 2 ^ 19
    + b2n d.lostValid * 2 ^ 20
  let w2 := ci % 256 + n * 2 ^ 8 + free * 2 ^ 16 + reads.length % 256 * 2 ^ 24
  let body := [BitVec.ofNat 32 w0, BitVec.ofNat 32 w1, BitVec.ofNat 32 w2] ++ live ++ reads ++ cpls
  let body := (body ++ List.replicate (w - 1 - body.length) 0).take (w - 1)
  body ++ [BitVec.ofNat 32 (frameCrc body)]

/-- SCS_N is asserted (R248, R260, R354): the reply is frozen and DALIVE advances. In GRAIN it is a wake source instead,
and that frame will not be judged. A freeze that meets a change of the bus clock follows it (R269). Whether a freeze
took longer than 0.5 µs is free where the spec gives only a bound. -/
def Device.freeze (d : Device) : Device :=
  let d := d.setScsN false
  if d.power.grain then (d.wakeLatch 5).modCyclic (fun c => { c with unjudged := true })
  else if !d.cycOn || d.cyclic.frozen || d.cyclic.unjudged || d.busClockStep then d
  else
    let d := d.wr Reg.CYC_STAT.DALIVE 0 (d.rd Reg.CYC_STAT.DALIVE + 1)
    let d := d.modCyclic (fun c => { c with frozen := true, reply := d.replyNow })
    if d.liveAxes.isEmpty && !d.motionRuns then d
    else
      let (k, d) := d.draw
      if Config.freezeLong k then d.countSat Reg.CYC_STRETCH.COUNT else d

/-- REPLY_FREEZE (R248). -/
def execReplyFreeze (s : State) : Host.Outcome State Fault Refusal := s.devStep Device.freeze

/-! ### The items of a request (R250 to R253) -/

/-- An item of a request (Table 8.2). -/
inductive CycItem where
  | write (addr : Nat) (data : List Word)
  | read (addr count : Nat)
  | cmd (bytes : List Byte)
deriving DecidableEq, Repr

/-- Words from `addr` on that the port may read, or write (R252). -/
def cycReach (write : Bool) (addr n : Nat) : Bool :=
  addr % 4 == 0 && (List.range n).all (fun j =>
    let a := addr + 4 * j
    (decide (a < 0x10000) || (decide (0x100000 ≤ a) && decide (a < 0x900000)))
      && !(write && (a == 0x3000 || (decide (0x160000 ≤ a) && decide (a < 0x160080)))))

/-- The item that starts a list of item words, and how many words it takes; `none` for an item that is refused. -/
def itemAt (w : Word) (rest : List Word) : Option (CycItem × Nat) :=
  let type := bitsOf w.toNat 28 4
  let count := bitsOf w.toNat 24 4
  let addr := bitsOf w.toNat 0 24
  if type = 1 then
    if count + 1 ≤ rest.length ∧ cycReach true addr (count + 1) then some (.write addr (rest.take (count + 1)), count + 1)
    else none
  else if type = 2 then (if cycReach false addr (count + 1) then some (.read addr (count + 1), 0) else none)
  else if type = 3 then
    (if count = 0 ∧ addr = 0 ∧ 16 ≤ rest.length then some (.cmd (wordsBytes (rest.take 16)), 16) else none)
  else none

/-- The items of the words between header and CRC, up to an END (R251); `none` where one is refused. The number
bounds the items by the words. -/
def parseItems : Nat → List Word → Option (List CycItem)
  | 0, _ => some []
  | _, [] => some []
  | k + 1, w :: rest =>
    if w = 0 then some []
    else match itemAt w rest with
      | none => none
      | some (i, n) => (parseItems k (rest.drop n)).map (fun l => i :: l)

/-- Words that the READ items of a request read (R264). -/
def readWords (items : List CycItem) : Nat :=
  (items.map (fun (i : CycItem) => match i with
    | .read _ n => n
    | .write _ _ => 0
    | .cmd _ => 0)).sum

/-- The command entries of a request, in item order. -/
def cmdEntries (items : List CycItem) : List (List Byte) :=
  items.filterMap (fun (i : CycItem) => match i with
    | .cmd b => some b
    | .read _ _ => none
    | .write _ _ => none)

/-! ### The judgement (R254 to R256, Table 8.3) -/

/-- The step by which CPL_CI would move RG001's consumer index (R257). -/
def Device.ackStep (d : Device) (w0 : Nat) : Nat := (bitsOf w0 16 8 + 256 - d.rd Reg.RING_CI.CI 1 % 256) % 256

/-- RES of a request of the right length with a good CRC, and its items. -/
def Device.judgeWords (d : Device) (ws : List Word) : Nat × List CycItem :=
  let w0 := (nth 0 0 ws).toNat
  let w := d.cycWords
  if bitsOf w0 24 4 ≠ 0xA ∨ bitsOf w0 0 16 ≠ 0 then (4, [])
  else if d.on Reg.CYC_STAT.REF_VALID ∧ bitsOf w0 28 4 = d.rd Reg.CYC_STAT.ALIVE_REF then (5, [])
  else match parseItems w ((ws.drop 1).take (w - 2)) with
    | none => (7, [])
    | some items =>
      let cmds := (cmdEntries items).length
      if w < 4 + 2 * d.liveAxes.length + readWords items then (7, [])
      else if d.ringOn 1 ∧ d.ringCount 1 < d.ackStep w0 then (0xA, [])
      else if cmds ≠ 0 ∧ !d.ringOn 0 then (9, [])
      else if cmds ≠ 0 ∧ !d.ringRoom 0 cmds then (8, [])
      else (0, items)

/-- RES of a request of which `bits` rising edges came (Table 8.3): edges without a frozen reply, too, came while SRDY
was low. -/
def Device.judgeFrame (d : Device) (edges : SckEdges) (bits : Nat) (frame : List Word) : Nat × List CycItem :=
  let w := d.cycWords
  let ws := (frame ++ List.replicate w 0).take w
  if edges = .early ∨ !d.cyclic.frozen then (6, [])
  else if bits < 32 * w then (2, [])
  else if 32 * w < bits then (3, [])
  else if (nth 0 (w - 1) ws).toNat ≠ frameCrc (ws.take (w - 1)) then (1, [])
  else d.judgeWords ws

/-! ### The commit (R257, R258) -/

/-- One item other than a command: writes, and reads taken at their place in the order. -/
def Device.doItem (d : Device) (i : CycItem) : Device :=
  match i with
  | .write a data => data.zipIdx.foldl (fun (d : Device) (p : Word × Nat) => d.writeAt true (a + 4 * p.2) p.1.toNat) d
  | .read a n => (List.range n).foldl (fun (d : Device) j =>
      let (v, d) := d.readAt .cyclic (a + 4 * j)
      d.modCyclic (fun c => { c with readData := c.readData ++ [BitVec.ofNat 32 v] })) d
  | .cmd _ => d

/-- Entries written to a command ring from its producer index on, published as one doorbell (R205, R257, R280); a ring
that the commit itself has disabled or filled gives DB_REJECT (R208). -/
def Device.publishEntries (d : Device) (r : Nat) (es : List (List Byte)) : Device :=
  if d.ringRoom r es.length then es.foldl (fun d bs => d.ringPut r bs) d else d.mbEvt 0

/-- The commit of an accepted request. -/
def Device.commitFrame (d : Device) (w0 : Nat) (items : List CycItem) : Device :=
  let d := d.modCyclic (fun c => { c with readData := [] })
  let d := if d.ringOn 1 then d.wr Reg.RING_CI.CI 1 (d.rd Reg.RING_CI.CI 1 + d.ackStep w0) else d.mbEvt 0
  let d := items.foldl (fun d i => d.doItem i) d
  if (cmdEntries items).isEmpty then d else d.publishEntries 0 (cmdEntries items)

/-- What a refused frame leaves (R256, R259, R260, R267). -/
def Device.refuseFrame (d : Device) (res : Nat) : Device :=
  let d := d.modCyclic (fun c => { c with skip := 0, badCnt := min 15 (c.badCnt + 1), readData := [] })
  let d := (d.countSat Reg.CYC_BAD.COUNT).cycEvt 0
  let d := if res = 5 then d.cycEvt 2 else if res = 6 then d.cycEvt 3 else if res = 8 then d.cycEvt 4 else d
  d.occur 0x09 0

/-- What an accepted frame leaves beside its commit (R255, R266). -/
def Device.admitFrame (d : Device) (w0 : Nat) (items : List CycItem) : Device :=
  let alive := bitsOf w0 28 4
  let skip := if d.on Reg.CYC_STAT.REF_VALID then (alive + 16 - (d.rd Reg.CYC_STAT.ALIVE_REF + 1) % 16) % 16 else 0
  let d := d.commitFrame w0 items
  let d := d.modCyclic (fun c => { c with skip := skip, badCnt := 0, releasedAt := d.loops })
  let d := (d.wr Reg.CYC_STAT.ALIVE_REF 0 alive).wr Reg.CYC_STAT.REF_VALID 0 1
  let d := d.countSat Reg.CYC_OK.COUNT
  let d := if skip = 0 then d
    else (d.wr Reg.CYC_SKIPS.COUNT 0 (min (2 ^ 32 - 1) (d.rd Reg.CYC_SKIPS.COUNT + skip))).cycEvt 1
  let d := if d.on Reg.CYC_STAT.MASTER_LOST then (d.wr Reg.CYC_STAT.MASTER_LOST 0 0).cycEvt 9 else d
  d.clearLatch 0x0A 0

/-- A request that received an SCK edge is judged, and committed if accepted; a restart that the commit wrote follows it
(R254, R268). -/
def Device.judged (d : Device) (edges : SckEdges) (bits : Nat) (frame : List Word) : Device :=
  let (res, items) := d.judgeFrame edges bits frame
  let d := if res = 0 then d.admitFrame (nth 0 0 frame).toNat items else d.refuseFrame res
  let d := d.wr Reg.CYC_STAT.LAST_RES 0 res
  let d := d.wr Reg.CYC_STAT.HIST 0 (d.rd Reg.CYC_STAT.HIST * 2 + b2n (res == 0))
  match d.cyclic.restartDue with
  | some reinit => (d.cycRestart reinit).cycStop
  | none => d.cycStop

/-- SCS_N is released (R254). The frame whose fall woke the device from GRAIN is not judged (R354); a pulse without an
SCK edge changes nothing (R256). -/
def Device.releaseFrame (d : Device) (edges : SckEdges) (bits : Nat) (frame : List Word) : Device :=
  let d := d.setScsN true
  if d.cyclic.unjudged then d.modCyclic (fun c => { c with unjudged := false })
  else if !d.cycOn ∨ edges = .none then d.cycStop
  else d.judged edges bits frame

/-- CYCLIC_FRAME (R254). -/
def execCyclicFrame (sck : SckPulses) (frame : List Word) (s : State) : Host.Outcome State Fault Refusal :=
  s.devStep (fun d => d.releaseFrame sck.edges sck.bits.toNat frame)

/-! ### A silent master (R265, R267) -/

/-- At a tick boundary LOSS_TMO ms, 40 loop periods each, have passed since the last accepted release (R265):
MASTER_LOST, and LOSS_ACT on the moving axes of LOSS_MASK. -/
def Device.masterLost (d : Device) : Device :=
  let tmo := d.rd Reg.CYC_CFG.LOSS_TMO
  if !d.motionRuns || tmo = 0 || !d.on Reg.CYC_STAT.REF_VALID || d.on Reg.CYC_STAT.MASTER_LOST
      || d.loops - d.cyclic.releasedAt ≤ 40 * tmo then d
  else
    let d := ((d.wr Reg.CYC_STAT.MASTER_LOST 0 1).cycEvt 8).occur 0x0A 0
    let act := d.rd Reg.CYC_CFG.LOSS_ACT
    let hit := (List.range 64).filter (fun n => bitOf (d.rd Reg.LOSS_MASK.MASK (n / 32)) (n % 32) && d.stoppable n)
    if act = 0 then d
    else
      let d := hit.foldl (fun d n => d.askStop n 6) d
      if act = 1 then d else hit.foldl (fun d n => d.flushAxis n .cancelled) d

/-- MASTER_LOST (R265). -/
def execMasterLost (s : State) : Host.Outcome State Fault Refusal := s.devStep Device.masterLost

end Sys2Proof.Machine
end

