-- ==== Sys2Proof/Machine/Usb.lean ====
section
/-! DEFINITION. The USB service port and the console (chapter 09). -/
namespace Sys2Proof.Machine

/-- The port serves its endpoints: configured, its clock running, in no test mode (R275, R288, Table 9.1). -/
def Device.usbServes (d : Device) : Bool :=
  d.usbPresent && d.rd Reg.USB_STAT.STATE == 4 && d.running && !d.hostless && d.usb.test == 0

/-- An endpoint is not halted: 0 EP1 OUT, 1 to 3 EP1 IN to EP3 IN. -/
def Device.epRuns (d : Device) (k : Nat) : Bool := d.usbServes && !bitOf d.usb.halted k

/-! ### EP1 OUT (R277 to R281) -/

/-- A message of an OUT transfer (Table 9.3). -/
structure UsbMsg where
  type : Nat
  seq : Nat
  addr : Nat
  body : List Byte
deriving DecidableEq, Repr

/-- Bytes that a READ asks for. -/
def UsbMsg.count (m : UsbMsg) : Nat := ofLe m.body

/-- The length of a message is one that Table 9.3 gives for its type. -/
def UsbMsg.lengthOk (m : UsbMsg) : Bool :=
  let n := m.body.length
  if m.type = 1 then n % 64 == 0 && decide (64 ≤ n) && decide (n ≤ 1024) && m.addr == 0
  else if m.type = 2 then n % 4 == 0 && decide (4 ≤ n) && decide (n ≤ 1024)
  else if m.type = 3 then
    n == 4 && m.count % 4 == 0 && decide (4 ≤ m.count) && decide (m.count ≤ 1024)
  else false

/-- The messages of a transfer, or the index of the first that Table 9.3 does not allow; the number bounds the
messages by the bytes. -/
def parseMsgs : Nat → Nat → List Byte → Except Nat (List UsbMsg)
  | 0, _, _ => .ok []
  | k + 1, i, bs =>
    if bs.isEmpty then .ok []
    else
      let len := ofLe ((bs.drop 2).take 2)
      let m : UsbMsg := ⟨(nth 0 0 bs).toNat, (nth 0 1 bs).toNat, ofLe ((bs.drop 4).take 4), (bs.drop 8).take len⟩
      if bs.length < 8 + len || !m.lengthOk then .error i
      else match parseMsgs k (i + 1) (bs.drop (8 + len)) with
        | .ok ms => .ok (m :: ms)
        | .error j => .error j

/-- `n` bytes from `a` lie whole in `lo` to `hi - 1`. -/
def within (lo hi a n : Nat) : Bool := decide (lo ≤ a) && decide (a + n ≤ hi)

/-- The addresses a READ or WRITE may name (R278, R279); no write names DOORBELL by an alias, the rings of QP1, or a
consumer index that a stream slot holds. -/
def Device.usbAddrOk (d : Device) (m : UsbMsg) : Bool :=
  if m.type = 1 then true
  else if m.addr % 4 ≠ 0 then false
  else if m.type = 3 then
    within 0 0x10000 m.addr m.count || within 0x100000 0x900000 m.addr m.count
      || within 0x10000000 0x11000000 m.addr m.count || within 0x20000000 0x20800000 m.addr m.count
  else
    let n := m.body.length
    if within 0 0x10000 m.addr n then
      if m.addr ≤ 0x3000 ∧ 0x3000 < m.addr + n then
        let v := ofLe ((m.body.drop (0x3000 - m.addr)).take 4)
        let r := bitsOf v 24 8
        r != 2 && r != 3 && !(bitOf v 23 && (List.range 8).any (fun k =>
          d.on Reg.USB_STRM.SEN k && d.rd Reg.USB_STRM.RING k == r))
      else true
    else if within 0x100000 0x900000 m.addr n then m.addr + n ≤ 0x160000 || 0x160080 ≤ m.addr
    else within 0x10000000 0x11000000 m.addr n

/-- The command entries that a message carries. -/
def UsbMsg.entries (m : UsbMsg) : List (List Byte) :=
  if m.type = 1 then (List.range (m.body.length / 64)).map (fun k => (m.body.drop (64 * k)).take 64) else []

/-- The first message by which RG002 lacks room (R279). -/
def Device.usbFull (d : Device) (ms : List UsbMsg) : Option Nat :=
  (List.range ms.length).find? (fun i =>
    let k := ((ms.take (i + 1)).map (fun (m : UsbMsg) => m.entries.length)).sum
    k != 0 && !d.ringRoom 2 k)

/-- RES of an OUT transfer, the index of the first refused message, and its messages (R279). -/
def Device.judgeTransfer (d : Device) (bs : List Byte) : Nat × Nat × List UsbMsg :=
  if 4096 < bs.length then (1, 0, [])
  else match parseMsgs (bs.length + 1) 0 bs with
    | .error i => (2, i, [])
    | .ok ms =>
      match (List.range ms.length).find? (fun i => !d.usbAddrOk (nth ⟨0, 0, 0, []⟩ i ms)) with
      | some i => (3, i, [])
      | none =>
        match (if d.ringOn 2 then none else ms.findIdx? (fun (m : UsbMsg) => m.type == 1)) with
        | some i => (4, i, [])
        | none => match d.usbFull ms with
          | some i => (5, i, [])
          | none => (0, 0, ms)

/-- The header of a message. -/
def usbHeader (type seq len addr : Nat) : List Byte :=
  leBytes 1 type ++ leBytes 1 seq ++ leBytes 2 len ++ leBytes 4 addr

/-- A message is queued on EP1 IN. -/
def Device.queueIn (d : Device) (bs : List Byte) : Device :=
  let mark := d.rd Reg.RING_PI.PI 3
  d.modUsb (fun u => { u with ep1 := u.ep1 ++ [(mark, bs)] })

/-- Bytes read from `a` on, a word at a time. -/
def Device.usbRead (d : Device) (a n : Nat) : List Byte × Device :=
  (List.range (n / 4)).foldl (fun (p : List Byte × Device) j =>
    let (v, d) := p.2.readAt .usb (a + 4 * j)
    (p.1 ++ leBytes 4 v, d)) ([], d)

/-- Words written from `a` on. -/
def Device.usbWrite (d : Device) (a : Nat) (body : List Byte) : Device :=
  (List.range (body.length / 4)).foldl (fun (d : Device) j =>
    d.writeAt false (a + 4 * j) (ofLe ((body.drop (4 * j)).take 4))) d

/-- The WRITE and READ messages in message order; the DATA messages that answer the reads (R280). -/
def Device.usbAccess (d : Device) (ms : List UsbMsg) : List (List Byte) × Device :=
  ms.foldl (fun (p : List (List Byte) × Device) (m : UsbMsg) =>
    if m.type = 2 then (p.1, p.2.usbWrite m.addr m.body)
    else if m.type = 3 then
      let (bs, d) := p.2.usbRead m.addr m.count
      (p.1 ++ [usbHeader 0x82 m.seq m.count m.addr ++ bs], d)
    else p) ([], d)

/-- The commit of an accepted transfer, and its DATA messages (R280). -/
def Device.commitTransfer (d : Device) (ms : List UsbMsg) : List (List Byte) × Device :=
  let (answers, d) := d.usbAccess ms
  let es := ms.flatMap UsbMsg.entries
  (answers, (if es.isEmpty then d else d.publishEntries 2 es).count Reg.USB_XFER.COUNT)

/-- An OUT transfer has ended (R279 to R281): judged whole, committed or refused; DATA and STATUS are queued unless
its own commit detached the port. -/
def Device.outTransfer (d : Device) (bs : List Byte) : Device :=
  if !d.epRuns 0 then d
  else
    let (res, i, ms) := d.judgeTransfer bs
    let (answers, d) :=
      if res = 0 then d.commitTransfer ms
      else ([], ((d.count Reg.USB_REFUSED.COUNT).wr Reg.USB_REFUSED.LAST_RES 0 res).usbEvt 8)
    if !d.usbServes then d
    else
      let d := answers.foldl Device.queueIn d
      let d := d.queueIn (usbHeader 0x81 0 4 d.usb.xferNo.toNat ++ leBytes 1 res ++ leBytes 1 i ++ leBytes 2 0)
      d.modUsb (fun u => { u with xferNo := u.xferNo + 1 })

/-- USB_OUT_TRANSFER (R279). -/
def execUsbOutTransfer (bytes : List Byte) (s : State) : Host.Outcome State Fault Refusal :=
  s.devStep (fun d => d.outTransfer bytes)

/-! ### EP1 IN (R281, R282) -/

/-- An EP1 IN transfer: messages of the queue it carries, where each completion of RG003 ends in it, bytes. The queue's
head waits until the completions published before it have gone; the number bounds the messages. -/
def Device.inTransfer (d : Device) :
    Nat → List (Nat × List Byte) → Nat → List Nat → List Byte → Nat × List Nat × List Byte
  | 0, _, m, ends, bs => (m, ends, bs)
  | k + 1, q, m, ends, bs =>
    let ci := d.rd Reg.RING_CI.CI 3 + ends.length
    let left := if d.ringOn 3 then d.ringCount 3 - ends.length else 0
    let before := match q with
      | [] => left
      | (mark, _) :: _ => let n := (mark + 2 ^ 32 - ci % 2 ^ 32) % 2 ^ 32; if n ≤ left then n else 0
    let n := min 16 before
    if n ≠ 0 then
      let more := usbHeader 0x83 0 (32 * n) ci
        ++ (List.range n).flatMap (fun j => d.bytes (d.ringAddr 3 (ci + j)) 32)
      if bs.length + more.length ≤ 4096 then
        d.inTransfer k q m (ends ++ (List.range n).map (fun j => bs.length + 8 + 32 * (j + 1))) (bs ++ more)
      else (m, ends, bs)
    else match q with
      | [] => (m, ends, bs)
      | (_, msg) :: rest =>
        if bs.length + msg.length ≤ 4096 then d.inTransfer k rest (m + 1) ends (bs ++ msg) else (m, ends, bs)

/-- Bytes of a bulk packet (Table 9.2). -/
def Device.bulkPacket (d : Device) : Nat := if d.on Reg.USB_STAT.HS then 512 else 64

/-- The host acknowledges the next packet of an IN transfer (R282, R285): the ring's consumer index passes the entries
whose last byte it carried. A short or empty packet ends the transfer. -/
def Device.ackPacket (d : Device) (x : InXfer) : Option InXfer × Device :=
  let size := d.bulkPacket
  let upto := min x.bytes.length (x.acked + size)
  let n := (x.ends.filter (fun e => decide (x.acked < e) && decide (e ≤ upto))).length
  let d := if d.ringOn x.ring then d.wr Reg.RING_CI.CI x.ring (d.rd Reg.RING_CI.CI x.ring + min n (d.ringCount x.ring)) else d
  (if upto < x.acked + size then none else some { x with acked := upto }, d)

/-- The next EP1 IN transfer begins, if there is anything to send and none is under way. -/
def Device.beginIn (d : Device) : Device :=
  if d.usb.ep1In.isSome then d
  else
    let (m, ends, bs) := d.inTransfer 4096 d.usb.ep1 0 [] []
    if bs.isEmpty then d else d.modUsb (fun u => { u with ep1 := u.ep1.drop m, ep1In := some ⟨3, bs, 0, ends⟩ })

/-- The host takes a packet of EP1 IN and acknowledges it. -/
def Device.ackEp1 (d : Device) : Device :=
  if !d.epRuns 1 then d
  else
    let d := d.beginIn
    match d.usb.ep1In with
    | none => d
    | some x =>
      let (rest, d) := d.ackPacket x
      d.modUsb (fun u => { u with ep1In := rest, sent1 := (x.bytes.drop x.acked).take d.bulkPacket })

/-- The host acknowledges the EP2 report. -/
def Device.ackEp2 (d : Device) : Device := if d.epRuns 2 then d.modUsb (fun u => { u with ep2Sent := false }) else d

/-- The host acknowledges a packet of the burst in flight (R285). -/
def Device.ackEp3 (d : Device) : Device :=
  match d.usb.ep3In with
  | some x =>
    if d.epRuns 3 then
      let (rest, d) := d.ackPacket x
      d.modUsb (fun u => { u with ep3In := rest })
    else d
  | none => d

/-- USB_IN_ACK (R282). -/
def execUsbInAck (ep : InEndpoint) (s : State) : Host.Outcome State Fault Refusal :=
  s.devStep (fun d => match ep with
    | .ep1 => d.ackEp1
    | .ep2 => d.ackEp2
    | .ep3 => d.ackEp3)

/-! ### EP2 and EP3 (R284, R285) -/

/-- The flag byte but for MORE (Table 9.4). -/
def Device.reportFlags (d : Device) : Nat :=
  b2n (d.rd Reg.USB_RWAKE.PEND != 0) + 2 * b2n d.lostValid + 4 * d.rd Reg.IMG_STAT.RESTRICTED
    + 8 * b2n (!d.pads.sstopN) + 16 * d.mode

/-- An EP2 poll (R284): the report not yet acknowledged again, a new report after a change, or NAK. Events beyond
four go into the next report. -/
def Device.pollEp2 (d : Device) : Device :=
  if !d.epRuns 2 || d.usb.ep2Sent then d
  else
    let sum := d.evtSum 4
    let flags := d.reportFlags
    let u := d.usb
    if sum = u.ep2Sum ∧ flags = u.ep2Flags ∧ u.ep2New = [] then d.modUsb (fun u => { u with sent2 := [] })
    else
      let now := u.ep2New.take 4
      let seq := Config.firstReport + u.ep2Seq
      let report := leBytes 2 sum ++ leBytes 1 seq.toNat ++ leBytes 1 (flags + 64 * b2n (decide (4 < u.ep2New.length)))
        ++ leBytes 4 d.loops ++ now.flatMap (leBytes 2) ++ List.replicate (8 - 2 * now.length) 0xFF
      d.modUsb (fun u => { u with
        ep2Sum := sum, ep2Flags := flags, ep2Seq := u.ep2Seq + 1, ep2New := u.ep2New.drop 4, ep2Sent := true
        sent2 := report })

/-- EP2_POLL (R284). -/
def execEp2Poll (s : State) : Host.Outcome State Fault Refusal := s.devStep Device.pollEp2

/-- The slot whose turn it is: the first from `turn` on that is enabled and whose ring holds entries. -/
def Device.streamTurn (d : Device) : Option Nat :=
  ((List.range 8).map (fun j => (d.usb.turn + j) % 8)).find? (fun k =>
    d.on Reg.USB_STRM.SEN k && d.ringOn (d.rd Reg.USB_STRM.RING k) && d.ringCount (d.rd Reg.USB_STRM.RING k) != 0)

/-- A burst of the slot whose turn it is (R285); one in flight is sent again unchanged. -/
def Device.burst (d : Device) : Device :=
  if !d.epRuns 3 || d.usb.ep3In.isSome then d
  else match d.streamTurn with
    | none => d.modUsb (fun u => { u with sent3 := [] })
    | some k =>
      let r := d.rd Reg.USB_STRM.RING k
      let es := d.ringEsize r
      let ci := d.rd Reg.RING_CI.CI r
      let n := min (d.ringCount r) ((4096 - 8) / es)
      let bs := leBytes 1 r ++ leBytes 1 (d.rd Reg.RING_CFG.ESIZE r) ++ leBytes 2 n ++ leBytes 4 ci
        ++ (List.range n).flatMap (fun j => d.bytes (d.ringAddr r (ci + j)) es)
      let ends := (List.range n).map (fun j => 8 + es * (j + 1))
      d.modUsb (fun u => { u with ep3In := some ⟨r, bs, 0, ends⟩, turn := (k + 1) % 8, sent3 := bs })

/-- EP3_BURST (R285). -/
def execEp3Burst (s : State) : Host.Outcome State Fault Refusal := s.devStep Device.burst

/-! ### EP0 (R273, R276) -/

/-- One hexadecimal digit of the serial number as ASCII. -/
def hexDigit (v : Nat) : Nat := if v < 10 then 0x30 + v else (if Config.serialLower then 0x61 else 0x41) + v - 10

/-- The serial-number string descriptor: the 16 hexadecimal digits of the unique identifier. -/
def serialDescriptor : List Byte :=
  [34, 3] ++ (List.range 16).flatMap (fun k => leBytes 2 (hexDigit (bitsOf Config.deviceUid.toNat (60 - 4 * k) 4)))

/-- The device descriptor. bcdDevice is the running host image's major and minor version. -/
def Device.deviceDescriptor (d : Device) : List Byte :=
  let version (off : Nat) : Nat := match d.keep.slot with
    | some s => d.manifest s 0 1 off
    | none => 0
  [18, 1, Config.usbNumber 0, Config.usbNumber 1, 0, 0, 0, 64] ++ leBytes 2 0x2F4D ++ leBytes 2 0x8064
    ++ leBytes 1 (version 9) ++ leBytes 1 (version 8)
    ++ [Config.usbNumber 2, Config.usbNumber 3, Config.usbNumber 4, 1]

/-- One endpoint descriptor. -/
def endpointDescriptor (addr attr size interval : Nat) : List Byte :=
  [7, 5] ++ leBytes 1 addr ++ leBytes 1 attr ++ leBytes 2 size ++ leBytes 1 interval

/-- The configuration descriptor of a speed: one self-powered configuration with remote wake, one vendor-specific
interface, the endpoints of Table 9.2. `type` is 2, or 7 for the other speed. -/
def Device.configDescriptor (d : Device) (type : Byte) (hs : Bool) : List Byte :=
  let bulk := if hs then 512 else 64
  let k := d.rd Reg.USB_CFG.EP2_INT
  [9, type, 46, 0, 1, 1, Config.usbNumber 5, 0xE0, 0] ++ [9, 4, 0, 0, 4, 0xFF, 0, 0, Config.usbNumber 6]
    ++ endpointDescriptor 0x01 2 bulk 0 ++ endpointDescriptor 0x81 2 bulk 0
    ++ endpointDescriptor 0x82 3 16 (if hs then k + 1 else 2 ^ k) ++ endpointDescriptor 0x83 2 bulk 0

/-- A descriptor by type and index; `none` where the device has none. -/
def Device.descriptor (d : Device) (type index : Nat) : Option (List Byte) :=
  let hs := d.on Reg.USB_STAT.HS
  if type = 1 then some d.deviceDescriptor
  else if type = 2 then (if index = 0 then some (d.configDescriptor 2 hs) else none)
  else if type = 3 then some (if index ≠ 0 ∧ index = (Config.usbNumber 4).toNat then serialDescriptor else Config.usbString index)
  else if type = 6 then
    (if d.on Reg.USB_CFG.HS_EN then
      some [10, 6, Config.usbNumber 0, Config.usbNumber 1, 0, 0, 0, 64, 1, 0] else none)
  else if type = 7 then (if index = 0 ∧ d.on Reg.USB_CFG.HS_EN then some (d.configDescriptor 7 (!hs)) else none)
  else if type = 0x0F then some ([5, 0x0F, 12, 0, 1] ++ [7, 0x10, 2, 0, 0, 0, 0])
  else none

/-- The halt bit of an endpoint address. -/
def haltBit (addr : Nat) : Option Nat :=
  if addr = 0x01 then some 0 else if addr = 0x81 then some 1 else if addr = 0x82 then some 2
  else if addr = 0x83 then some 3 else none

/-- EP0 answers with data, cut to what the host asked for. -/
def Device.ep0Data (d : Device) (bs : List Byte) (len : Nat) : Device :=
  d.modUsb (fun u => { u with ep0 := some (bs.take len) })

/-- EP0 stalls. -/
def Device.ep0Stall (d : Device) : Device := d.modUsb (fun u => { u with ep0 := none })

/-- SET_FEATURE and CLEAR_FEATURE of the device: 1 DEVICE_REMOTE_WAKEUP, 2 TEST_MODE. -/
def Device.deviceFeature (d : Device) (on : Bool) (feature selector : Nat) : Device :=
  if feature = 1 then (d.wr Reg.USB_STAT.RWAKE_FEAT 0 (b2n on)).ep0Data [] 0
  else if feature = 2 ∧ on ∧ 1 ≤ selector ∧ selector ≤ 4 then
    (d.modUsb (fun u => { u with test := selector })).ep0Data [] 0
  else d.ep0Stall

/-- SET_FEATURE and CLEAR_FEATURE of an endpoint: 0 ENDPOINT_HALT. -/
def Device.endpointFeature (d : Device) (on : Bool) (feature addr : Nat) : Device :=
  match haltBit addr with
  | some b =>
    if feature = 0 then
      (d.modUsb (fun u => { u with halted := if on then setBitOf u.halted b else clrBitOf u.halted b })).ep0Data [] 0
    else d.ep0Stall
  | none => d.ep0Stall

/-- SET_CONFIGURATION: 0 back to the address state, 1 the one configuration; transfer numbers start at 0 (R281), and
DEVICE_REMOTE_WAKEUP is not yet set in it (R290). -/
def Device.configure (d : Device) (v : Nat) : Device :=
  if v = 0 then ((d.wr Reg.USB_STAT.RWAKE_FEAT 0 0).wr Reg.USB_STAT.STATE 0 3).ep0Data [] 0
  else if v = 1 then
    let d := ((d.wr Reg.USB_STAT.RWAKE_FEAT 0 0).wr Reg.USB_STAT.STATE 0 4).usbEvt 5
    (d.modUsb (fun u => { u with xferNo := 0, halted := 0 })).ep0Data [] 0
  else d.ep0Stall

/-- A recipient that exists: the device; in a configuration, its one interface and its endpoints; endpoint 0 always. -/
def Device.recipientOk (d : Device) (recipient index : Nat) : Bool :=
  let configured := d.rd Reg.USB_STAT.STATE == 4
  if recipient = 0 then true
  else if recipient = 1 then configured && index == 0
  else index % 128 == 0 || (configured && (haltBit index).isSome)

/-- A standard request to the device, an interface or an endpoint: 0, 1 and 2 as recipient. -/
def Device.standardRequest (d : Device) (recipient req value index len : Nat) : Device :=
  let st := d.rd Reg.USB_STAT.STATE
  if !d.recipientOk recipient index then d.ep0Stall
  else if req = 0 then
    if recipient = 0 then d.ep0Data (leBytes 2 (1 + 2 * d.rd Reg.USB_STAT.RWAKE_FEAT)) len
    else if recipient = 1 then d.ep0Data (leBytes 2 0) len
    else match haltBit index with
      | some b => d.ep0Data (leBytes 2 (b2n (bitOf d.usb.halted b))) len
      | none => d.ep0Data (leBytes 2 0) len
  else if req = 1 ∨ req = 3 then
    if recipient = 0 then d.deviceFeature (req == 3) value (index / 256)
    else if recipient = 2 then d.endpointFeature (req == 3) value index
    else d.ep0Stall
  else if recipient = 0 ∧ req = 5 ∧ st ≤ 3 then
    let a := value % 128
    ((d.wr Reg.USB_STAT.ADDR 0 a).wr Reg.USB_STAT.STATE 0 (if a = 0 then 2 else 3)).ep0Data [] 0
  else if recipient = 0 ∧ req = 6 then
    match d.descriptor (value / 256) (value % 256) with
    | some bs => d.ep0Data bs len
    | none => d.ep0Stall
  else if recipient = 0 ∧ req = 8 then d.ep0Data [if st = 4 then 1 else 0] len
  else if recipient = 0 ∧ req = 9 ∧ 3 ≤ st then d.configure (value % 256)
  else if recipient = 1 ∧ req = 10 ∧ st = 4 then d.ep0Data [0] len
  else if recipient = 1 ∧ req = 11 ∧ st = 4 ∧ value = 0 then d.ep0Data [] 0
  else d.ep0Stall

/-- A SETUP packet on EP0 (R276): standard requests are answered, class and vendor requests stalled. -/
def Device.setup (d : Device) (setup : Nat) : Device :=
  let st := d.rd Reg.USB_STAT.STATE
  if !d.usbPresent || st < 2 || 4 < st || !d.running || d.hostless || d.usb.test != 0 then d
  else if bitsOf setup 5 2 ≠ 0 ∨ 2 < bitsOf setup 0 5 then d.ep0Stall
  else d.standardRequest (bitsOf setup 0 5) (bitsOf setup 8 8) (bitsOf setup 16 16) (bitsOf setup 32 16) (bitsOf setup 48 16)

/-- EP0_REQUEST (R276). -/
def execEp0Request (setup : BitVec 64) (s : State) : Host.Outcome State Fault Refusal :=
  s.devStep (fun d => d.setup setup.toNat)

/-! ### Bus reset, VBUS, suspend and resume (R274, R275, R287 to R289) -/

/-- A bus event below RUN is a wake source (R275, Table 11.5). -/
def Device.usbWakes (d : Device) : Device := if d.mode < 2 then d.wakeLatch 4 else d

/-- A bus reset (R287): the default state at the speed found. It ends no test mode. -/
def Device.busReset (d : Device) (high : Bool) : Device :=
  if !d.usbPresent || d.rd Reg.USB_STAT.STATE == 0 || d.usb.test != 0 then d
  else
    let d := (d.usbForget.usbState 2 (high && d.on Reg.USB_CFG.HS_EN)).usbEvt 2
    d.usbWakes

/-- USB_BUS_RESET (R287). -/
def execUsbBusReset (highSpeed : Bool) (s : State) : Host.Outcome State Fault Refusal :=
  s.devStep (fun d => d.busReset highSpeed)

/-- USB_VBUS_CHANGE (R274, R287). -/
def execUsbVbusChange (valid : Bool) (s : State) : Host.Outcome State Fault Refusal :=
  s.devStep (fun d =>
    (({ d with pads := { d.pads with vbus := valid } }).wr Reg.USB_STAT.VBUS 0 (b2n valid)).usbPull)

/-- The bus has been idle for 3 ms (R288). -/
def Device.suspend (d : Device) : Device :=
  let st := d.rd Reg.USB_STAT.STATE
  if !d.usbPresent || st == 0 || st == 5 || d.usb.test != 0 then d
  else ((d.modUsb (fun u => { u with before := st })).wr Reg.USB_STAT.STATE 0 5).usbEvt 3

/-- USB_SUSPEND (R288). -/
def execUsbSuspend (s : State) : Host.Outcome State Fault Refusal := s.devStep Device.suspend

/-- A host resume ends suspend at its end-of-resume EOP (R289): the port returns to its state and speed. One that began
before the device's own signalling ended it collides with it (R292, R298); a drive under way goes on to its end. -/
def Device.resume (d : Device) : Device :=
  if d.rd Reg.USB_STAT.STATE != 5 then d
  else
    let w := d.usb.wake
    let d := (d.wr Reg.USB_STAT.STATE 0 d.usb.before).modUsb (fun u => { u with
      wake := if w = .drive ∨ w = .met then .drive else .idle })
    let d := if w = .listen ∨ w = .drive ∨ w = .met then d.usbEvt 7 else d
    (d.usbEvt 4).usbWakes

/-- USB_RESUME (R289). -/
def execUsbResume (s : State) : Host.Outcome State Fault Refusal := s.devStep Device.resume

/-! ### Remote wake (R290 to R293) -/

/-- The conditions of a remote wake are judged (R290): blocked without the host's leave; the device first raises, as a wake does,
itself to RUN; then DONE is set for every pending bit and the line is sampled (R293). -/
def Device.wakeHost (d : Device) : Device :=
  let pend := d.rd Reg.USB_RWAKE.PEND
  let fresh := pend - (pend &&& d.rd Reg.USB_RWAKE.DONE)
  if !d.usbPresent || d.rd Reg.USB_STAT.STATE != 5 || fresh == 0 || d.usb.wake != .idle || d.power.excursion == some 0 then d
  else if !(d.on Reg.USB_STAT.RWAKE_FEAT && d.usb.before == 4) then d.usbEvt 10
  else if d.mode < 2 then d.wakeTo 4 2
  else
    (d.wr Reg.USB_RWAKE.DONE 0 (d.rd Reg.USB_RWAKE.DONE ||| pend)).modUsb (fun u => { u with wake := .listen })

/-- REMOTE_WAKE_START (R290). -/
def execRemoteWakeStart (s : State) : Host.Outcome State Fault Refusal := s.devStep Device.wakeHost

/-- REMOTE_WAKE_LISTEN_END (R291, R292): K on the line means that the host resumes; else the device drives K, and `met`
says that a resume of the host's own begins meanwhile, which cannot be told apart on the line. -/
def execRemoteWakeListenEnd (line : WakeLine) (s : State) : Host.Outcome State Fault Refusal :=
  s.devStep (fun d =>
    if d.usb.wake != .listen then d
    else if line = .sawK then (d.modUsb (fun u => { u with wake := .idle })).usbEvt 7
    else (d.modUsb (fun u => { u with wake := if line = .met then .met else .drive })).usbEvt 6)

/-- The device releases the line (R291); it has collided where a resume of the host's own began during the drive (R292). -/
def Device.driveEnd (d : Device) : Device :=
  let w := d.usb.wake
  if w ≠ .drive ∧ w ≠ .met then d
  else if d.rd Reg.USB_STAT.STATE ≠ 5 then d.modUsb (fun u => { u with wake := .idle })
  else
    let d := d.modUsb (fun u => { u with wake := .wait })
    if w = .met then d.usbEvt 7 else d

/-- REMOTE_WAKE_DRIVE_END (R291). -/
def execRemoteWakeDriveEnd (s : State) : Host.Outcome State Fault Refusal := s.devStep Device.driveEnd

/-- REMOTE_WAKE_NO_ANSWER (R293). -/
def execRemoteWakeNoAnswer (s : State) : Host.Outcome State Fault Refusal :=
  s.devStep (fun d => if d.usb.wake == .wait then (d.modUsb (fun u => { u with wake := .idle })).usbEvt 11 else d)

/-- USB_REATTACH (R297). -/
def execUsbReattach (s : State) : Host.Outcome State Fault Refusal :=
  s.devStep (fun d => if d.usb.reattach then d.usbAttachAgain else d)

/-- RG003 has held completions for 1 s with EP1 IN not polled (Table 9.7). -/
def execCplStalled (s : State) : Host.Outcome State Fault Refusal :=
  s.devStep (fun d =>
    if d.usbPresent && d.ringOn 3 && d.ringCount 3 != 0 then d.usbEvt 12 else d)

/-! ### The console (R294 to R296) -/

/-- The number that decimal digits spell. -/
def decimal (bs : List Byte) : Option Nat :=
  if bs.isEmpty || bs.any (fun (b : Byte) => decide (b.toNat < 0x30) || decide (0x39 < b.toNat)) then none
  else some (bs.foldl (fun n (b : Byte) => 10 * n + (b.toNat - 0x30)) 0)

/-- Pieces of at most `n` elements; the first number bounds them. -/
def pieces (n : Nat) : Nat → List Nat → List (List Nat)
  | 0, _ => []
  | k + 1, l => if l.isEmpty then [] else l.take n :: pieces n k (l.drop n)

/-- The facts that each line of the answer to a request of Table 9.6 tells; `none` for any other line. -/
def Device.consoleFacts (d : Device) (line : List Byte) : Option (List (List Nat)) :=
  let version (off : Nat) : Nat := match d.keep.slot with
    | some s => d.manifest s 0 1 off
    | none => 0
  if line = ascii "id" then
    some [[Config.deviceUid.toNat, version 8, version 9, d.rd Reg.IMG_STAT.SLOT, d.rd Reg.IMG_STAT.ROM_SERVED]]
  else if line = ascii "mode" then some [[d.mode, d.rd Reg.IMG_STAT.RESTRICTED]]
  else if line = ascii "evt" then
    some (pieces 16 32 ((List.range 512).filter (fun e => bitOf (d.rd Reg.EV_LAT.LAT (e / 32)) (e % 32))))
  else if line = ascii "help" then some [[0], [1], [2], [3], [4]]
  else none

/-- The lines of the retained log that "log n" asks for. -/
def Device.consoleLog (d : Device) (line : List Byte) : Option (List (List Byte)) :=
  if line.take 4 = ascii "log " then
    match decimal (line.drop 4) with
    | some n => if n ≤ 64 then some (d.console.log.drop (d.console.log.length - n)) else none
    | none => none
  else none

/-- The lines that answer a console line (R295, Table 9.6): their facts are the device's, their wording is free. -/
def Device.consoleAnswer (d : Device) (line : List Byte) (k : Nat) : List (List Byte) :=
  if 64 < line.length then [ascii "?"]
  else match d.consoleLog line, d.consoleFacts line with
    | some l, _ => l
    | none, some facts => facts.map (fun fs => printable (Config.consoleText line fs k))
    | none, none => [ascii "?"]

/-- A console line is answered (R295). It changes nothing but the console's own buffer; a line it drops sets CON_DROP. -/
def Device.consoleLine (d : Device) (line : List Byte) : Device :=
  if d.power.grain || d.power.devrst || d.power.por then d
  else
    let (k, d) := d.draw
    (d.consoleAnswer line k).foldl Device.sayLine d

/-- CONSOLE_REQUEST (R295). -/
def execConsoleRequest (line : List Byte) (s : State) : Host.Outcome State Fault Refusal :=
  s.devStep (fun d => d.consoleLine line)

end Sys2Proof.Machine
end

