-- ==== Sys2Proof/Machine/System.lean ====
section
/-! DEFINITION. The system commands 0x01xx and the application of cancels (chapter 07). -/
namespace Sys2Proof.Machine

/-! ### Queries and flags (Table 7.8) -/

/-- SYS_IDENT. Where the boot ROM serves, both images count as version 0.0.0.0 (R532). -/
def runSysIdent (tag : Nat) (d : Device) : Device :=
  let version (image : Nat) : Nat := match d.keep.slot with
    | some s => d.manifest s image 4 8
    | none => 0
  d.ok tag true (leBytes 2 0x8064 ++ [0xB1] ++ leBytes 1 (d.rd Reg.IMG_STAT.RESTRICTED) ++ leBytes 4 (version 0)
    ++ leBytes 4 (version 1) ++ leBytes 2 (d.ifrev 0) ++ leBytes 2 (d.ifrev 1) ++ leBytes 1 d.mode
    ++ leBytes 1 (d.rd Reg.IMG_STAT.SLOT))

/-- ECHO. -/
def runEcho (tag : Nat) (d : Device) : Device := d.ok tag true (leBytes 20 ((d.entryOf tag).p 20 0))

/-- TAG_QUERY. -/
def runTagQuery (tag : Nat) (d : Device) : Device :=
  d.ok tag true (leBytes 16 d.tagMask ++ leBytes 1 d.sched.tasks.length)

/-- LOST_TAGS (R235). -/
def runLostTags (tag : Nat) (d : Device) : Device :=
  let e := d.entryOf tag
  let f := if e.p 1 0 = 0 then Reg.LOST.MASK else Reg.LOST_IDEM.MASK
  let mask := (List.range 4).flatMap (fun g => leBytes 4 (d.rd f g))
  let some' := (List.range 4).any (fun g => d.rd Reg.LOST.MASK g != 0 || d.rd Reg.LOST_IDEM.MASK g != 0)
  if e.flag 1 0 then
    (d.each 4 (fun g d => (d.wr Reg.LOST.MASK g 0).wr Reg.LOST_IDEM.MASK g 0)).ok tag (!some') mask
  else d.ok tag true mask

/-- DEVICE_RESET: it acts in the pass after it was taken. -/
def runDeviceReset (tag : Nat) (d : Device) : Device :=
  if !(d.entryOf tag).flag 0 0 && !d.allQuiet then d.refuse tag .busyMoving
  else d.modSched (fun s => { s with resetDue := true })

/-- FLAG_SET. A flag that an ON_OK has set in the same pass keeps its level (Table 7.11). -/
def runFlagSet (tag : Nat) (d : Device) : Device :=
  let e := d.entryOf tag
  let was := d.taskFlags
  let now := d.sched.onOk.foldl putFlag ((was ||| e.p 8 0) - ((was ||| e.p 8 0) &&& e.p 8 8))
  (d.setTaskFlags now).ok tag (now == was) (leBytes 8 now)

/-- TIME_QUERY: both counts of the last loop-period boundary; of the moment while CD04 stands. -/
def runTimeQuery (tag : Nat) (d : Device) : Device :=
  d.ok tag true (leBytes 8 d.loops ++ leBytes 8 (if d.power.motion then d.power.loopGrain else d.grain))

/-! ### CANCEL (R227 to R231, Tables 7.5 and 7.6) -/

/-- The task a CANCEL names: by tag, or by pair and command-ring index. -/
def Device.cancelTarget (d : Device) (e : Entry) : Option Task :=
  if e.p 1 0 = 0 then d.task? (e.p 1 1)
  else d.sched.tasks.find? (fun t => t.pair == e.p 1 2 && t.entry.index.toNat == e.p 4 4)

/-- A target that has had no effect yet completes CANCELLED; one in an axis ring leaves it marked, one that waits for
the converter leaves its queue. -/
def Device.cancelQueued (d : Device) (t : Task) : Device :=
  match t.axis with
  | some n => d.endQueued n t.tag .cancelled
  | none =>
    let d := if t.op = 0x0601 then
        (d.modAdc (fun a => { a with queue := a.queue.filter (fun (u : Urgent) => u.tag != t.tag) })).refreshAdc
      else d
    d.complete t.tag .cancelled true []

/-- An executing move or homing is asked to stop; it completes at the end of its stop chain. -/
def Device.cancelMove (d : Device) (t : Task) : Device :=
  let d := d.modTask t.tag (fun t => { t with aborting := true })
  match t.axis with
  | some n => d.askStop n 4
  | none => d

/-- A leave request is withdrawn; the axis stays in FOLLOW. -/
def Device.cancelLeave (d : Device) (t : Task) : Device :=
  (d.modAx (t.entry.p 1 0) (fun a => { a with leave := a.leave.filter (fun l => l.tag != t.tag) })).complete
    t.tag .aborted false []

/-- A cancel reaches an executing target: its OUTCOME (R230, Table 7.6 and the owning chapters). -/
def Device.cancelExecuting (d : Device) (t : Task) : Nat × Device :=
  let mark (d : Device) : Device := d.modTask t.tag (fun t => { t with aborting := true })
  if t.op = 0x0201 ∨ t.op = 0x0401 ∨ t.op = 0x0402 then (2, d.cancelMove t)
  else if t.op = 0x0211 then (2, d.cancelLeave t)
  else if t.op = 0x0305 then (2, mark d)
  else if t.op = 0x0B01 then (2, (mark d).stopStore 2)
  else if t.op = 0x0C02 ∨ t.op = 0x0C03 then (2, (mark d).stopImage 2)
  else if t.op = 0x0110 ∧ d.power.step = .deferred then (1, d.cancelMode t.tag)
  else (3, d)

/-- A CANCEL is applied (R219 step 1): its target first, then its own completion. -/
def Device.applyCancel (d : Device) (tag : Nat) : Device :=
  match d.cancelTarget (d.entryOf tag) with
  | none => d.ok tag true (leBytes 1 0 ++ leBytes 1 0xFF ++ leBytes 2 0)
  | some t =>
    let (out, d) := match t.state with
      | .completing => (0, d)
      | .waiting => (1, d.cancelQueued t)
      | .queued => (1, d.cancelQueued t)
      | .executing => if t.aborting then (2, d) else d.cancelExecuting t
    d.ok tag (out == 0 || out == 3) (leBytes 1 out ++ leBytes 1 t.tag ++ leBytes 2 t.op)

/-- CANCEL is taken; it is applied in step 1 of the next pass. -/
def runCancel (tag : Nat) (d : Device) : Device := d.modSched (fun s => { s with cancels := s.cancels ++ [tag] })

/-- SYS_IDENT (R237). -/
def execSysIdent (e : Entry) (s : State) : Host.Outcome State Fault Refusal := s.devStep (Device.submit 0x0101 runSysIdent e)
/-- ECHO (R237). -/
def execEcho (e : Entry) (s : State) : Host.Outcome State Fault Refusal := s.devStep (Device.submit 0x0102 runEcho e)
/-- CANCEL (R228). -/
def execCancel (e : Entry) (s : State) : Host.Outcome State Fault Refusal := s.devStep (Device.submit 0x0103 runCancel e)
/-- TAG_QUERY (R237). -/
def execTagQuery (e : Entry) (s : State) : Host.Outcome State Fault Refusal := s.devStep (Device.submit 0x0104 runTagQuery e)
/-- LOST_TAGS (R235). -/
def execLostTags (e : Entry) (s : State) : Host.Outcome State Fault Refusal := s.devStep (Device.submit 0x0105 runLostTags e)
/-- DEVICE_RESET (R237). -/
def execDeviceReset (e : Entry) (s : State) : Host.Outcome State Fault Refusal :=
  s.devStep (Device.submit 0x0106 runDeviceReset e)
/-- FLAG_SET (R237). -/
def execFlagSet (e : Entry) (s : State) : Host.Outcome State Fault Refusal := s.devStep (Device.submit 0x0107 runFlagSet e)
/-- TIME_QUERY (R237). -/
def execTimeQuery (e : Entry) (s : State) : Host.Outcome State Fault Refusal := s.devStep (Device.submit 0x0108 runTimeQuery e)

end Sys2Proof.Machine
end

