-- ==== Sys2Proof/Machine/Moves.lean ====
section
/-! DEFINITION. The motion, follow, current, homing and tile commands 0x02xx to 0x05xx (Tables 2.5, 3.4, 4.4, 5.4 and
6.10). -/
namespace Sys2Proof.Machine

/-- A command of the motion machine joins the ring of its axis; where the motion machine does not run it completes
FUNCTION_DOWN (R68, R112, R144, R168, R351). -/
def runAxisRing (tag : Nat) (d : Device) : Device :=
  if d.motionRuns then d.enqueueAxis ((d.entryOf tag).p 1 0) tag else d.refuse tag .functionDown

/-- The axes of the AXIS_MASK at offset 0. -/
def maskAxes (e : Entry) : List Nat := bitsBelow (e.p 8 0) 64

/-! ### Motion (R48, R49, R68, R71, R481, R569) -/

/-- STOP: the masked axes that move are asked to stop; with FLUSH their entries and tasks complete CANCELLED. It
completes when the stop chains are entered. An armed start of a masked axis meets the stop in the same tick (R76). -/
def runStop (tag : Nat) (d : Device) : Device :=
  let e := d.entryOf tag
  let asked := (maskAxes e).filter (fun n => d.stoppable n)
  let armed := (maskAxes e).any (fun n => (d.ax n).armed.isSome)
  let d := (maskAxes e).foldl (fun d n =>
    if d.stoppable n || (d.ax n).armed.isSome then d.askStop n 1 else d) d
  let flushed := e.flag 8 0 && (maskAxes e).any (fun n => (d.ax n).ring.any (fun s => !s.dead) || !(d.unplaced n).isEmpty)
  let d := if e.flag 8 0 then (maskAxes e).foldl (fun d n => d.flushAxis n .cancelled) d else d
  if asked.isEmpty || !d.motionRuns then d.ok tag (asked.isEmpty && !armed && !flushed) (leBytes 8 0) else d

/-- SCALE_SET. -/
def runScaleSet (tag : Nat) (d : Device) : Device :=
  let e := d.entryOf tag
  ((maskAxes e).foldl (fun d n => d.wrSh Reg.SCALE.SCALE n (e.p 2 8)) d).ok tag (maskAxes e).isEmpty []

/-- CHAIN_LOAD: the links are copied unless the chain is locked (R40). -/
def runChainLoad (tag : Nat) (d : Device) : Device :=
  let e := d.entryOf tag
  if d.chainLocked (e.p 1 0) then d.refuse tag .busyMoving
  else (d.put (linkAddr (e.p 1 0) (e.p 1 1)) (d.bytes (e.p 4 4) (16 * e.p 1 2))).ok tag false []

/-- CHAIN_CHECK (R39). -/
def runChainCheck (tag : Nat) (d : Device) : Device :=
  let e := d.entryOf tag
  match d.checkChain (e.p 1 0) (d.chainLimits (e.p 1 1)) (e.flag 2 0) (e.flag 2 1) with
  | .ok _ => d.ok tag true [0xFF, 0]
  | .error (link, reason) => d.refuse tag .badParam (leBytes 1 link ++ leBytes 1 reason)

/-- AXIS_QUERY: the snapshot of the last tick boundary. -/
def runAxisQuery (tag : Nat) (d : Device) : Device :=
  let n := (d.entryOf tag).p 1 0
  d.ok tag true (leBytes 4 (d.snap Reg.POS_L.POS n) ++ leBytes 1 (d.snap Reg.POS_H.POS n)
    ++ leBytes 1 (d.snap Reg.AX_STAT.STATE n) ++ leBytes 1 (d.snap Reg.AX_STAT.LINK n)
    ++ leBytes 1 (d.snap Reg.AX_STAT.CHAIN n) ++ leBytes 4 (d.snap Reg.VEL.VEL n)
    ++ leBytes 2 (d.snap Reg.SCALE_NOW.SCALE n) ++ leBytes 2 (d.snap Reg.ANGLE.ANGLE n))

/-- An axis is enabled: a shutdown latch of its sensors whose output has cleared ends (Table 19.2). -/
def Device.enableAxis (d : Device) (n : Nat) : Device :=
  let d := d.wr Reg.AX_CTRL.ENABLE n 1
  let d := [0, 1 + tileOf n].foldl (fun d x => if bitOf (d.rd Reg.TH_STAT.OUT x) 2 then d else d.clearLatch 0x13 x) d
  d.leaveOff n

/-- An axis is disabled: it goes OFF. -/
def Device.disableAxis (d : Device) (n : Nat) : Device := (d.goOff n).wr Reg.AX_CTRL.ENABLE n 0

/-- AXIS_ENABLE: BUSY_MOVING, FUNCTION_DOWN and BAD_PARAM change nothing; a DEGRADED axis stays OFF. DESIGN CHOICE (log
entry 64): the reason code of a stop chain that fails validation (R48), that of the lowest such axis, follows the mask,
at +8. -/
def runAxisEnable (tag : Nat) (d : Device) : Device :=
  let e := d.entryOf tag
  let on := e.flag 8 0
  let hit := (maskAxes e).filter (fun n => d.on Reg.AX_CTRL.ENABLE n != on && !(on && d.on Reg.AX_STAT.DEGRADED n))
  if (maskAxes e).any (fun n => !d.quiet n) then d.refuse tag .busyMoving
  else if on ∧ (maskAxes e).any (fun n => d.shutFor n) then d.refuse tag .functionDown
  else
    let faults := hit.filterMap (fun n => d.stopChainFault (d.rd Reg.STOP_CHAIN.CHAIN n) (d.rd Reg.VMAX.VMAX n))
    match (if on then faults else []) with
    | reason :: _ => d.refuse tag .badParam (leBytes 8 0 ++ leBytes 1 reason)
    | [] =>
      (hit.foldl (fun d n => if on then d.enableAxis n else d.disableAxis n) d).ok tag hit.isEmpty
        (leBytes 8 (axisMask (fun n => hit.contains n)))

/-! ### Follow and tables (R89, R98, R102) -/

/-- FOLLOW_LEAVE raises the leave request. -/
def runFollowLeave (tag : Nat) (d : Device) : Device :=
  let e := d.entryOf tag
  let n := e.p 1 0
  if d.axSt n ≠ stFollow then d.refuse tag .badParam
  else if e.flag 1 0 ∧ !d.mayLeave n then d.refuse tag .busyMoving
  else d.modAx n (fun a => { a with leave := a.leave ++ [⟨tag, 0⟩] })

/-- MT_LOAD: the table is being copied until the next pass, in which the command completes. -/
def runMtLoad (tag : Nat) (d : Device) : Device :=
  let e := d.entryOf tag
  let t := e.p 1 0
  if d.tableInUse t then d.refuse tag .busyMoving
  else
    { d with tables := sparsePut t ((List.range 1024).map (fun i => d.ld 2 (e.p 4 4 + 2 * i))) d.tables }

/-- The copies that MT_LOAD commands had begun before this pass are made. -/
def Device.finishTables (d : Device) : Device := (d.executing 0x0212).foldl (fun d tag => d.ok tag false []) d

/-- PENDING_CLEAR. -/
def runPendingClear (tag : Nat) (d : Device) : Device :=
  let n := (d.entryOf tag).p 1 0
  let v := sext 24 (d.rd Reg.FOL_PEND.PENDING n)
  if d.axSt n = stFollow then d.refuse tag .badParam
  else (d.wr Reg.FOL_PEND.PENDING n 0).ok tag (v == 0) (leBytes 4 (toBits 32 v))

/-! ### Current (R142 to R145) -/

/-- CUR_POLICY_SET writes its shadows. -/
def runCurPolicySet (tag : Nat) (d : Device) : Device :=
  let e := d.entryOf tag
  ((maskAxes e).foldl (fun d n =>
    ((((d.wrSh Reg.CUR_BOUND.FLOOR n (e.p 2 8)).wrSh Reg.CUR_BOUND.CEIL n (e.p 2 10)).wrSh Reg.CUR_CTRL.LEAN_EN n
      (e.p 1 12 % 2)).wrSh Reg.CUR_CTRL.POLICY n (e.p 1 12 / 2))) d).ok tag (maskAxes e).isEmpty []

/-- CUR_QUERY: the values of the last loop period. -/
def runCurQuery (tag : Nat) (d : Device) : Device :=
  let n := (d.entryOf tag).p 1 0
  let a := d.ax n
  d.ok tag true (leBytes 2 (d.rd Reg.CUR_STAT.DEMAND n) ++ leBytes 2 (d.rd Reg.CUR_LOAD.L n)
    ++ leBytes 2 (d.rd Reg.CEIL_NOW.CEIL n) ++ leBytes 2 (d.rd Reg.CEIL_NOW.DERATE n)
    ++ leBytes 2 (toBits 16 (sext 12 (d.rd Reg.CUR_LOAD.DELTA n)))
    ++ leBytes 2 (d.rd Reg.CUR_STAT.FLAGS n + 128 * d.rd Reg.CUR_STAT.STALL_LASTING n)
    ++ leBytes 2 (toBits 16 a.phaseA.i) ++ leBytes 2 (toBits 16 a.phaseB.i))

/-- LEDGER_READ: one snapshot. -/
def runLedgerRead (tag : Nat) (d : Device) : Device :=
  let n := (d.entryOf tag).p 1 0
  if n = 0xFF then
    d.ok tag true (leBytes 4 (d.snap Reg.CE_L.CE 0) ++ leBytes 4 (d.snap Reg.CE_H.CE 0) ++ leBytes 8 0)
  else
    d.ok tag true (leBytes 4 (d.snap Reg.ECOP_L.ECOP n) ++ leBytes 4 (d.snap Reg.ECOP_H.ECOP n)
      ++ leBytes 4 (d.snap Reg.EDEL_L.EDEL n) ++ leBytes 4 (d.snap Reg.EDEL_H.EDEL n))

/-- The ledgers of an axis restart at 0 (R143). -/
def Device.clearLedger (d : Device) (n : Nat) : Device :=
  ((((d.modAx n (fun a => { a with ecop := 0, edel := 0 })).wr Reg.ECOP_L.ECOP n 0).wr Reg.ECOP_H.ECOP n 0).wr
    Reg.EDEL_L.EDEL n 0).wr Reg.EDEL_H.EDEL n 0

/-- LEDGER_CLEAR. -/
def runLedgerClear (tag : Nat) (d : Device) : Device :=
  let e := d.entryOf tag
  let d := (maskAxes e).foldl Device.clearLedger d
  let d := if e.flag 8 0 then (d.wr Reg.CE_L.CE 0 0).wr Reg.CE_H.CE 0 0 else d
  d.ok tag ((maskAxes e).isEmpty && !e.flag 8 0) []

/-! ### Homing (R168) -/

/-- POS_INVALIDATE: it acts, and completes, at the next tick boundary. -/
def runPosInvalidate (tag : Nat) (d : Device) : Device :=
  if d.motionRuns then (maskAxes (d.entryOf tag)).foldl (fun d n => d.modAx n (fun a => { a with invalidate := true })) d
  else d.refuse tag .functionDown

/-! ### Tile links (R198, R201 to R203) -/

/-- The tiles of the TILE_MASK at offset 0. -/
def maskTiles (e : Entry) : List Nat := bitsBelow (e.p 2 0) 16

/-- TILE_START. -/
def runTileStart (tag : Nat) (d : Device) : Device :=
  if !d.running then d.refuse tag .functionDown (leBytes 4 0)
  else
    ((maskTiles (d.entryOf tag)).foldl (fun d t =>
      let d := d.wr Reg.TL_CTRL.EN t 1
      if d.lstate t = 0 then d.startLink t else d) d).finishTiles

/-- TILE_STOP. -/
def runTileStop (tag : Nat) (d : Device) : Device :=
  let ts := (maskTiles (d.entryOf tag))
  if ts.any (fun t => (tileAxes t).any (fun n => !d.quiet n)) then d.refuse tag .busyMoving
  else (ts.foldl (fun d t => (d.wr Reg.TL_CTRL.EN t 0).stopLink t) d).finishTiles

/-- The fields that a TILE_REINIT keeps (R202). -/
def tileKept (t : Nat) : List Nat :=
  [Reg.TL_CTRL.TEL_EN.key t, Reg.TL_CFG.HOLD_MAX.key t, Reg.TL_CFG.ERR_ACT.key t, Reg.TL_CFG.INH_CLR.key t,
   Reg.TL_CFG.START_TMO.key t, Reg.TL_CFG.TRACK_EN.key t, Reg.TEL_CFG.DEC.key t, Reg.TEL_CFG.MEAN.key t,
   Reg.TL_EVT.EN.key t]

/-- The FUNC reset of a tile block (R202): the link stops, its axes follow, its latches and counters clear, and it
starts again once it is DOWN. -/
def Device.tileReinit (d : Device) (t : Nat) : Device :=
  let d := d.stopLink t
  let stopping := d.lstate t == 6
  let d := d.funcReset (0x8000 + t * 0x100) (0x8100 + t * 0x100) (tileKept t)
  let d := d.modTile t (fun x => { Tile.reset with seq := x.seq, sent := x.sent, out := x.out, kill := x.kill })
  let d := (d.clearLatches [0x04, 0x05, 0x06, 0x08] t).wr Reg.TL_CTRL.EN t 1
  if stopping then d.wr Reg.TL_STAT.LSTATE t 6 else d.startLink t

/-- TILE_REINIT. -/
def runTileReinit (tag : Nat) (d : Device) : Device :=
  if !d.running then d.refuse tag .functionDown (leBytes 4 0)
  else ((maskTiles (d.entryOf tag)).foldl Device.tileReinit d).finishTiles

/-- FILTER_SYNC asks for a synchronising reset. -/
def runFilterSync (tag : Nat) (d : Device) : Device :=
  let ts := (maskTiles (d.entryOf tag))
  if ts.any (fun t => d.lstate t != 4 && d.lstate t != 5) then d.refuse tag .functionDown
  else ts.foldl (fun d t =>
    (d.wr Reg.TL_STAT.SETTLE_LEFT t 2).modTile t (fun x => { x with syncDue := true, syncWait := true })) d

/-- TILE_QUERY. -/
def runTileQuery (tag : Nat) (d : Device) : Device :=
  let t := (d.entryOf tag).p 1 0
  d.ok tag true (leBytes 1 (d.lstate t) ++ leBytes 1 (d.rd Reg.TL_STAT.PHASE t) ++ leBytes 2 (d.rd Reg.TL_RTT.RTT_BITS t)
    ++ leBytes 4 (d.rd Reg.TL_TSTAT.TSTAT t) ++ leBytes 4 (d.rd Reg.TL_BAD.COUNT t)
    ++ leBytes 2 (d.rd Reg.TL_CNT.REALIGN t) ++ leBytes 1 (d.rd Reg.TL_RTT.REJ_CNT t)
    ++ leBytes 2 (d.rd Reg.TL_ID.BYTE t) ++ leBytes 1 (bitsOf (d.rd Reg.TL_ID2.BYTE t) 16 8))

/-! ### The rows -/

/-- CHAIN_START (R42). -/
def execChainStart (e : Entry) (s : State) : Host.Outcome State Fault Refusal := s.devStep (Device.submit 0x0201 runAxisRing e)
/-- STOP (R49). -/
def execStop (e : Entry) (s : State) : Host.Outcome State Fault Refusal := s.devStep (Device.submit 0x0202 runStop e)
/-- SCALE_SET (R68). -/
def execScaleSet (e : Entry) (s : State) : Host.Outcome State Fault Refusal := s.devStep (Device.submit 0x0203 runScaleSet e)
/-- CHAIN_LOAD (R68). -/
def execChainLoad (e : Entry) (s : State) : Host.Outcome State Fault Refusal := s.devStep (Device.submit 0x0204 runChainLoad e)
/-- CHAIN_CHECK (R39). -/
def execChainCheck (e : Entry) (s : State) : Host.Outcome State Fault Refusal := s.devStep (Device.submit 0x0205 runChainCheck e)
/-- AXIS_QUERY (R68). -/
def execAxisQuery (e : Entry) (s : State) : Host.Outcome State Fault Refusal := s.devStep (Device.submit 0x0206 runAxisQuery e)
/-- AXIS_ENABLE (R48). -/
def execAxisEnable (e : Entry) (s : State) : Host.Outcome State Fault Refusal := s.devStep (Device.submit 0x0207 runAxisEnable e)
/-- FOLLOW_ENTER (R100). -/
def execFollowEnter (e : Entry) (s : State) : Host.Outcome State Fault Refusal := s.devStep (Device.submit 0x0210 runAxisRing e)
/-- FOLLOW_LEAVE (R102). -/
def execFollowLeave (e : Entry) (s : State) : Host.Outcome State Fault Refusal := s.devStep (Device.submit 0x0211 runFollowLeave e)
/-- MT_LOAD (R89). -/
def execMtLoad (e : Entry) (s : State) : Host.Outcome State Fault Refusal := s.devStep (Device.submit 0x0212 runMtLoad e)
/-- PENDING_CLEAR (R112). -/
def execPendingClear (e : Entry) (s : State) : Host.Outcome State Fault Refusal :=
  s.devStep (Device.submit 0x0213 runPendingClear e)
/-- CUR_POLICY_SET (R144). -/
def execCurPolicySet (e : Entry) (s : State) : Host.Outcome State Fault Refusal :=
  s.devStep (Device.submit 0x0301 runCurPolicySet e)
/-- CUR_QUERY (R144). -/
def execCurQuery (e : Entry) (s : State) : Host.Outcome State Fault Refusal := s.devStep (Device.submit 0x0302 runCurQuery e)
/-- LEDGER_READ (R142). -/
def execLedgerRead (e : Entry) (s : State) : Host.Outcome State Fault Refusal := s.devStep (Device.submit 0x0303 runLedgerRead e)
/-- LEDGER_CLEAR (R143). -/
def execLedgerClear (e : Entry) (s : State) : Host.Outcome State Fault Refusal := s.devStep (Device.submit 0x0304 runLedgerClear e)
/-- MOTOR_IDENT (R145). -/
def execMotorIdent (e : Entry) (s : State) : Host.Outcome State Fault Refusal := s.devStep (Device.submit 0x0305 runAxisRing e)
/-- HOME_START (R157). -/
def execHomeStart (e : Entry) (s : State) : Host.Outcome State Fault Refusal := s.devStep (Device.submit 0x0401 runAxisRing e)
/-- HOME_VERIFY (R164). -/
def execHomeVerify (e : Entry) (s : State) : Host.Outcome State Fault Refusal := s.devStep (Device.submit 0x0402 runAxisRing e)
/-- POS_INVALIDATE (R168). -/
def execPosInvalidate (e : Entry) (s : State) : Host.Outcome State Fault Refusal :=
  s.devStep (Device.submit 0x0403 runPosInvalidate e)
/-- TILE_START (R201). -/
def execTileStart (e : Entry) (s : State) : Host.Outcome State Fault Refusal := s.devStep (Device.submit 0x0501 runTileStart e)
/-- TILE_STOP (R201). -/
def execTileStop (e : Entry) (s : State) : Host.Outcome State Fault Refusal := s.devStep (Device.submit 0x0502 runTileStop e)
/-- TILE_REINIT (R202). -/
def execTileReinit (e : Entry) (s : State) : Host.Outcome State Fault Refusal := s.devStep (Device.submit 0x0503 runTileReinit e)
/-- FILTER_SYNC (R198). -/
def execFilterSync (e : Entry) (s : State) : Host.Outcome State Fault Refusal := s.devStep (Device.submit 0x0504 runFilterSync e)
/-- TILE_QUERY (R201). -/
def execTileQuery (e : Entry) (s : State) : Host.Outcome State Fault Refusal := s.devStep (Device.submit 0x0505 runTileQuery e)

end Sys2Proof.Machine
end

