-- ==== Sys2Proof/Machine/Scheduler.lean ====
section
/-! DEFINITION. The dispatch pass (R219), the timed rows of the scheduler, and the end of long commands. -/
namespace Sys2Proof.Machine

/-! ### What starts with each opcode -/

/-- The effect of a 0x01xx command. -/
def runSystem (op : Nat) : Option (Nat → Device → Device) :=
  match op with
  | 0x0101 => some runSysIdent
  | 0x0102 => some runEcho
  | 0x0103 => some runCancel
  | 0x0104 => some runTagQuery
  | 0x0105 => some runLostTags
  | 0x0106 => some runDeviceReset
  | 0x0107 => some runFlagSet
  | 0x0108 => some runTimeQuery
  | 0x0110 => some runModeSet
  | 0x0111 => some runModeQuery
  | _ => none

/-- The effect of a 0x02xx to 0x05xx command. -/
def runMoving (op : Nat) : Option (Nat → Device → Device) :=
  match op with
  | 0x0201 => some runAxisRing
  | 0x0202 => some runStop
  | 0x0203 => some runScaleSet
  | 0x0204 => some runChainLoad
  | 0x0205 => some runChainCheck
  | 0x0206 => some runAxisQuery
  | 0x0207 => some runAxisEnable
  | 0x0210 => some runAxisRing
  | 0x0211 => some runFollowLeave
  | 0x0212 => some runMtLoad
  | 0x0213 => some runPendingClear
  | 0x0301 => some runCurPolicySet
  | 0x0302 => some runCurQuery
  | 0x0303 => some runLedgerRead
  | 0x0304 => some runLedgerClear
  | 0x0305 => some runAxisRing
  | 0x0401 => some runAxisRing
  | 0x0402 => some runAxisRing
  | 0x0403 => some runPosInvalidate
  | 0x0501 => some runTileStart
  | 0x0502 => some runTileStop
  | 0x0503 => some runTileReinit
  | 0x0504 => some runFilterSync
  | 0x0505 => some runTileQuery
  | _ => none

/-- The effect of a 0x06xx to 0x09xx command. -/
def runSensing (op : Nat) : Option (Nat → Device → Device) :=
  match op with
  | 0x0601 => some runAdcUrgent
  | 0x0602 => some runBushelRead
  | 0x0603 => some runBushelClear
  | 0x0604 => some runAdcReinit
  | 0x0701 => some runNeLoad
  | 0x0702 => some runNeUnload
  | 0x0703 => some runNeFlush
  | 0x0704 => some runPercQuery
  | 0x0705 => some runCamReinit
  | 0x0706 => some runBmReinit
  | 0x0707 => some runNeReinit
  | 0x0801 => some runAudQuery
  | 0x0802 => some runKwsAbort
  | 0x0803 => some runAudReinit
  | 0x0901 => some runFusQuery
  | 0x0902 => some runStreamAges
  | 0x0903 => some runTrackClear
  | 0x0904 => some runFusReinit
  | _ => none

/-- The effect of a 0x0Axx to 0x0Dxx command. -/
def runKeeping (op : Nat) : Option (Nat → Device → Device) :=
  match op with
  | 0x0A01 => some runThermQuery
  | 0x0A02 => some runFanQuery
  | 0x0A03 => some runFanRestart
  | 0x0A04 => some runFanMapClear
  | 0x0A05 => some runThermReinit
  | 0x0A06 => some runFanMapRead
  | 0x0B01 => some runStore
  | 0x0B02 => some runStoreQuery
  | 0x0B03 => some runParamRecall
  | 0x0B04 => some runStoreInvalidate
  | 0x0B05 => some runRecordNote
  | 0x0B06 => some runRecordExport
  | 0x0B07 => some runRecordRelease
  | 0x0C01 => some runImgQuery
  | 0x0C02 => some runImg
  | 0x0C03 => some runImg
  | 0x0C04 => some runImg
  | 0x0C05 => some runImg
  | 0x0C06 => some runImg
  | 0x0C07 => some runSecCert
  | 0x0D01 => some runEvtQuery
  | 0x0D02 => some runEvtClear
  | 0x0D03 => some runEvtRoute
  | 0x0D04 => some runScrupleSet
  | 0x0D05 => some runAxisReinit
  | 0x0D06 => some runEngineReinit
  | 0x0D07 => some runCheckerReinit
  | 0x0D08 => some runFaultQuery
  | 0x0D09 => some runFaultAck
  | _ => none

/-- The effect of a command by its opcode; an opcode that none defines was refused when taken (R635). -/
def runOp (op : Nat) : Nat → Device → Device :=
  ((((runSystem op).orElse (fun _ => runMoving op)).orElse (fun _ => runSensing op)).orElse
    (fun _ => runKeeping op)).getD (fun _ d => d)

/-! ### The steps of a pass (R219) -/

/-- The scheduler runs: after the boot, outside a reset and outside GRAIN (R240, R345). -/
def Device.passes (d : Device) : Bool :=
  d.on Reg.MB_STAT.MB_READY && !d.hostless && !d.power.devrst && !d.power.por

/-- Length of a pass in µs: 10, and 160 in DOZE. -/
def Device.passMicros (d : Device) : Nat := if d.mode ≤ 1 then 160 else 10

/-- Step 1: the cancels taken in earlier passes are applied. -/
def Device.passCancels (d : Device) : Device :=
  d.sched.cancels.foldl (fun d tag => d.applyCancel tag) (d.modSched (fun s => { s with cancels := [] }))

/-- Step 2: the flag changes since the last pass are seen. -/
def Device.passFlags (d : Device) : Device :=
  let f := d.taskFlags
  d.modSched (fun s => { s with seenFlags := f })

/-- Step 3: the WAIT condition of a waiting task counts as met from the first pass at which it holds. -/
def Device.passReady (d : Device) : Device :=
  d.modSched (fun s => { s with tasks := s.tasks.map (fun t =>
    if t.state = .waiting ∧ d.waitHolds t.entry = true then { t with met := true } else t) })

/-- WAIT_TMO of a waiting task has run out without its condition (R222). -/
def Device.waitOut (d : Device) (t : Task) : Bool :=
  t.state == .waiting && !t.met && t.entry.waitTmo.toNat != 0
    && decide (t.taken + 1000 * t.entry.waitTmo.toNat ≤ d.sched.clock)

/-- One task completes EXPIRED with NO_EFFECT. -/
def Device.expire (d : Device) (tag : Nat) : Device :=
  match d.task? tag with
  | some t => if d.waitOut t then (d.complete tag .expired true []).mbEvt 4 else d
  | none => d

/-- Step 4: every waiting task whose WAIT_TMO has run out. -/
def Device.passExpired (d : Device) : Device := (d.sched.tasks.map (·.tag)).foldl (fun d tag => d.expire tag) d

/-- Step 5: held completions are written while there is room. -/
def Device.passHeld (d : Device) : Device := d.each 8 (fun q d => d.writeHeld q d.sched.held.length)

/-- The pairs in descending PRIO and, within equal PRIO, in ascending number (R220). -/
def Device.pairOrder (d : Device) : List Nat :=
  [3, 2, 1, 0].flatMap (fun p => (List.range 8).filter (fun q => d.rd Reg.QP_CTRL.PRIO q == p))

/-- One visible entry of pair `q` is read from ring memory and taken. Answers the task it became, if it may start in
this pass. -/
def Device.takeEntry (d : Device) (q : Nat) : Device × List Nat :=
  let i := d.rd Reg.RING_CI.CI (2 * q)
  let (op, e) := parseEntry (Fin.ofNat 8 q) i (d.bytes (d.ringAddr (2 * q) i) 64)
  let d := (d.count Reg.RING_CI.CI (2 * q)).ringEvt (2 * q)
  match d.admitEntry op e with
  | (d, some tag) => (d, if (d.task? tag).any (fun t => d.ready t) then [tag] else [])
  | (d, none) => (d, [])

/-- Step 6 for one pair: at most `k` entries. -/
def Device.takePair (q : Nat) : Nat → Device × List Nat → Device × List Nat
  | 0, r => r
  | k + 1, (d, l) =>
    if !d.ringOn (2 * q) || d.ringCount (2 * q) = 0 then (d, l)
    else if d.canTake q then
      let (d, m) := d.takeEntry q
      takePair q k (d, l ++ m)
    else if (d.freeTag q).isNone && !d.on Reg.QP_STAT.TAG_WAIT q then ((d.wr Reg.QP_STAT.TAG_WAIT q 1).mbEvt 3, l)
    else (d, l)

/-- Step 6: the pairs in their order, at most four entries each. -/
def Device.passTake (d : Device) : Device × List Nat :=
  d.pairOrder.foldl (fun r q => Device.takePair q 4 r) (d, [])

/-- Step 7: a ready task starts. -/
def Device.startTask (d : Device) (tag : Nat) : Device :=
  match d.task? tag with
  | some t => d.begin (runOp t.op) tag
  | none => d

/-- A dispatch pass (R219). A DEVICE_RESET of an earlier pass acts instead (R237); the table copies begun in earlier passes
are made. -/
def Device.pass (d : Device) : Device :=
  if !d.passes then d
  else
    let d := d.modSched (fun s => { s with clock := s.clock + d.passMicros })
    if d.sched.resetDue then d.resetBy 12
    else
      let d := ((d.passBegins.finishTables).passCancels.passFlags).passReady
      let old := (d.sched.tasks.filter (fun t => d.ready t)).map (·.tag)
      let (d, new) := (d.passExpired.passHeld).passTake
      (old ++ new).foldl (fun d tag => d.startTask tag) d

/-- DISPATCH_PASS (R219, R220, R635). -/
def execDispatchPass (s : State) : Host.Outcome State Fault Refusal := s.devStep Device.pass

/-- WAIT_EXPIRED (R222): step 4 for one task. -/
def execWaitExpired (tag : Fin 128) (s : State) : Host.Outcome State Fault Refusal :=
  s.devStep (fun d => if d.passes then d.expire tag.val else d)

/-- HELD_COMPLETION_WRITE (R232): step 5 for one pair. -/
def execHeldCompletionWrite (q : Fin 8) (s : State) : Host.Outcome State Fault Refusal :=
  s.devStep (fun d => if d.passes then d.writeHeld q.val d.sched.held.length else d)

/-! ### The end of long commands (R226) -/

/-- The work of an executing long command has ended; `f` are the fuses as it leaves them. -/
def Device.longDone (d : Device) (t : Task) (o : LongOutcome) (f g : Fuses) : Device :=
  let tag := t.tag
  match t.op with
  | 0x0701 => (d.neLoadDone tag o).nextLong [0x0701, 0x0707] beginNeural
  | 0x0705 => (d.ok tag false []).nextLong [0x0705] beginCamReinit
  | 0x0706 => (d.bmReinitDone tag o).nextLong [0x0706] beginBmReinit
  | 0x0707 => (d.neReinitDone tag o).nextLong [0x0701, 0x0707] beginNeural
  | 0x0B06 => (d.recordExportDone tag).nextLong [0x0B06] beginRecordExport
  | 0x0C04 => d.imgVerifyDone tag
  | 0x0C05 => d.imgActivateDone tag
  | 0x0C06 => d.imgConfirmDone tag f g
  | 0x0D06 => (d.engineReinitDone tag o).nextLong [0x0D06] (fun _ d => d)
  | 0x0D07 => (d.checkerReinitDone tag o).nextLong [0x0D07] (fun _ d => d)
  | _ => d

/-- LONG_COMMAND_DONE (R226): the task of a tag, if it executes a long command. IMG_CONFIRM blows the fuses (R538). -/
def execLongCommandDone (tag : Fin 128) (o : LongOutcome) (s : State) : Host.Outcome State Fault Refusal :=
  match s.dev.task? tag.val with
  | none => .next s
  | some t =>
    if t.state = .executing then
      let g := if t.op = 0x0C06 then s.dev.confirmFuses s.fuses else s.fuses
      .next { s with dev := s.dev.longDone t o s.fuses g, fuses := g }
    else .next s

end Sys2Proof.Machine
end

