-- ==== Sys2Proof/Machine/Dispatch.lean ====
section
/-! DEFINITION. The dispatcher: one arm per command, each one direct call of its meaning. -/
namespace Sys2Proof.Machine

/-- The effect of a command on everything but the queue of waiting commands. -/
def exec (i : Instr) (s : State) : Host.Outcome State Fault Refusal :=
  match i with
  | .registerWrite addr data => Sys2Proof.Machine.execRegisterWrite addr data s
  | .bitAliasWrite addr data => Sys2Proof.Machine.execBitAliasWrite addr data s
  | .latchedLowWordRead req addr => Sys2Proof.Machine.execLatchedLowWordRead req addr s
  | .doorbell data => Sys2Proof.Machine.execDoorbell data s
  | .update data => Sys2Proof.Machine.execUpdate data s
  | .arbClr data => Sys2Proof.Machine.execArbClr data s
  | .ringEnable r data => Sys2Proof.Machine.execRingEnable r data s
  | .tlCtrlEnWrite t data => Sys2Proof.Machine.execTlCtrlEnWrite t data s
  | .cycReinit data => Sys2Proof.Machine.execCycReinit data s
  | .cycEnable data => Sys2Proof.Machine.execCycEnable data s
  | .usbReinit data => Sys2Proof.Machine.execUsbReinit data s
  | .softDetachWrite data => Sys2Proof.Machine.execSoftDetachWrite data s
  | .usbStreamEnable k data => Sys2Proof.Machine.execUsbStreamEnable k data s
  | .scanEnable data => Sys2Proof.Machine.execScanEnable data s
  | .refbufEnable data => Sys2Proof.Machine.execRefbufEnable data s
  | .camEnable c data => Sys2Proof.Machine.execCamEnable c data s
  | .neEnable data => Sys2Proof.Machine.execNeEnable data s
  | .bmEnable data => Sys2Proof.Machine.execBmEnable data s
  | .cdEnable k data => Sys2Proof.Machine.execCdEnable k data s
  | .audEnable data => Sys2Proof.Machine.execAudEnable data s
  | .kwsEnable data => Sys2Proof.Machine.execKwsEnable data s
  | .clipEnChange data => Sys2Proof.Machine.execClipEnChange data s
  | .fusEnable data => Sys2Proof.Machine.execFusEnable data s
  | .advEnable c data => Sys2Proof.Machine.execAdvEnable c data s
  | .fanEnable f data => Sys2Proof.Machine.execFanEnable f data s
  | .checkerEnable data => Sys2Proof.Machine.execCheckerEnable data s
  | .sdiEnable m data => Sys2Proof.Machine.execSdiEnable m data s
  | .qeEnable k data => Sys2Proof.Machine.execQeEnable k data s
  | .spmEnable p data => Sys2Proof.Machine.execSpmEnable p data s
  | .bmHintWrite c data => Sys2Proof.Machine.execBmHintWrite c data s
  | .wakeReasonClear data => Sys2Proof.Machine.execWakeReasonClear data s
  | .gpioOeWrite high data => Sys2Proof.Machine.execGpioOeWrite high data s
  | .sysIdent e => Sys2Proof.Machine.execSysIdent e s
  | .echo e => Sys2Proof.Machine.execEcho e s
  | .cancel e => Sys2Proof.Machine.execCancel e s
  | .tagQuery e => Sys2Proof.Machine.execTagQuery e s
  | .lostTags e => Sys2Proof.Machine.execLostTags e s
  | .deviceReset e => Sys2Proof.Machine.execDeviceReset e s
  | .flagSet e => Sys2Proof.Machine.execFlagSet e s
  | .timeQuery e => Sys2Proof.Machine.execTimeQuery e s
  | .modeSet e => Sys2Proof.Machine.execModeSet e s
  | .modeQuery e => Sys2Proof.Machine.execModeQuery e s
  | .chainStart e => Sys2Proof.Machine.execChainStart e s
  | .stop e => Sys2Proof.Machine.execStop e s
  | .scaleSet e => Sys2Proof.Machine.execScaleSet e s
  | .chainLoad e => Sys2Proof.Machine.execChainLoad e s
  | .chainCheck e => Sys2Proof.Machine.execChainCheck e s
  | .axisQuery e => Sys2Proof.Machine.execAxisQuery e s
  | .axisEnable e => Sys2Proof.Machine.execAxisEnable e s
  | .followEnter e => Sys2Proof.Machine.execFollowEnter e s
  | .followLeave e => Sys2Proof.Machine.execFollowLeave e s
  | .mtLoad e => Sys2Proof.Machine.execMtLoad e s
  | .pendingClear e => Sys2Proof.Machine.execPendingClear e s
  | .curPolicySet e => Sys2Proof.Machine.execCurPolicySet e s
  | .curQuery e => Sys2Proof.Machine.execCurQuery e s
  | .ledgerRead e => Sys2Proof.Machine.execLedgerRead e s
  | .ledgerClear e => Sys2Proof.Machine.execLedgerClear e s
  | .motorIdent e => Sys2Proof.Machine.execMotorIdent e s
  | .homeStart e => Sys2Proof.Machine.execHomeStart e s
  | .homeVerify e => Sys2Proof.Machine.execHomeVerify e s
  | .posInvalidate e => Sys2Proof.Machine.execPosInvalidate e s
  | .tileStart e => Sys2Proof.Machine.execTileStart e s
  | .tileStop e => Sys2Proof.Machine.execTileStop e s
  | .tileReinit e => Sys2Proof.Machine.execTileReinit e s
  | .filterSync e => Sys2Proof.Machine.execFilterSync e s
  | .tileQuery e => Sys2Proof.Machine.execTileQuery e s
  | .adcUrgent e => Sys2Proof.Machine.execAdcUrgent e s
  | .bushelRead e => Sys2Proof.Machine.execBushelRead e s
  | .bushelClear e => Sys2Proof.Machine.execBushelClear e s
  | .adcReinit e => Sys2Proof.Machine.execAdcReinit e s
  | .neLoad e => Sys2Proof.Machine.execNeLoad e s
  | .neUnload e => Sys2Proof.Machine.execNeUnload e s
  | .neFlush e => Sys2Proof.Machine.execNeFlush e s
  | .percQuery e => Sys2Proof.Machine.execPercQuery e s
  | .camReinit e => Sys2Proof.Machine.execCamReinit e s
  | .bmReinit e => Sys2Proof.Machine.execBmReinit e s
  | .neReinit e => Sys2Proof.Machine.execNeReinit e s
  | .audQuery e => Sys2Proof.Machine.execAudQuery e s
  | .kwsAbort e => Sys2Proof.Machine.execKwsAbort e s
  | .audReinit e => Sys2Proof.Machine.execAudReinit e s
  | .fusQuery e => Sys2Proof.Machine.execFusQuery e s
  | .streamAges e => Sys2Proof.Machine.execStreamAges e s
  | .trackClear e => Sys2Proof.Machine.execTrackClear e s
  | .fusReinit e => Sys2Proof.Machine.execFusReinit e s
  | .thermQuery e => Sys2Proof.Machine.execThermQuery e s
  | .fanQuery e => Sys2Proof.Machine.execFanQuery e s
  | .fanRestart e => Sys2Proof.Machine.execFanRestart e s
  | .fanMapClear e => Sys2Proof.Machine.execFanMapClear e s
  | .thermReinit e => Sys2Proof.Machine.execThermReinit e s
  | .fanMapRead e => Sys2Proof.Machine.execFanMapRead e s
  | .store e => Sys2Proof.Machine.execStore e s
  | .storeQuery e => Sys2Proof.Machine.execStoreQuery e s
  | .paramRecall e => Sys2Proof.Machine.execParamRecall e s
  | .storeInvalidate e => Sys2Proof.Machine.execStoreInvalidate e s
  | .recordNote e => Sys2Proof.Machine.execRecordNote e s
  | .recordExport e => Sys2Proof.Machine.execRecordExport e s
  | .recordRelease e => Sys2Proof.Machine.execRecordRelease e s
  | .imgQuery e => Sys2Proof.Machine.execImgQuery e s
  | .imgWrite e => Sys2Proof.Machine.execImgWrite e s
  | .imgCopy e => Sys2Proof.Machine.execImgCopy e s
  | .imgVerify e => Sys2Proof.Machine.execImgVerify e s
  | .imgActivate e => Sys2Proof.Machine.execImgActivate e s
  | .imgConfirm e => Sys2Proof.Machine.execImgConfirm e s
  | .secCert e => Sys2Proof.Machine.execSecCert e s
  | .evtQuery e => Sys2Proof.Machine.execEvtQuery e s
  | .evtClear e => Sys2Proof.Machine.execEvtClear e s
  | .evtRoute e => Sys2Proof.Machine.execEvtRoute e s
  | .scrupleSet e => Sys2Proof.Machine.execScrupleSet e s
  | .axisReinit e => Sys2Proof.Machine.execAxisReinit e s
  | .engineReinit e => Sys2Proof.Machine.execEngineReinit e s
  | .checkerReinit e => Sys2Proof.Machine.execCheckerReinit e s
  | .faultQuery e => Sys2Proof.Machine.execFaultQuery e s
  | .faultAck e => Sys2Proof.Machine.execFaultAck e s
  | .dispatchPass => Sys2Proof.Machine.execDispatchPass s
  | .waitExpired tag => Sys2Proof.Machine.execWaitExpired tag s
  | .heldCompletionWrite q => Sys2Proof.Machine.execHeldCompletionWrite q s
  | .ringHeadTake n => Sys2Proof.Machine.execRingHeadTake n s
  | .trajectoryTick mismatch => Sys2Proof.Machine.execTrajectoryTick mismatch s
  | .chainEnd n => Sys2Proof.Machine.execChainEnd n s
  | .stopChainEnd n => Sys2Proof.Machine.execStopChainEnd n s
  | .settleDone n => Sys2Proof.Machine.execSettleDone n s
  | .strobeApply => Sys2Proof.Machine.execStrobeApply s
  | .autoStrobe => Sys2Proof.Machine.execAutoStrobe s
  | .loopPeriod => Sys2Proof.Machine.execLoopPeriod s
  | .stallDetected n => Sys2Proof.Machine.execStallDetected n s
  | .holdDwellExpired n => Sys2Proof.Machine.execHoldDwellExpired n s
  | .energiseRampEnd n => Sys2Proof.Machine.execEnergiseRampEnd n s
  | .positionRedefine n => Sys2Proof.Machine.execPositionRedefine n s
  | .homeMaxdist n => Sys2Proof.Machine.execHomeMaxdist n s
  | .followIdleExit n => Sys2Proof.Machine.execFollowIdleExit n s
  | .followIdlePreset n => Sys2Proof.Machine.execFollowIdlePreset n s
  | .sdiStepEdge m dir delay => Sys2Proof.Machine.execSdiStepEdge m dir delay s
  | .qeCountStep k a b x => Sys2Proof.Machine.execQeCountStep k a b x s
  | .indexEdge k a b => Sys2Proof.Machine.execIndexEdge k a b s
  | .limitInput g level => Sys2Proof.Machine.execLimitInput g level s
  | .sstopNChange level => Sys2Proof.Machine.execSstopNChange level s
  | .rstNLow level => Sys2Proof.Machine.execRstNLow level s
  | .testHigh level => Sys2Proof.Machine.execTestHigh level s
  | .porRelease => Sys2Proof.Machine.execPorRelease s
  | .devrstRelease straps => Sys2Proof.Machine.execDevrstRelease straps s
  | .devrstAssert cause => Sys2Proof.Machine.execDevrstAssert cause s
  | .boot report => Sys2Proof.Machine.execBoot report s
  | .brownOutWarn low => Sys2Proof.Machine.execBrownOutWarn low s
  | .brownOutReset supply => Sys2Proof.Machine.execBrownOutReset supply s
  | .vbatLow => Sys2Proof.Machine.execVbatLow s
  | .vddaLow low => Sys2Proof.Machine.execVddaLow low s
  | .refclkFail => Sys2Proof.Machine.execRefclkFail s
  | .grainClockSubstitute => Sys2Proof.Machine.execGrainClockSubstitute s
  | .grainCrystalLock => Sys2Proof.Machine.execGrainCrystalLock s
  | .grainCrystalTimeout => Sys2Proof.Machine.execGrainCrystalTimeout s
  | .apWatchdogExpiry => Sys2Proof.Machine.execApWatchdogExpiry s
  | .gcRestart => Sys2Proof.Machine.execGcRestart s
  | .wakeSource source => Sys2Proof.Machine.execWakeSource source s
  | .grainAlarm => Sys2Proof.Machine.execGrainAlarm s
  | .qeWakeCount => Sys2Proof.Machine.execQeWakeCount s
  | .modeStepDone micros => Sys2Proof.Machine.execModeStepDone micros s
  | .modeDeferralEnd => Sys2Proof.Machine.execModeDeferralEnd s
  | .grainCommitPoint => Sys2Proof.Machine.execGrainCommitPoint s
  | .grainExit => Sys2Proof.Machine.execGrainExit s
  | .excursionReturn => Sys2Proof.Machine.execExcursionReturn s
  | .replyFreeze => Sys2Proof.Machine.execReplyFreeze s
  | .cyclicFrame sck frame => Sys2Proof.Machine.execCyclicFrame sck frame s
  | .masterLost => Sys2Proof.Machine.execMasterLost s
  | .usbOutTransfer bytes => Sys2Proof.Machine.execUsbOutTransfer bytes s
  | .usbInAck ep => Sys2Proof.Machine.execUsbInAck ep s
  | .ep2Poll => Sys2Proof.Machine.execEp2Poll s
  | .ep3Burst => Sys2Proof.Machine.execEp3Burst s
  | .ep0Request setup => Sys2Proof.Machine.execEp0Request setup s
  | .usbBusReset highSpeed => Sys2Proof.Machine.execUsbBusReset highSpeed s
  | .usbVbusChange valid => Sys2Proof.Machine.execUsbVbusChange valid s
  | .usbSuspend => Sys2Proof.Machine.execUsbSuspend s
  | .usbResume => Sys2Proof.Machine.execUsbResume s
  | .remoteWakeStart => Sys2Proof.Machine.execRemoteWakeStart s
  | .remoteWakeListenEnd line => Sys2Proof.Machine.execRemoteWakeListenEnd line s
  | .remoteWakeDriveEnd => Sys2Proof.Machine.execRemoteWakeDriveEnd s
  | .remoteWakeNoAnswer => Sys2Proof.Machine.execRemoteWakeNoAnswer s
  | .consoleRequest line => Sys2Proof.Machine.execConsoleRequest line s
  | .returnFrame t frame => Sys2Proof.Machine.execReturnFrame t frame s
  | .outboundFrame t => Sys2Proof.Machine.execOutboundFrame t s
  | .linkWakeEnd t => Sys2Proof.Machine.execLinkWakeEnd t s
  | .trainSweepEnd t order => Sys2Proof.Machine.execTrainSweepEnd t order s
  | .linkCheckEnd t rtt => Sys2Proof.Machine.execLinkCheckEnd t rtt s
  | .linkStoppingEnd t => Sys2Proof.Machine.execLinkStoppingEnd t s
  | .startTimeout t => Sys2Proof.Machine.execStartTimeout t s
  | .holdMaxReached t => Sys2Proof.Machine.execHoldMaxReached t s
  | .phaseTrack t passing => Sys2Proof.Machine.execPhaseTrack t passing s
  | .tileInhibitClear t => Sys2Proof.Machine.execTileInhibitClear t s
  | .telemetryEntry t => Sys2Proof.Machine.execTelemetryEntry t s
  | .spiTransfer p received => Sys2Proof.Machine.execSpiTransfer p received s
  | .adcEntryDone input sub => Sys2Proof.Machine.execAdcEntryDone input sub s
  | .adcRoundDue => Sys2Proof.Machine.execAdcRoundDue s
  | .refReadySet => Sys2Proof.Machine.execRefReadySet s
  | .csiFrameStart c => Sys2Proof.Machine.execCsiFrameStart c s
  | .csiFrameEnd c frame => Sys2Proof.Machine.execCsiFrameEnd c frame s
  | .pyramidStart => Sys2Proof.Machine.execPyramidStart s
  | .pyramidDone => Sys2Proof.Machine.execPyramidDone s
  | .cornerListDone k => Sys2Proof.Machine.execCornerListDone k s
  | .bmFieldDone mismatch => Sys2Proof.Machine.execBmFieldDone mismatch s
  | .neJobStart => Sys2Proof.Machine.execNeJobStart s
  | .neJobDone job => Sys2Proof.Machine.execNeJobDone job s
  | .vadFrame mics => Sys2Proof.Machine.execVadFrame mics s
  | .kwsJobDue => Sys2Proof.Machine.execKwsJobDue s
  | .segmentCopy => Sys2Proof.Machine.execSegmentCopy s
  | .kwsVerdict => Sys2Proof.Machine.execKwsVerdict s
  | .kwsDeferralTimeout => Sys2Proof.Machine.execKwsDeferralTimeout s
  | .micStuck m => Sys2Proof.Machine.execMicStuck m s
  | .fusionCycle => Sys2Proof.Machine.execFusionCycle s
  | .advisoryHoldExpiry c => Sys2Proof.Machine.execAdvisoryHoldExpiry c s
  | .streamAgeLimit k => Sys2Proof.Machine.execStreamAgeLimit k s
  | .dieTempSample reading => Sys2Proof.Machine.execDieTempSample reading s
  | .tileTempSample t => Sys2Proof.Machine.execTileTempSample t s
  | .thresholdDwellDone x k => Sys2Proof.Machine.execThresholdDwellDone x k s
  | .hoverQuietWindow x k => Sys2Proof.Machine.execHoverQuietWindow x k s
  | .fanUpdate f edges => Sys2Proof.Machine.execFanUpdate f edges s
  | .fanKickEnd f edges => Sys2Proof.Machine.execFanKickEnd f edges s
  | .fanWaitEnd f => Sys2Proof.Machine.execFanWaitEnd f s
  | .fanTachSilent f => Sys2Proof.Machine.execFanTachSilent f s
  | .mramLineDone ok => Sys2Proof.Machine.execMramLineDone ok s
  | .recordAppend => Sys2Proof.Machine.execRecordAppend s
  | .storeSafePoint => Sys2Proof.Machine.execStoreSafePoint s
  | .checkerSelfTest pass => Sys2Proof.Machine.execCheckerSelfTest pass s
  | .scrupleLasting cls unit => Sys2Proof.Machine.execScrupleLasting cls unit s
  | .followLeaveTimeout n => Sys2Proof.Machine.execFollowLeaveTimeout n s
  | .cplStalled => Sys2Proof.Machine.execCplStalled s
  | .boClear => Sys2Proof.Machine.execBoClear s
  | .usbReattach => Sys2Proof.Machine.execUsbReattach s
  | .intPulseEnd n => Sys2Proof.Machine.execIntPulseEnd n s
  | .grainClockEdge => Sys2Proof.Machine.execGrainClockEdge s
  | .longCommandDone tag outcome => Sys2Proof.Machine.execLongCommandDone tag outcome s

end Sys2Proof.Machine
end

