-- ==== Sys2Proof/Safety.lean ====
section
/-! DEFINITION. What counts as a safe run: the state invariant, and a step that neither faults nor refuses; and the words in
which the statements speak of a command entry that is taken and starts at once. -/
namespace Sys2Proof.Machine

/-- The step of a state goes on. -/
def State.goesOn (s : State) : Prop := ∃ t, step s = .next t

/-- The fuses hold what one-time counters can hold: each anti-rollback counter reaches at most 64 (R539). -/
def Fuses.legal (f : Fuses) : Prop := f.host ≤ 64 ∧ f.grain ≤ 64

/-- Fuses `g` are fuses `f` with nothing taken back (R538, R539): counters have not fallen, no revocation is lost. -/
def Fuses.kept (f g : Fuses) : Prop := f.host ≤ g.host ∧ f.grain ≤ g.grain ∧ f.revoked &&& g.revoked = f.revoked

/-- The invariant of the state: the fuses are legal. -/
def State.Inv (s : State) : Prop := s.fuses.legal

/-- Every waiting command is one that the interface can carry. -/
def State.wellFed (s : State) : Prop := ∀ i ∈ s.pending, i.wellFormed = true

/-- The outcome that goes on with another device, fuses and queue as they were. -/
def State.gives (s : State) (d : Device) : Host.Outcome State Fault Refusal := .next { s with dev := d }

/-! ### The register map as the statements speak of it -/

/-- The enables whose change does more than change their field. -/
def enableFields : List Field :=
  [Reg.SPM_CTRL.EN, Reg.RING_CFG.EN, Reg.TL_CTRL.EN, Reg.ADC_CTRL.REFBUF_EN, Reg.ADC_CTRL.SCAN_EN, Reg.FAN_CTRL.EN,
   Reg.CAM_CTRL.EN, Reg.BM_CTRL.EN, Reg.CD_CFG.EN, Reg.NE_CTRL.EN, Reg.AUD_CTRL.AUD_EN, Reg.AUD_CTRL.KWS_EN,
   Reg.AUD_CTRL.CLIP_EN, Reg.FUS_CTRL.EN, Reg.ADV_CFG.EN, Reg.USB_STRM.SEN]

/-- Addresses whose write has an effect of its own, whatever becomes of the enables: WO actions, cleared wake reasons, GPIO
levels and directions, event latches and routing, scruples, staging areas, block-matcher hints, the control words of the
cyclic port and the USB port, and the remote wake-up enables. -/
def ownEffect (a : Nat) : Bool :=
  [0x3000, 0x100, 0x3C, 0x404, 0x408, 0x608, 0x60C, 0x610, 0x614, 0xB084, 0xB088, 0xD000, 0xD100, 0xD118].contains a
    || [(0x1000, 0x1240), (0x1244, 0x1254), (0x1300, 0x1380), (0xC400, 0xCC00)].any
      (fun p => decide (p.1 ≤ a) && decide (a < p.2))

/-! ### A command entry that is taken -/

/-- The opcode and the entry of a command of the command set; none for a row of another kind (Table 7.8 and the command
tables of the chapters). -/
def entryOf? : Instr → Option (Nat × Entry)
  | .sysIdent e => some (0x0101, e)
  | .echo e => some (0x0102, e)
  | .cancel e => some (0x0103, e)
  | .tagQuery e => some (0x0104, e)
  | .lostTags e => some (0x0105, e)
  | .deviceReset e => some (0x0106, e)
  | .flagSet e => some (0x0107, e)
  | .timeQuery e => some (0x0108, e)
  | .modeSet e => some (0x0110, e)
  | .modeQuery e => some (0x0111, e)
  | .chainStart e => some (0x0201, e)
  | .stop e => some (0x0202, e)
  | .scaleSet e => some (0x0203, e)
  | .chainLoad e => some (0x0204, e)
  | .chainCheck e => some (0x0205, e)
  | .axisQuery e => some (0x0206, e)
  | .axisEnable e => some (0x0207, e)
  | .followEnter e => some (0x0210, e)
  | .followLeave e => some (0x0211, e)
  | .mtLoad e => some (0x0212, e)
  | .pendingClear e => some (0x0213, e)
  | .curPolicySet e => some (0x0301, e)
  | .curQuery e => some (0x0302, e)
  | .ledgerRead e => some (0x0303, e)
  | .ledgerClear e => some (0x0304, e)
  | .motorIdent e => some (0x0305, e)
  | .homeStart e => some (0x0401, e)
  | .homeVerify e => some (0x0402, e)
  | .posInvalidate e => some (0x0403, e)
  | .tileStart e => some (0x0501, e)
  | .tileStop e => some (0x0502, e)
  | .tileReinit e => some (0x0503, e)
  | .filterSync e => some (0x0504, e)
  | .tileQuery e => some (0x0505, e)
  | .adcUrgent e => some (0x0601, e)
  | .bushelRead e => some (0x0602, e)
  | .bushelClear e => some (0x0603, e)
  | .adcReinit e => some (0x0604, e)
  | .neLoad e => some (0x0701, e)
  | .neUnload e => some (0x0702, e)
  | .neFlush e => some (0x0703, e)
  | .percQuery e => some (0x0704, e)
  | .camReinit e => some (0x0705, e)
  | .bmReinit e => some (0x0706, e)
  | .neReinit e => some (0x0707, e)
  | .audQuery e => some (0x0801, e)
  | .kwsAbort e => some (0x0802, e)
  | .audReinit e => some (0x0803, e)
  | .fusQuery e => some (0x0901, e)
  | .streamAges e => some (0x0902, e)
  | .trackClear e => some (0x0903, e)
  | .fusReinit e => some (0x0904, e)
  | .thermQuery e => some (0x0A01, e)
  | .fanQuery e => some (0x0A02, e)
  | .fanRestart e => some (0x0A03, e)
  | .fanMapClear e => some (0x0A04, e)
  | .thermReinit e => some (0x0A05, e)
  | .fanMapRead e => some (0x0A06, e)
  | .store e => some (0x0B01, e)
  | .storeQuery e => some (0x0B02, e)
  | .paramRecall e => some (0x0B03, e)
  | .storeInvalidate e => some (0x0B04, e)
  | .recordNote e => some (0x0B05, e)
  | .recordExport e => some (0x0B06, e)
  | .recordRelease e => some (0x0B07, e)
  | .imgQuery e => some (0x0C01, e)
  | .imgWrite e => some (0x0C02, e)
  | .imgCopy e => some (0x0C03, e)
  | .imgVerify e => some (0x0C04, e)
  | .imgActivate e => some (0x0C05, e)
  | .imgConfirm e => some (0x0C06, e)
  | .secCert e => some (0x0C07, e)
  | .evtQuery e => some (0x0D01, e)
  | .evtClear e => some (0x0D02, e)
  | .evtRoute e => some (0x0D03, e)
  | .scrupleSet e => some (0x0D04, e)
  | .axisReinit e => some (0x0D05, e)
  | .engineReinit e => some (0x0D06, e)
  | .checkerReinit e => some (0x0D07, e)
  | .faultQuery e => some (0x0D08, e)
  | .faultAck e => some (0x0D09, e)
  | _ => none


/-- The tag an entry receives (R217, R218): its TAG byte, or for 0xFF the lowest free tag of its pair. -/
def Device.tagFor (d : Device) (e : Entry) : Nat :=
  if e.tag = 0xFF then (d.freeTag e.pair.val).getD 0 else e.tag.toNat

/-- The scheduler can take the entry and gives it a tag: the conditions of R220 hold for its pair, and a tag the entry
names is the pair's own and free (R217). -/
def Device.tagOk (d : Device) (e : Entry) : Prop :=
  d.canTake e.pair.val = true
    ∧ (e.tag ≠ 0xFF → (d.ownTags e.pair.val).contains e.tag.toNat = true ∧ d.task? e.tag.toNat = none)

/-- The entry is taken and starts at once: it gets its tag, none of the judgements of R635 refuses it, and neither WAIT
nor FENCE holds it back (R222, R224). -/
def Device.accepts (d : Device) (op : Nat) (e : Entry) : Prop :=
  d.tagOk e ∧ d.judge op e = none ∧ bitOf e.wait.toNat 15 = false ∧ bitOf e.flags.toNat 1 = false

/-- The task that an entry becomes when it is taken with its tag (R217, R221). -/
def Device.newTask (d : Device) (op : Nat) (e : Entry) : Task :=
  ⟨e.pair.val, d.tagFor e, e.tag == 0xFF, op, e, .waiting, d.waitHolds e, d.sched.clock, none, false⟩

/-- The device once the entry has its tag: the task at the end of the list, the scheduler's registers following. -/
def Device.tagged (d : Device) (op : Nat) (e : Entry) : Device :=
  (d.modSched (fun s => { s with tasks := s.tasks ++ [d.newTask op e] })).refreshSched

/-- The device once the task of an accepted entry executes, in a pass that has written no task flag yet (R241). -/
def Device.begun (d : Device) (op : Nat) (e : Entry) : Device :=
  ((d.tagged op e).modTask (d.tagFor e) (fun t => { t with state := .executing })).passBegins

end Sys2Proof.Machine
end

