-- ==== Sys2Proof/Certificates/Slice0/Obligations.lean ====
section
/-! DEFINITION. The statements for the provers. `s.gives d` is the outcome that goes on with device `d`, fuses and queue as
they were; `s.dev.begun op e` is the device once the task of an accepted entry executes, and `s.dev.tagFor e` its tag. A
statement whose conclusion is such an equation says of the whole state what the command changes, and so its frame. -/
open Sys2Proof Sys2Proof.Machine

/-! ### The queue, the outcomes, and what every step keeps -/

/-- A step takes the command at the front of the queue and is its effect on the state with the queue's rest; with no
command waiting the block idles (the model's choice, log entry 9). -/
def Obligations.StepRunsTheFrontCommand : Prop :=
  (∀ (c : Instr) (rest : List Instr) (s : State), step { s with pending := c :: rest } = exec c { s with pending := rest })
  ∧ (∀ s : State, s.pending = [] → step s = .next s)

/-- No command changes the queue of the commands that wait behind it. -/
def Obligations.CommandsKeepTheQueue : Prop :=
  ∀ (c : Instr) (s t : State), exec c s = .next t → t.pending = s.pending

/-- No command is refused; the one fault is an access of a register row to an address outside the map, and every such
access is that fault: REGISTER_WRITE and LATCHED_LOW_WORD_READ outside the regions of the map or off a word boundary,
BIT_ALIAS_WRITE outside the alias region.
Readings of the model that this rests on: log entry 7. -/
def Obligations.OnlyUnmappedAccessesStop : Prop :=
  ∀ (c : Instr) (s : State),
    (∀ r, exec c s ≠ .refused r)
    ∧ (∀ f, exec c s = .fault f ↔
        (∃ a v, c = .registerWrite a v ∧ f = .noSuchAddress a ∧ (a.toNat % 4 ≠ 0 ∨ mapped a.toNat = false))
        ∨ (∃ a v, c = .bitAliasWrite a v ∧ f = .noSuchAddress a
            ∧ (a.toNat % 4 ≠ 0 ∨ a.toNat < 0x100000 ∨ 0x900000 ≤ a.toNat))
        ∨ (∃ q a, c = .latchedLowWordRead q a ∧ f = .noSuchAddress a ∧ (a.toNat % 4 ≠ 0 ∨ mapped a.toNat = false)))

/-- R539: no step lowers an anti-rollback counter or takes a revocation back, and the counters stay within 64 fuses. -/
def Obligations.FusesOnlyGrow : Prop :=
  ∀ s t : State, s.Inv → step s = .next t → t.Inv ∧ Fuses.kept s.fuses t.fuses

/-- Only the boot and the end of an IMG_CONFIRM blow fuses: every other command leaves them as they are. -/
def Obligations.OnlyBootAndConfirmBlowFuses : Prop :=
  ∀ (c : Instr) (s t : State), exec c s = .next t → t.fuses ≠ s.fuses →
    (∃ r, c = .boot r)
    ∨ (∃ tag o, c = .longCommandDone tag o ∧ ∃ k, s.dev.task? tag.val = some k ∧ k.op = 0x0C06 ∧ k.state = .executing)

/-- The state after reset meets the invariant and lists no memory; the mode is RUN (R352); every axis is OFF (R41), at
position 0 and LOST; engine n serves axis n for n below 64 and 64 to 67 are spares (R29); the completion and command rings
of pair 0 are enabled and empty; no event is latched; no task is in flight; MB_READY is 0 until the boot.
Readings of the model that this rests on: log entries 2, 3. -/
def Obligations.ResetLeaves : Prop :=
  State.reset.Inv ∧ State.reset.pending = [] ∧ memWf State.reset.dev.mem = true ∧ State.reset.dev.mem = []
  ∧ State.reset.dev.mode = 2 ∧ State.reset.dev.on Reg.MB_STAT.MB_READY = false
  ∧ (∀ n : Fin 64, State.reset.dev.axSt n = stOff ∧ State.reset.dev.posNow n = 0
      ∧ State.reset.dev.rd Reg.AX_STAT.POS_STATE n = posLost ∧ State.reset.dev.rd Reg.AX_STAT.ENGINE n = n.val)
  ∧ (∀ t : Fin 16, State.reset.dev.lstate t = 0)
  ∧ State.reset.dev.ringOn 0 = true ∧ State.reset.dev.ringOn 1 = true
  ∧ State.reset.dev.ringCount 0 = 0 ∧ State.reset.dev.ringCount 1 = 0
  ∧ (∀ g : Fin 16, State.reset.dev.rd Reg.EV_LAT.LAT g = 0) ∧ State.reset.dev.sched.tasks = []

/-! ### Encodings -/

/-- Table 7.3: the 64 bytes of a command entry spell the entry back, every field at every value, and its opcode. -/
def Obligations.EntryBytesSpellTheEntry : Prop :=
  ∀ (op : Nat) (e : Entry), op < 65536 →
    (entryBytes op e).length = 64 ∧ parseEntry e.pair e.index.toNat (entryBytes op e) = (op, e)

/-- Table 2.2: the 16 bytes of a link spell the link back, for every link the format can hold.
Table 7.4: a completion entry is 32 bytes, with the opcode, the tag, the flags, the status, the index, USER and the
result, each little-endian at its offset. -/
def Obligations.LinksAndCompletionsKeepTheirLayout : Prop :=
  (∀ l : Link, l.wf = true → (linkBytes l).length = 16 ∧ parseLink (linkBytes l) = l)
  ∧ (∀ (op tag cf st index user : Nat) (result : List Byte),
      op < 2 ^ 16 → tag < 2 ^ 8 → cf < 2 ^ 8 → st < 2 ^ 16 → user < 2 ^ 32 → result.length = 20 →
      let bs := cplBytes op tag cf st index user result
      bs.length = 32 ∧ ofLe (bs.take 2) = op ∧ ofLe ((bs.drop 2).take 1) = tag ∧ ofLe ((bs.drop 3).take 1) = cf
        ∧ ofLe ((bs.drop 4).take 2) = st ∧ ofLe ((bs.drop 6).take 2) = index % 2 ^ 16
        ∧ ofLe ((bs.drop 8).take 4) = user ∧ bs.drop 12 = result)

/-! ### Taking an entry (chapter 07) -/

/-- R635: an entry that the scheduler takes is judged in this order. An explicit TAG outside the pair's range or in flight
completes NO_TAG and takes no tag. Otherwise the entry takes the tag it names, or the lowest free tag of its pair; then an
undefined opcode, reserved FLAGS, WAIT or ON_OK bits, a command that does not work in RESTRICTED mode, and parameters outside
the table's ranges end it, each with NO_EFFECT and under that tag. -/
def Obligations.EntriesAreJudgedInOrder : Prop :=
  ∀ (s : State) (op : Nat) (e : Entry), s.dev.canTake e.pair.val = true →
    (e.tag ≠ 0xFF → ((s.dev.ownTags e.pair.val).contains e.tag.toNat = false ∨ s.dev.task? e.tag.toNat ≠ none) →
      s.dev.admitEntry op e = (s.dev.refuseTag op e, none))
    ∧ (e.tag = 0xFF → s.dev.tagFor e ∈ s.dev.ownTags e.pair.val ∧ s.dev.task? (s.dev.tagFor e) = none
        ∧ ∀ t ∈ s.dev.ownTags e.pair.val, t < s.dev.tagFor e → s.dev.task? t ≠ none)
    ∧ (s.dev.tagOk e → ∀ st : Status,
        ((opKnown op = false ∧ st = .badOpcode)
        ∨ (opKnown op = true ∧ headOk e = false ∧ st = .badParam)
        ∨ (opKnown op = true ∧ headOk e = true ∧ s.dev.on Reg.IMG_STAT.RESTRICTED = true ∧ opRestricted op = false
            ∧ st = .restrictedMode)
        ∨ (opKnown op = true ∧ headOk e = true
            ∧ (s.dev.on Reg.IMG_STAT.RESTRICTED = false ∨ opRestricted op = true) ∧ paramsOk op e = false ∧ st = .badParam)) →
        ∃ r, s.dev.admitEntry op e = ((s.dev.tagged op e).complete (s.dev.tagFor e) st true r, none))

/-- R635, R545, R220, R222, R224: a command row whose entry is refused at taking does what that refusal does and no more: it
completes with an empty result, or where a parameter of an image or security command is out of range with a REASON; an entry is
not taken where its pair cannot take one and has a free tag; an entry that is taken with an unmet WAIT condition, or behind a
FENCE that is not clear, joins the tasks and waits there without further effect.
Readings of the model that this rests on: log entries 4, 15, 63. -/
def Obligations.EntriesWait : Prop :=
  ∀ (s : State) (i : Instr) (op : Nat) (e : Entry), entryOf? i = some (op, e) →
    (s.dev.canTake e.pair.val = false → (s.dev.freeTag e.pair.val).isSome = true → exec i s = .next s)
    ∧ (s.dev.canTake e.pair.val = true → (s.dev.admitEntry op e).2 = none → exec i s = s.gives (s.dev.admitEntry op e).1)
    ∧ (∀ st r, s.dev.tagOk e → s.dev.judge op e = some (st, r) →
        ((opKnown op = false ∨ headOk e = false ∨ paramsOk op e = true) → r = [])
        ∧ (opKnown op = true → headOk e = true → paramsOk op e = false → st = .badParam → r = rangeResult op e)
        ∧ exec i s = s.gives ((s.dev.tagged op e).complete (s.dev.tagFor e) st true r))
    ∧ (s.dev.tagOk e → s.dev.judge op e = none → bitOf e.wait.toNat 15 = true →
        s.dev.flagLevel (bitsOf e.wait.toNat 0 8) ≠ bitOf e.wait.toNat 8 → exec i s = s.gives (s.dev.tagged op e))
    ∧ (s.dev.tagOk e → s.dev.judge op e = none → bitOf e.flags.toNat 1 = true →
        (∃ t ∈ s.dev.sched.tasks, t.pair = e.pair.val ∧ t.state ≠ .completing) → exec i s = s.gives (s.dev.tagged op e))

/-- An accepted entry joins the tasks at their end, executing, under its tag, and leaves the registers but the
scheduler's own status registers, the memory, the axes, the tiles and the fuses as they were. -/
def Obligations.AcceptedEntryBecomesATask : Prop :=
  ∀ (d : Device) (op : Nat) (e : Entry), d.accepts op e →
    ((d.begun op e).sched.tasks.length = d.sched.tasks.length + 1
      ∧ (d.begun op e).sched.tasks.take d.sched.tasks.length = d.sched.tasks
      ∧ ∃ t, (d.begun op e).task? (d.tagFor e) = some t ∧ t.state = .executing ∧ t.entry = e ∧ t.op = op
          ∧ t.pair = e.pair.val ∧ (t.auto = true ↔ e.tag = 0xFF))
    ∧ (d.begun op e).mem = d.mem ∧ (d.begun op e).axes = d.axes ∧ (d.begun op e).tiles = d.tiles
    ∧ (∀ g ∈ allFields, ∀ j < g.count, g.acc ≠ .ro → (d.begun op e).rd g j = d.rd g j)

/-- R213, R206, R221: a task whose completion ring has room and nothing held before it completes with one entry of 32 bytes
at the producer index, which then advances by 1; the tag is free again. Every byte of memory outside the entry is as it was
(the ring's own event not being routed to the event log). -/
def Obligations.CompletionIsWritten : Prop :=
  ∀ (d : Device) (tag : Nat) (st : Status) (ne : Bool) (result : List Byte) (t : Task),
    d.task? tag = some t → t.tag = tag → t.state ≠ .completing → t.pair < 8 →
    d.sched.held.all (fun h => h.pair != t.pair) = true → d.ringRoom (2 * t.pair + 1) 1 = true →
    bitOf (d.route (433 + 2 * t.pair)) 6 = false →
    d.rd Reg.RING_CFG.ESIZE (2 * t.pair + 1) = 1 →
    let a := d.ringAddr (2 * t.pair + 1) (d.rd Reg.RING_PI.PI (2 * t.pair + 1))
    sramSpan a 32 = true →
    let e := d.complete tag st ne result
    e.task? tag = none
    ∧ e.rd Reg.RING_PI.PI (2 * t.pair + 1) = (d.rd Reg.RING_PI.PI (2 * t.pair + 1) + 1) % 2 ^ 32
    ∧ e.bytes a 32 = cplBytes t.op tag (b2n (st.noEffect ne) + 2 * (t.entry.flags.toNat % 2) + 4 * b2n t.auto) st.code
        t.entry.index.toNat t.entry.user.toNat result
    ∧ (∀ x, (x < a ∨ a + 32 ≤ x) → e.byte x = d.byte x)

/-- R232: an outcome that is fixed while its completion ring has no room, or while another of its pair is held, is held with
its tag in flight and CPL_FULL set: no completion ring advances, and the task stays in the list. -/
def Obligations.CompletionIsHeld : Prop :=
  ∀ (d : Device) (h : HeldCpl), h.pair < 8 →
    (d.ringRoom (2 * h.pair + 1) 1 = false ∨ d.sched.held.any (fun x => x.pair == h.pair) = true) →
    (d.deliver h).sched.held = d.sched.held ++ [h] ∧ (d.deliver h).sched.tasks = d.sched.tasks
    ∧ (d.deliver h).on Reg.QP_STAT.CPL_FULL h.pair = true
    ∧ bitOf ((d.deliver h).rd Reg.MB_EVT.CAUSE) 2 = true

/-! ### The commands of the command set -/

/-- Table 7.8, Table 11.7: the queries of the system family complete OK with NO_EFFECT and the result their tables give.
Readings of the model that this rests on: log entries 15, 73, 78. -/
def Obligations.SystemQueriesAnswer : Prop :=
  ∀ (s : State) (e : Entry),
    (s.dev.accepts 0x0101 e → ∃ version : Nat → Nat,
      (s.dev.keep.slot = none → ∀ k, version k = 0)
      ∧ (∀ r, s.dev.keep.slot = some r → ∀ k, version k = (s.dev.begun 0x0101 e).manifest r k 4 8)
      ∧ exec (.sysIdent e) s = s.gives ((s.dev.begun 0x0101 e).ok (s.dev.tagFor e) true
          (leBytes 2 0x8064 ++ [0xB1] ++ leBytes 1 ((s.dev.begun 0x0101 e).rd Reg.IMG_STAT.RESTRICTED)
            ++ leBytes 4 (version 0) ++ leBytes 4 (version 1) ++ leBytes 2 ((s.dev.begun 0x0101 e).ifrev 0)
            ++ leBytes 2 ((s.dev.begun 0x0101 e).ifrev 1) ++ leBytes 1 (s.dev.begun 0x0101 e).mode
            ++ leBytes 1 ((s.dev.begun 0x0101 e).rd Reg.IMG_STAT.SLOT))))
    ∧ (s.dev.accepts 0x0102 e → exec (.echo e) s
        = s.gives ((s.dev.begun 0x0102 e).ok (s.dev.tagFor e) true (leBytes 20 (e.p 20 0))))
    ∧ (s.dev.accepts 0x0104 e → exec (.tagQuery e) s
        = s.gives ((s.dev.begun 0x0104 e).ok (s.dev.tagFor e) true
            (leBytes 16 (s.dev.begun 0x0104 e).tagMask ++ leBytes 1 (s.dev.sched.tasks.length + 1))))
    ∧ (s.dev.accepts 0x0105 e → e.flag 1 0 = false → exec (.lostTags e) s
        = s.gives ((s.dev.begun 0x0105 e).ok (s.dev.tagFor e) true
            ((List.range 4).flatMap (fun g => leBytes 4
              ((s.dev.begun 0x0105 e).rd (if e.p 1 0 = 0 then Reg.LOST.MASK else Reg.LOST_IDEM.MASK) g)))))
    ∧ (s.dev.accepts 0x0105 e → e.flag 1 0 = true → exec (.lostTags e) s
        = s.gives (((s.dev.begun 0x0105 e).each 4 (fun g d => (d.wr Reg.LOST.MASK g 0).wr Reg.LOST_IDEM.MASK g 0)).ok
            (s.dev.tagFor e) (!(List.range 4).any (fun g => (s.dev.begun 0x0105 e).rd Reg.LOST.MASK g != 0
              || (s.dev.begun 0x0105 e).rd Reg.LOST_IDEM.MASK g != 0)) ((List.range 4).flatMap (fun g => leBytes 4
              ((s.dev.begun 0x0105 e).rd (if e.p 1 0 = 0 then Reg.LOST.MASK else Reg.LOST_IDEM.MASK) g)))))
    ∧ (s.dev.accepts 0x0108 e → exec (.timeQuery e) s
        = s.gives ((s.dev.begun 0x0108 e).ok (s.dev.tagFor e) true (leBytes 8 s.dev.loops
            ++ leBytes 8 (if s.dev.power.motion = true then s.dev.power.loopGrain else s.dev.grain))))
    ∧ (s.dev.accepts 0x0111 e → exec (.modeQuery e) s
        = s.gives ((s.dev.begun 0x0111 e).showClocks.ok (s.dev.tagFor e) true
            (leBytes 1 (modeCode s.dev.mode)
              ++ leBytes 1 (if s.dev.power.step = .deferred ∨ s.dev.power.step = .ready then modeCode s.dev.power.target else 0)
              ++ leBytes 1 (s.dev.rd Reg.PWR_STAT.DEFER_CAUSE) ++ [0]
              ++ leBytes 8 ((s.dev.begun 0x0111 e).showClocks.rd Reg.CLK_STAT_L.RUN
                + 2 ^ 32 * (s.dev.begun 0x0111 e).showClocks.rd Reg.CLK_STAT_H.RUN)
              ++ leBytes 2 (s.dev.rd Reg.WAKE_REASON.REASON) ++ leBytes 1 (s.dev.rd Reg.BO_STAT.OK))))

/-- Table 7.8, R342: FLAG_SET sets and clears the task flags and answers them; CANCEL waits for step 1 of the next pass;
DEVICE_RESET is refused BUSY_MOVING while an axis moves unless forced, and else acts in the next pass; MODE_SET begins at
once, or waits while another mode change is under way, ending a deferring phrase all the same where it carries FORCE.
Readings of the model that this rests on: log entries 16, 30. -/
def Obligations.SystemCommandsAct : Prop :=
  ∀ (s : State) (e : Entry),
    (s.dev.accepts 0x0107 e →
      let now := (s.dev.taskFlags ||| e.p 8 0) - ((s.dev.taskFlags ||| e.p 8 0) &&& e.p 8 8)
      exec (.flagSet e) s = s.gives (((s.dev.begun 0x0107 e).setTaskFlags now).ok (s.dev.tagFor e)
        (now == s.dev.taskFlags) (leBytes 8 now)))
    ∧ (s.dev.accepts 0x0103 e → exec (.cancel e) s
        = s.gives ((s.dev.begun 0x0103 e).modSched (fun k => { k with cancels := k.cancels ++ [s.dev.tagFor e] })))
    ∧ (s.dev.accepts 0x0106 e → (e.flag 0 0 = true ∨ (s.dev.begun 0x0106 e).allQuiet = true) → exec (.deviceReset e) s
        = s.gives ((s.dev.begun 0x0106 e).modSched (fun k => { k with resetDue := true })))
    ∧ (s.dev.accepts 0x0106 e → e.flag 0 0 = false → (s.dev.begun 0x0106 e).allQuiet = false → exec (.deviceReset e) s
        = s.gives ((s.dev.begun 0x0106 e).refuse (s.dev.tagFor e) .busyMoving))
    ∧ (s.dev.accepts 0x0110 e → s.dev.modeBusy = false → exec (.modeSet e) s
        = s.gives ((s.dev.begun 0x0110 e).beginMode (s.dev.tagFor e)))
    ∧ (s.dev.accepts 0x0110 e → s.dev.modeBusy = true → exec (.modeSet e) s
        = s.gives (((s.dev.begun 0x0110 e).queueLong (s.dev.tagFor e)).forced (s.dev.tagFor e)))

/-- Tables 2.5, 3.4, 4.4, 5.4 and R351: the commands that pass through an axis ring join the ring of their axis while the
motion machine runs, and complete FUNCTION_DOWN where it does not.
Readings of the model that this rests on: log entry 30. -/
def Obligations.AxisRingCommandsQueue : Prop :=
  ∀ (s : State) (e : Entry) (p : (Entry → Instr) × Nat),
    p ∈ [(Instr.chainStart, 0x0201), (Instr.followEnter, 0x0210), (Instr.motorIdent, 0x0305), (Instr.homeStart, 0x0401),
      (Instr.homeVerify, 0x0402)] → s.dev.accepts p.2 e →
    (s.dev.motionRuns = true → exec (p.1 e) s
      = s.gives ((s.dev.begun p.2 e).enqueueAxis (e.p 1 0) (s.dev.tagFor e)))
    ∧ (s.dev.motionRuns = false → exec (p.1 e) s
        = s.gives ((s.dev.begun p.2 e).refuse (s.dev.tagFor e) .functionDown))

/-- Table 2.5: STOP asks each masked axis that moves, or holds an armed start, to stop, with FLUSH ends what waits for the
masked axes, and completes at once only where no axis enters a stop chain, with NO_EFFECT where no masked axis moved, held an
armed start or lost an entry; SCALE_SET writes the SCALE shadows.
Readings of the model that this rests on: log entry 22. -/
def Obligations.StopAndScaleAct : Prop :=
  ∀ (s : State) (e : Entry),
    (s.dev.accepts 0x0202 e → e.flag 8 0 = false →
      let b := s.dev.begun 0x0202 e
      let asked := (maskAxes e).foldl (fun d n =>
        if d.stoppable n || (d.ax n).armed.isSome then d.askStop n 1 else d) b
      exec (.stop e) s = s.gives
        (if ((maskAxes e).filter (fun n => b.stoppable n)).isEmpty || !b.motionRuns
          then asked.ok (s.dev.tagFor e) (!(maskAxes e).any (fun n => b.stoppable n || (b.ax n).armed.isSome)) (leBytes 8 0)
          else asked))
    ∧ (s.dev.accepts 0x0202 e → e.flag 8 0 = true →
      let b := s.dev.begun 0x0202 e
      let asked := (maskAxes e).foldl (fun d n =>
        if d.stoppable n || (d.ax n).armed.isSome then d.askStop n 1 else d) b
      let flushed := (maskAxes e).foldl (fun d n => d.flushAxis n .cancelled) asked
      let noEffect := !(maskAxes e).any (fun n => b.stoppable n || (b.ax n).armed.isSome
        || (asked.ax n).ring.any (fun k => !k.dead) || !(asked.unplaced n).isEmpty)
      exec (.stop e) s = s.gives
        (if ((maskAxes e).filter (fun n => b.stoppable n)).isEmpty || !flushed.motionRuns
          then flushed.ok (s.dev.tagFor e) noEffect (leBytes 8 0) else flushed))
    ∧ (s.dev.accepts 0x0203 e → exec (.scaleSet e) s
        = s.gives (((maskAxes e).foldl (fun d n => d.wrSh Reg.SCALE.SCALE n (e.p 2 8)) (s.dev.begun 0x0203 e)).ok
            (s.dev.tagFor e) (maskAxes e).isEmpty []))

/-- R40, R39, R48, Table 2.5: CHAIN_LOAD copies links to the chain unless it is locked; CHAIN_CHECK answers what validation
says; AXIS_QUERY answers the snapshot of the last tick boundary; AXIS_ENABLE acts on the masked axes whose enable changes, and
is refused as a whole while a masked axis moves, while a shutdown latch holds, or where a stop chain fails validation, with
the reason of the first that fails.
Readings of the model that this rests on: log entries 15, 22, 48, 64. -/
def Obligations.ChainAndAxisCommandsAct : Prop :=
  ∀ (s : State) (e : Entry),
    (s.dev.accepts 0x0204 e → (s.dev.begun 0x0204 e).chainLocked (e.p 1 0) = false → exec (.chainLoad e) s
      = s.gives (((s.dev.begun 0x0204 e).put (0x10080000 + e.p 1 0 * 0x640 + e.p 1 1 * 0x10)
          (s.dev.bytes (e.p 4 4) (16 * e.p 1 2))).ok (s.dev.tagFor e) false []))
    ∧ (s.dev.accepts 0x0204 e → (s.dev.begun 0x0204 e).chainLocked (e.p 1 0) = true → exec (.chainLoad e) s
        = s.gives ((s.dev.begun 0x0204 e).refuse (s.dev.tagFor e) .busyMoving))
    ∧ (s.dev.accepts 0x0205 e →
        let b := s.dev.begun 0x0205 e
        (∀ r, b.checkChain (e.p 1 0) (b.chainLimits (e.p 1 1)) (e.flag 2 0) (e.flag 2 1) = .ok r →
          exec (.chainCheck e) s = s.gives (b.ok (s.dev.tagFor e) true [0xFF, 0]))
        ∧ (∀ r, b.checkChain (e.p 1 0) (b.chainLimits (e.p 1 1)) (e.flag 2 0) (e.flag 2 1) = .error r →
          exec (.chainCheck e) s
            = s.gives (b.refuse (s.dev.tagFor e) .badParam (leBytes 1 r.1 ++ leBytes 1 r.2))))
    ∧ (s.dev.accepts 0x0206 e →
        let b := s.dev.begun 0x0206 e
        let n := e.p 1 0
        exec (.axisQuery e) s = s.gives (b.ok (s.dev.tagFor e) true
          (leBytes 4 (b.snap Reg.POS_L.POS n) ++ leBytes 1 (b.snap Reg.POS_H.POS n)
            ++ leBytes 1 (b.snap Reg.AX_STAT.STATE n) ++ leBytes 1 (b.snap Reg.AX_STAT.LINK n)
            ++ leBytes 1 (b.snap Reg.AX_STAT.CHAIN n) ++ leBytes 4 (b.snap Reg.VEL.VEL n)
            ++ leBytes 2 (b.snap Reg.SCALE_NOW.SCALE n) ++ leBytes 2 (b.snap Reg.ANGLE.ANGLE n))))
    ∧ (s.dev.accepts 0x0207 e →
        let b := s.dev.begun 0x0207 e
        let on := e.flag 8 0
        let hit := (maskAxes e).filter (fun n => b.on Reg.AX_CTRL.ENABLE n != on && !(on && b.on Reg.AX_STAT.DEGRADED n))
        exec (.axisEnable e) s = s.gives
          (if (maskAxes e).any (fun n => !b.quiet n) then b.refuse (s.dev.tagFor e) .busyMoving
          else if on ∧ (maskAxes e).any (fun n => b.shutFor n) then b.refuse (s.dev.tagFor e) .functionDown
          else if on ∧ hit.any (fun n => !b.stopChainOk (b.rd Reg.STOP_CHAIN.CHAIN n) (b.rd Reg.VMAX.VMAX n)) then
            b.refuse (s.dev.tagFor e) .badParam (leBytes 8 0 ++ leBytes 1 ((hit.filterMap (fun n =>
              b.stopChainFault (b.rd Reg.STOP_CHAIN.CHAIN n) (b.rd Reg.VMAX.VMAX n))).headD 0))
          else (hit.foldl (fun d n => if on then d.enableAxis n else d.disableAxis n) b).ok (s.dev.tagFor e) hit.isEmpty
            (leBytes 8 (axisMask (fun n => hit.contains n)))))

/-- R102, R89, Table 3.4: FOLLOW_LEAVE raises the leave request of an axis in FOLLOW (with NO_WAIT only if it may leave);
MT_LOAD copies 1024 table values unless the table is in use, and goes on copying until the next tick boundary;
PENDING_CLEAR answers and clears FOLLOW_PENDING outside FOLLOW.
Readings of the model that this rests on: log entries 15, 78. -/
def Obligations.FollowCommandsAct : Prop :=
  ∀ (s : State) (e : Entry),
    (s.dev.accepts 0x0211 e → s.dev.axSt (e.p 1 0) = stFollow →
        (e.flag 1 0 = false ∨ (s.dev.begun 0x0211 e).mayLeave (e.p 1 0) = true) → exec (.followLeave e) s
      = s.gives ((s.dev.begun 0x0211 e).modAx (e.p 1 0)
          (fun a => { a with leave := a.leave ++ [⟨s.dev.tagFor e, 0⟩] })))
    ∧ (s.dev.accepts 0x0211 e → s.dev.axSt (e.p 1 0) ≠ stFollow → exec (.followLeave e) s
        = s.gives ((s.dev.begun 0x0211 e).refuse (s.dev.tagFor e) .badParam))
    ∧ (s.dev.accepts 0x0212 e → (s.dev.begun 0x0212 e).tableInUse (e.p 1 0) = false →
        let t := sparsePut (e.p 1 0) ((List.range 1024).map (fun i => s.dev.ld 2 (e.p 4 4 + 2 * i))) s.dev.tables
        exec (.mtLoad e) s
          = s.gives { (s.dev.begun 0x0212 e) with tables := t })
    ∧ (s.dev.accepts 0x0212 e → (s.dev.begun 0x0212 e).tableInUse (e.p 1 0) = true → exec (.mtLoad e) s
        = s.gives ((s.dev.begun 0x0212 e).refuse (s.dev.tagFor e) .busyMoving))
    ∧ (s.dev.accepts 0x0213 e → s.dev.axSt (e.p 1 0) ≠ stFollow → exec (.pendingClear e) s
        = s.gives (((s.dev.begun 0x0213 e).wr Reg.FOL_PEND.PENDING (e.p 1 0) 0).ok (s.dev.tagFor e)
            (sext 24 (s.dev.rd Reg.FOL_PEND.PENDING (e.p 1 0)) == 0)
            (leBytes 4 (toBits 32 (sext 24 (s.dev.rd Reg.FOL_PEND.PENDING (e.p 1 0)))))))

/-- Table 4.4, R142, R143, R168: CUR_POLICY_SET writes the shadows of the masked axes; CUR_QUERY and LEDGER_READ answer;
LEDGER_CLEAR clears the ledgers of the masked axes, and of the cabinet with its flag; POS_INVALIDATE marks the masked axes for
the next tick boundary.
Readings of the model that this rests on: log entry 15. -/
def Obligations.CurrentCommandsAct : Prop :=
  ∀ (s : State) (e : Entry),
    (s.dev.accepts 0x0301 e → exec (.curPolicySet e) s
      = s.gives (((maskAxes e).foldl (fun d n =>
          ((((d.wrSh Reg.CUR_BOUND.FLOOR n (e.p 2 8)).wrSh Reg.CUR_BOUND.CEIL n (e.p 2 10)).wrSh Reg.CUR_CTRL.LEAN_EN n
            (e.p 1 12 % 2)).wrSh Reg.CUR_CTRL.POLICY n (e.p 1 12 / 2))) (s.dev.begun 0x0301 e)).ok
          (s.dev.tagFor e) (maskAxes e).isEmpty []))
    ∧ (s.dev.accepts 0x0302 e →
        let b := s.dev.begun 0x0302 e
        let n := e.p 1 0
        exec (.curQuery e) s = s.gives (b.ok (s.dev.tagFor e) true
          (leBytes 2 (b.rd Reg.CUR_STAT.DEMAND n) ++ leBytes 2 (b.rd Reg.CUR_LOAD.L n)
            ++ leBytes 2 (b.rd Reg.CEIL_NOW.CEIL n) ++ leBytes 2 (b.rd Reg.CEIL_NOW.DERATE n)
            ++ leBytes 2 (toBits 16 (sext 12 (b.rd Reg.CUR_LOAD.DELTA n)))
            ++ leBytes 2 (b.rd Reg.CUR_STAT.FLAGS n + 128 * b.rd Reg.CUR_STAT.STALL_LASTING n)
            ++ leBytes 2 (toBits 16 (b.ax n).phaseA.i) ++ leBytes 2 (toBits 16 (b.ax n).phaseB.i))))
    ∧ (s.dev.accepts 0x0303 e →
        let b := s.dev.begun 0x0303 e
        let n := e.p 1 0
        exec (.ledgerRead e) s = s.gives (b.ok (s.dev.tagFor e) true
          (if n = 0xFF then leBytes 4 (b.snap Reg.CE_L.CE 0) ++ leBytes 4 (b.snap Reg.CE_H.CE 0) ++ leBytes 8 0
          else leBytes 4 (b.snap Reg.ECOP_L.ECOP n) ++ leBytes 4 (b.snap Reg.ECOP_H.ECOP n)
            ++ leBytes 4 (b.snap Reg.EDEL_L.EDEL n) ++ leBytes 4 (b.snap Reg.EDEL_H.EDEL n))))
    ∧ (s.dev.accepts 0x0304 e →
        let d := (maskAxes e).foldl Device.clearLedger (s.dev.begun 0x0304 e)
        exec (.ledgerClear e) s = s.gives
          ((if e.flag 8 0 then (d.wr Reg.CE_L.CE 0 0).wr Reg.CE_H.CE 0 0 else d).ok (s.dev.tagFor e)
            ((maskAxes e).isEmpty && !e.flag 8 0) []))
    ∧ (s.dev.accepts 0x0403 e → (s.dev.begun 0x0403 e).motionRuns = true → exec (.posInvalidate e) s
        = s.gives ((maskAxes e).foldl (fun d n => d.modAx n (fun a => { a with invalidate := true }))
            (s.dev.begun 0x0403 e)))
    ∧ (s.dev.accepts 0x0403 e → (s.dev.begun 0x0403 e).motionRuns = false → exec (.posInvalidate e) s
        = s.gives ((s.dev.begun 0x0403 e).refuse (s.dev.tagFor e) .functionDown))

/-- Table 6.10: TILE_START enables the masked tiles and starts the links that are DOWN; TILE_STOP, while every axis of the
masked tiles is quiet, clears the enables and stops the links; TILE_REINIT resets the tile blocks; FILTER_SYNC asks each masked
link that runs for a synchronising reset; TILE_QUERY answers.
Readings of the model that this rests on: log entries 15, 25. -/
def Obligations.TileCommandsAct : Prop :=
  ∀ (s : State) (e : Entry),
    (s.dev.accepts 0x0501 e → (s.dev.begun 0x0501 e).running = true → exec (.tileStart e) s
      = s.gives ((maskTiles e).foldl (fun d t =>
          let d := d.wr Reg.TL_CTRL.EN t 1
          if d.lstate t = 0 then d.startLink t else d) (s.dev.begun 0x0501 e)).finishTiles)
    ∧ (s.dev.accepts 0x0502 e →
        let b := s.dev.begun 0x0502 e
        ((maskTiles e).any (fun t => (tileAxes t).any (fun n => !b.quiet n)) = false → exec (.tileStop e) s
          = s.gives ((maskTiles e).foldl (fun d t => (d.wr Reg.TL_CTRL.EN t 0).stopLink t) b).finishTiles)
        ∧ ((maskTiles e).any (fun t => (tileAxes t).any (fun n => !b.quiet n)) = true → exec (.tileStop e) s
          = s.gives (b.refuse (s.dev.tagFor e) .busyMoving)))
    ∧ (s.dev.accepts 0x0503 e → (s.dev.begun 0x0503 e).running = true → exec (.tileReinit e) s
        = s.gives ((maskTiles e).foldl Device.tileReinit (s.dev.begun 0x0503 e)).finishTiles)
    ∧ (s.dev.accepts 0x0501 e → (s.dev.begun 0x0501 e).running = false → exec (.tileStart e) s
        = s.gives ((s.dev.begun 0x0501 e).refuse (s.dev.tagFor e) .functionDown (leBytes 4 0)))
    ∧ (s.dev.accepts 0x0503 e → (s.dev.begun 0x0503 e).running = false → exec (.tileReinit e) s
        = s.gives ((s.dev.begun 0x0503 e).refuse (s.dev.tagFor e) .functionDown (leBytes 4 0)))
    ∧ (s.dev.accepts 0x0504 e →
        let b := s.dev.begun 0x0504 e
        (∀ t ∈ maskTiles e, b.lstate t = 4 ∨ b.lstate t = 5) → exec (.filterSync e) s
          = s.gives ((maskTiles e).foldl (fun d t =>
              (d.wr Reg.TL_STAT.SETTLE_LEFT t 2).modTile t (fun x => { x with syncDue := true, syncWait := true })) b))
    ∧ (s.dev.accepts 0x0505 e →
        let b := s.dev.begun 0x0505 e
        let t := e.p 1 0
        exec (.tileQuery e) s = s.gives (b.ok (s.dev.tagFor e) true
          (leBytes 1 (b.lstate t) ++ leBytes 1 (b.rd Reg.TL_STAT.PHASE t) ++ leBytes 2 (b.rd Reg.TL_RTT.RTT_BITS t)
            ++ leBytes 4 (b.rd Reg.TL_TSTAT.TSTAT t) ++ leBytes 4 (b.rd Reg.TL_BAD.COUNT t)
            ++ leBytes 2 (b.rd Reg.TL_CNT.REALIGN t) ++ leBytes 1 (b.rd Reg.TL_RTT.REJ_CNT t)
            ++ leBytes 2 (b.rd Reg.TL_ID.BYTE t) ++ leBytes 1 (bitsOf (b.rd Reg.TL_ID2.BYTE t) 16 8))))

/-- Table 12.4a, R381, R382: ADC_URGENT converts at once, waits behind the one being converted with at most four, or is
refused; BUSHEL_READ answers one snapshot and clears it with its flag; BUSHEL_CLEAR clears the masked channels; ADC_REINIT
ends what the converter has under way and resets the block.
Readings of the model that this rests on: log entries 15, 38. -/
def Obligations.ConverterCommandsAct : Prop :=
  ∀ (s : State) (e : Entry),
    (s.dev.accepts 0x0601 e → ¬(s.dev.power.step ≠ .none ∧ s.dev.power.goal = 0) → s.dev.adc.urgent = none →
      exec (.adcUrgent e) s = s.gives ((s.dev.begun 0x0601 e).modAdc (fun a => { a with
        urgent := some ⟨s.dev.tagFor e, e.p 1 0, s.dev.adc.converting⟩,
        resumed := a.resumed || s.dev.adc.converting })).beginConversion)
    ∧ (s.dev.accepts 0x0601 e → ¬(s.dev.power.step ≠ .none ∧ s.dev.power.goal = 0) → s.dev.adc.urgent ≠ none →
        s.dev.adc.queue.length < 4 → exec (.adcUrgent e) s
          = s.gives (((s.dev.begun 0x0601 e).queueLong (s.dev.tagFor e)).modAdc (fun a => { a with
              queue := a.queue ++ [⟨s.dev.tagFor e, e.p 1 0, false⟩] })).refreshAdc)
    ∧ (s.dev.accepts 0x0601 e → ¬(s.dev.power.step ≠ .none ∧ s.dev.power.goal = 0) → s.dev.adc.urgent ≠ none →
        4 ≤ s.dev.adc.queue.length → exec (.adcUrgent e) s
          = s.gives ((s.dev.begun 0x0601 e).refuse (s.dev.tagFor e) .busyMoving))
    ∧ (s.dev.accepts 0x0602 e →
        let b := s.dev.begun 0x0602 e
        let n := e.p 1 0
        exec (.bushelRead e) s = s.gives
          ((if e.flag 1 0 then (b.clearBushel n).clearSpan n else b).ok (s.dev.tagFor e) (!e.flag 1 0)
            (leBytes 4 (b.rd Reg.BSH_SUM_L.SUM n) ++ leBytes 2 (b.rd Reg.BSH_SUM_H.SUM n)
              ++ leBytes 3 (b.rd Reg.BSH_CNT.COUNT n) ++ leBytes 3 (b.rd Reg.SPN_MIN.MIN n)
              ++ leBytes 3 (b.rd Reg.SPN_MAX.MAX n) ++ leBytes 1 (b.rd Reg.BSH_CNT.BSTAT n) ++ leBytes 4 b.grain)))
    ∧ (s.dev.accepts 0x0603 e → exec (.bushelClear e) s
        = s.gives (((s.dev.begun 0x0603 e).eachIn (e.p 5 0) 40 (fun n d =>
            let d := if e.flag 5 0 then d.clearBushel n else d
            if e.flag 5 1 then d.clearSpan n else d)).ok (s.dev.tagFor e) false []))
    ∧ (s.dev.accepts 0x0604 e → s.dev.adc.urgent = none → s.dev.adc.queue = [] → exec (.adcReinit e) s
        = s.gives (({ (s.dev.begun 0x0604 e).funcReset 0x9000 0xA000 [] with adc := Adc.reset } : Device).ok
            (s.dev.tagFor e) false []))

/-- Table 13.9: NE_LOAD begins where its handle is empty; NE_UNLOAD empties a handle that no waiting job names; NE_FLUSH
flushes the queues of its mask; PERC_QUERY answers; CAM_REINIT, BM_REINIT and NE_REINIT begin their reset. What a long
command does at its end is LONG_COMMAND_DONE.
Readings of the model that this rests on: log entries 15, 16, 40. -/
def Obligations.PerceptionCommandsAct : Prop :=
  ∀ (s : State) (e : Entry),
    (s.dev.accepts 0x0701 e → (s.dev.begun 0x0701 e).longBusy [0x0701, 0x0707] (s.dev.tagFor e) = false →
        (s.dev.begun 0x0701 e).container (e.p 1 0) = none → (s.dev.begun 0x0701 e).running = true →
        exec (.neLoad e) s = s.gives (s.dev.begun 0x0701 e))
    ∧ (s.dev.accepts 0x0702 e → ((s.dev.begun 0x0702 e).container (e.p 1 0)).isSome = true →
        (s.dev.begun 0x0702 e).namesHandle (e.p 1 0) = false → exec (.neUnload e) s
          = s.gives ((((s.dev.begun 0x0702 e).modPerc (fun p => { p with
              handles := modNth (fun _ => none) (e.p 1 0) p.handles })).refreshNe).ok (s.dev.tagFor e) false []))
    ∧ (s.dev.accepts 0x0703 e → ∃ r : Device × Nat,
        r = (bitsBelow (e.p 1 0) 4).foldl (fun (p : Device × Nat) q =>
          ((p.1.flushQueue q).1, p.2 + (p.1.flushQueue q).2)) (s.dev.begun 0x0703 e, 0)
        ∧ exec (.neFlush e) s = s.gives (r.1.ok (s.dev.tagFor e)
          (r.2 == 0 && !(bitOf (e.p 1 0) 3 && (s.dev.begun 0x0703 e).audio.seg.isSome)) (leBytes 2 r.2)))
    ∧ (s.dev.accepts 0x0704 e → ∃ handle : Nat,
        let b := s.dev.begun 0x0704 e
        let act := b.rd Reg.NE_STAT.ACTIVE
        (b.perc.job = none → handle = 0xFF)
        ∧ (∀ j, b.perc.job = some j → handle = if j.spotter.isSome then 0xFF else jobByte j.bytes 0)
        ∧ exec (.percQuery e) s = s.gives (b.ok (s.dev.tagFor e) true
          (leBytes 1 (b.rd Reg.BM_STAT.ACTIVE) ++ leBytes 1 (b.rd Reg.BM_STAT.RETIRED) ++ leBytes 2 act
            ++ leBytes 2 (65535 - act) ++ leBytes 1 (b.rd Reg.NE_STAT.LOADED) ++ leBytes 1 handle ++ leBytes 4 b.ptime
            ++ leBytes 4 (b.rd Reg.CAM_SEQ.SEQ 0) ++ leBytes 4 (b.rd Reg.CAM_SEQ.SEQ 1))))
    ∧ (s.dev.accepts 0x0705 e → (s.dev.begun 0x0705 e).longBusy [0x0705] (s.dev.tagFor e) = false →
        exec (.camReinit e) s = s.gives ((s.dev.begun 0x0705 e).eachIn (e.p 1 0) 2 (fun c d => d.camReinit c)))
    ∧ (s.dev.accepts 0x0706 e → (s.dev.begun 0x0706 e).longBusy [0x0706] (s.dev.tagFor e) = false →
        exec (.bmReinit e) s = s.gives (((s.dev.begun 0x0706 e).funcReset 0xB080 0xB0A0
          [Reg.BM_STAT.ACTIVE.key 0, Reg.BM_STAT.RETIRED.key 0]).bmWritten false))
    ∧ (s.dev.accepts 0x0707 e → (s.dev.begun 0x0707 e).longBusy [0x0701, 0x0707] (s.dev.tagFor e) = false →
        exec (.neReinit e) s = s.gives (beginNeReinit (s.dev.tagFor e) (s.dev.begun 0x0707 e)))

/-- Tables 14.3, 15.3: the commands of audio and fusion: the queries answer, KWS_ABORT ends a phrase with verdict ABORTED and
answers its score, the reinitialisations reset their function, TRACK_CLEAR marks tracks in FULL.
Readings of the model that this rests on: log entries 15, 41, 42. -/
def Obligations.AudioAndFusionCommandsAct : Prop :=
  ∀ (s : State) (e : Entry),
    (s.dev.accepts 0x0801 e →
      let b := s.dev.begun 0x0801 e
      exec (.audQuery e) s = s.gives (b.ok (s.dev.tagFor e) true
        (leBytes 1 (b.rd Reg.AUD_STAT.STATE) ++ [0] ++ leBytes 2 (toBits 16 (b.audio.floor.getD 0))
          ++ leBytes 2 (toBits 16 b.audio.level) ++ leBytes 2 0 ++ leBytes 4 (b.rd Reg.SEG_SEQ.COUNT)
          ++ leBytes 1 b.audio.verdict ++ leBytes 1 (b.rd Reg.AUD_STAT.STUCK) ++ leBytes 2 Config.spotterVersion.toNat
          ++ leBytes 4 Config.spotterWorkBytes.toNat)))
    ∧ (s.dev.accepts 0x0802 e → s.dev.audio.seg = none → exec (.kwsAbort e) s
        = s.gives ((s.dev.begun 0x0802 e).ok (s.dev.tagFor e) true []))
    ∧ (s.dev.accepts 0x0802 e → ∀ g, s.dev.audio.seg = some g → exec (.kwsAbort e) s
        = s.gives (((s.dev.begun 0x0802 e).verdict 2).ok (s.dev.tagFor e) false (leBytes 2 g.score)))
    ∧ (s.dev.accepts 0x0803 e → exec (.audReinit e) s
        = s.gives ((s.dev.begun 0x0803 e).audioReinit.ok (s.dev.tagFor e) false []))
    ∧ (s.dev.accepts 0x0901 e →
        let b := s.dev.begun 0x0901 e
        let mask (p : Track → Bool) : Nat := (List.range 32).foldl (fun m t => if p (b.track t) then m + 2 ^ t else m) 0
        exec (.fusQuery e) s = s.gives (b.ok (s.dev.tagFor e) true
          (leBytes 4 b.fusion.cycle ++ leBytes 4 (b.rd Reg.EGO_VEL.V_EGO 0) ++ leBytes 4 (b.rd Reg.EGO_VEL.V_EGO 1)
            ++ leBytes 4 (mask Track.live) ++ leBytes 4 (mask (fun t => t.state == 2 || t.state == 3)))))
    ∧ (s.dev.accepts 0x0902 e →
        let b := s.dev.begun 0x0902 e
        exec (.streamAges e) s = s.gives (b.ok (s.dev.tagFor e) true
          ((List.range 8).flatMap (fun k => leBytes 2 (min 0xFFFF (b.rd Reg.STR_AGE.AGE k / 1000)))
            ++ leBytes 1 ((List.range 8).foldl (fun m k => if b.streamKind k != 0 then m + 2 ^ k else m) 0))))
    ∧ (s.dev.accepts 0x0903 e → (s.dev.begun 0x0903 e).full = true → exec (.trackClear e) s
        = s.gives (((s.dev.begun 0x0903 e).modFusion (fun u => { u with clearMask := u.clearMask ||| e.p 4 0 })).ok
            (s.dev.tagFor e) (e.p 4 0 == 0) []))
    ∧ (s.dev.accepts 0x0903 e → (s.dev.begun 0x0903 e).full = false → exec (.trackClear e) s
        = s.gives ((s.dev.begun 0x0903 e).complete (s.dev.tagFor e) .functionDown true []))
    ∧ (s.dev.accepts 0x0904 e → exec (.fusReinit e) s
        = s.gives ((((((s.dev.begun 0x0904 e).dropTracks.modFusion (fun u => { u with
            streams := List.replicate 8 ⟨0, none, false⟩ })).funcReset 0xB400 0xB604
            (cfgKeys 0xB400 0xB604)).egoReset).publish true).ok
            (s.dev.tagFor e) false []))

/-- Table 16.5: THERM_QUERY, FAN_QUERY and FAN_MAP_READ answer; FAN_RESTART clears the latches of the masked fans that are
enabled and starts them; FAN_MAP_CLEAR empties the learned maps; THERM_REINIT puts the registers of every sensor but the
die's at their reset values, clears those sensors' latches and hovers, and takes the next sample without dwell.
Readings of the model that this rests on: log entries 15, 39, 71. -/
def Obligations.ThermalCommandsAct : Prop :=
  ∀ (s : State) (e : Entry),
    (s.dev.accepts 0x0A01 e →
      let b := s.dev.begun 0x0A01 e
      exec (.thermQuery e) s = s.gives (b.ok (s.dev.tagFor e) true
        (leBytes 2 (b.rd Reg.TH_STAT.READING (e.p 1 0)) ++ leBytes 1 (b.rd Reg.TH_STAT.OUT (e.p 1 0))
          ++ leBytes 1 (b.rd Reg.TH_STAT.HOVER (e.p 1 0)) ++ leBytes 2 (b.sensor (e.p 1 0)).since)))
    ∧ (s.dev.accepts 0x0A02 e → ∃ code : Nat,
        let b := s.dev.begun 0x0A02 e
        let f := e.p 1 0
        ((b.fan f).current = none → code = 0) ∧ (∀ r, (b.fan f).current = some r → code = toBits 24 r.1)
        ∧ exec (.fanQuery e) s = s.gives (b.ok (s.dev.tagFor e) true
          (leBytes 1 (b.rd Reg.FAN_STAT.STATE f) ++ leBytes 1 (b.rd Reg.FAN_STAT.CLASS f)
            ++ leBytes 2 (b.rd Reg.FAN_STAT.DUTY f) ++ leBytes 2 (b.rd Reg.FAN_SPEED.RPM f)
            ++ leBytes 2 (b.rd Reg.FAN_SPEED.TARGET f) ++ leBytes 3 code ++ leBytes 1 (b.rd Reg.FAN_STAT.ATTEMPT f))))
    ∧ (s.dev.accepts 0x0A03 e → exec (.fanRestart e) s
        = s.gives (((s.dev.begun 0x0A03 e).eachIn (e.p 1 0) 6 (fun f d =>
            if d.on Reg.FAN_CTRL.EN f then (d.clearLatches [0x14, 0x15, 0x16] f).startFan f else d)).ok
            (s.dev.tagFor e) false []))
    ∧ (s.dev.accepts 0x0A04 e → exec (.fanMapClear e) s
        = s.gives (((s.dev.begun 0x0A04 e).eachIn (e.p 1 0) 6 (fun f d =>
            d.modFan f (fun x => { x with map := List.replicate 9 0, stay := 0, point := 0 }))).ok
            (s.dev.tagFor e) false []))
    ∧ (s.dev.accepts 0x0A05 e → exec (.thermReinit e) s
        = s.gives ((((s.dev.begun 0x0A05 e).funcReset 0xA120 0xA420 []).each 25 (fun x d =>
            if x = 0 then d
            else ((d.clearLatches [0x10, 0x11, 0x12] x).modSensor x (fun r => { r with
              fresh := true, ths := r.ths.map (fun h => { h with hover := false, since := none }) })).refreshTh x)).ok
            (s.dev.tagFor e) false []))
    ∧ (s.dev.accepts 0x0A06 e → exec (.fanMapRead e) s
        = s.gives ((s.dev.begun 0x0A06 e).ok (s.dev.tagFor e) true
            (((s.dev.begun 0x0A06 e).fan (e.p 1 0)).map.flatMap (fun m => leBytes 2 m))))

/-- Table 17.8: STORE and STORE_INVALIDATE begin while the store is idle and wait otherwise; STORE_QUERY and PARAM_RECALL
answer from the active bank, the recall copying the user data to its place; RECORD_NOTE queues its note; RECORD_EXPORT begins
on entries that exist; RECORD_RELEASE moves the released mark up to the exported end.
Readings of the model that this rests on: log entries 15, 35. -/
def Obligations.KeepingCommandsAct : Prop :=
  ∀ (s : State) (e : Entry),
    (s.dev.accepts 0x0B01 e → exec (.store e) s
      = s.gives (if (s.dev.begun 0x0B01 e).storeBusy then (s.dev.begun 0x0B01 e).queueLong (s.dev.tagFor e)
        else (s.dev.begun 0x0B01 e).beginStore (s.dev.tagFor e)))
    ∧ (s.dev.accepts 0x0B04 e → exec (.storeInvalidate e) s
        = s.gives (if (s.dev.begun 0x0B04 e).storeBusy then (s.dev.begun 0x0B04 e).queueLong (s.dev.tagFor e)
          else (s.dev.begun 0x0B04 e).beginInvalidate (s.dev.tagFor e)))
    ∧ (s.dev.accepts 0x0B02 e → ∃ len crc : Nat,
        let b := s.dev.begun 0x0B02 e
        let k := e.p 1 0
        (∀ j, b.activeBank k = some j → len = b.ld 4 (commitAddr k j + 8) ∧ crc = b.ld 4 (commitAddr k j + 20))
        ∧ (b.activeBank k = none → len = 0 ∧ crc = 0)
        ∧ exec (.storeQuery e) s = s.gives (b.ok (s.dev.tagFor e) true
          (leBytes 1 ((b.activeBank k).getD 0xFF) ++ leBytes 1 (b2n (b.bankValid k 0) + 2 * b2n (b.bankValid k 1))
            ++ leBytes 2 0 ++ leBytes 4 (b.bankSeq k 0) ++ leBytes 4 (b.bankSeq k 1) ++ leBytes 4 len ++ leBytes 4 crc)))
    ∧ (s.dev.accepts 0x0B03 e →
        let b := s.dev.begun 0x0B03 e
        ((b.activeBank 0).bind (b.bankUser 0) = none → exec (.paramRecall e) s
          = s.gives (b.ok (s.dev.tagFor e) true (leBytes 4 0)))
        ∧ (∀ src len dst, (b.activeBank 0).bind (b.bankUser 0) = some (src, len, dst) → len ≠ 0 →
            b.locksRange dst len = false → exec (.paramRecall e) s
              = s.gives ((b.hostWrite dst ((b.bytes src len).take (0x11000000 - dst))).ok (s.dev.tagFor e) false
                  (leBytes 4 len))))
    ∧ (s.dev.accepts 0x0B05 e → s.dev.keep.queue.length < 32 → exec (.recordNote e) s
        = s.gives ((s.dev.begun 0x0B05 e).record 0x0060 (leBytes 16 (e.p 16 0)) (some (s.dev.tagFor e))))
    ∧ (s.dev.accepts 0x0B05 e → 32 ≤ s.dev.keep.queue.length → exec (.recordNote e) s
        = s.gives (((s.dev.begun 0x0B05 e).record 0x0060 (leBytes 16 (e.p 16 0))).complete (s.dev.tagFor e)
            .functionDown false []))
    ∧ (s.dev.accepts 0x0B06 e → (s.dev.begun 0x0B06 e).longBusy [0x0B06] (s.dev.tagFor e) = false →
        (s.dev.begun 0x0B06 e).exportOk (e.p 4 0) (e.p 4 4) = true → exec (.recordExport e) s
          = s.gives (s.dev.begun 0x0B06 e))
    ∧ (s.dev.accepts 0x0B07 e → (s.dev.begun 0x0B07 e).released < e.p 4 0 →
        e.p 4 0 ≤ (s.dev.begun 0x0B07 e).rd Reg.REC_EXPORT_END.ESEQ → exec (.recordRelease e) s
          = s.gives ((((((s.dev.begun 0x0B07 e).wr Reg.REC_RELEASED.ESEQ 0 (e.p 4 0)).record 0x0071
              (leBytes 4 0 ++ leBytes 4 (e.p 4 0))).clearLatch 0x18 0)).ok (s.dev.tagFor e) false []))

/-- Table 18.6: the long image commands begin while no other of them executes, and wait otherwise; IMG_QUERY answers for a
slot and for the running images; SEC_CERT writes the certificates to memory.
Readings of the model that this rests on: log entries 15, 16, 36. -/
def Obligations.ImageCommandsAct : Prop :=
  ∀ (s : State) (e : Entry),
    (∀ p : (Entry → Instr) × Nat,
      p ∈ [(Instr.imgWrite, 0x0C02), (Instr.imgCopy, 0x0C03), (Instr.imgVerify, 0x0C04), (Instr.imgActivate, 0x0C05),
        (Instr.imgConfirm, 0x0C06)] → s.dev.accepts p.2 e → exec (p.1 e) s
      = s.gives (if s.dev.sched.tasks.any (fun t => t.state == .executing && imgOps.contains t.op)
          then (s.dev.begun p.2 e).queueLong (s.dev.tagFor e)
          else ((s.dev.begun p.2 e).beginImg (s.dev.tagFor e)).nextImg))
    ∧ (s.dev.accepts 0x0C01 e → e.p 1 0 < 2 → ∃ svn : Nat → Nat,
        let b := s.dev.begun 0x0C01 e
        let k := e.p 1 0
        (∀ i, svn i = if (b.notAuthentic k i).isSome then 0xFF else b.svn k i)
        ∧ exec (.imgQuery e) s = s.gives (b.ok (s.dev.tagFor e) true
          (leBytes 1 (b.recordState k) ++ leBytes 1 (b.recordTries k) ++ leBytes 1 (b2n (b.latch k).isSome)
            ++ leBytes 1 (b2n (b.keep.slot == some k)) ++ leBytes 4 (b.recordSeq k) ++ leBytes 4 (b.manifest k 0 4 8)
            ++ leBytes 4 (b.manifest k 1 4 8) ++ leBytes 1 (svn 0) ++ leBytes 1 (svn 1))))
    ∧ (s.dev.accepts 0x0C01 e → e.p 1 0 = 2 → ∃ svn : Nat → Nat,
        let b := s.dev.begun 0x0C01 e
        (∀ r, b.keep.slot = some r → ∀ i, svn i = b.svn r i) ∧ (b.keep.slot = none → ∀ i, svn i = 0)
        ∧ exec (.imgQuery e) s = s.gives (b.ok (s.dev.tagFor e) true
          (leBytes 2 (svn 0) ++ leBytes 2 (svn 1) ++ leBytes 1 (b.arbCount 0) ++ leBytes 1 (b.arbCount 1)
            ++ leBytes 1 (b.rd Reg.ARB_CNT.REVOKED) ++ leBytes 1 (b.keep.slot.getD 0xFF))))
    ∧ (s.dev.accepts 0x0C07 e →
        let cert := (Config.deviceCert ++ Config.caCert).take 2048
        exec (.secCert e) s = s.gives (((s.dev.begun 0x0C07 e).engineWrite (e.p 4 0) cert).ok (s.dev.tagFor e) false
          (leBytes 2 cert.length ++ leBytes 2 0 ++ leBytes 8 Config.deviceUid.toNat)))

/-- Table 19.4: the event and fault commands: EVT_QUERY answers a group; EVT_CLEAR clears latches of a group; EVT_ROUTE writes
the routing bytes of a range; SCRUPLE_SET changes a class that is not fixed; FAULT_QUERY answers a class; FAULT_ACK clears the
latches of units whose effect is no longer in force; AXIS_REINIT waits for the next tick boundary, ENGINE_REINIT and
CHECKER_REINIT for their end.
Readings of the model that this rests on: log entries 15, 16, 37. -/
def Obligations.EventAndFaultCommandsAct : Prop :=
  ∀ (s : State) (e : Entry),
    (s.dev.accepts 0x0D01 e → exec (.evtQuery e) s
      = s.gives ((s.dev.begun 0x0D01 e).ok (s.dev.tagFor e) true
          (leBytes 4 (s.dev.rd Reg.EV_LAT.LAT (e.p 1 0)) ++ leBytes 2 (s.dev.rd Reg.EV_SUM.SUM))))
    ∧ (s.dev.accepts 0x0D02 e →
        let v := s.dev.rd Reg.EV_LAT.LAT (e.p 1 0)
        exec (.evtClear e) s = s.gives (((((s.dev.begun 0x0D02 e).wr Reg.EV_LAT.LAT (e.p 1 0)
          (v - (v &&& e.p 4 4))).refreshSum).refreshInts).ok (s.dev.tagFor e) (v &&& e.p 4 4 == 0) []))
    ∧ (s.dev.accepts 0x0D03 e → exec (.evtRoute e) s
        = s.gives (((List.range (e.p 2 2)).foldl (fun d k => d.setRoute (e.p 2 0 + k) (e.p 1 4))
            (s.dev.begun 0x0D03 e)).refreshInts.ok (s.dev.tagFor e) false []))
    ∧ (s.dev.accepts 0x0D04 e →
        let d := (s.dev.begun 0x0D04 e).setScruple (e.p 1 0) (e.p 1 1) (e.p 4 4)
        exec (.scrupleSet e) s = s.gives (d.ok (s.dev.tagFor e) (scrFixed (e.p 1 0))
          (leBytes 1 (d.scrN (e.p 1 0)) ++ leBytes 3 0 ++ leBytes 4 (d.scrW (e.p 1 0)))))
    ∧ (s.dev.accepts 0x0D08 e →
        let b := s.dev.begun 0x0D08 e
        let c := e.p 1 0
        exec (.faultQuery e) s = s.gives (b.ok (s.dev.tagFor e) true
          (leBytes 9 (b.unitMask c (fun x => x.latched)) ++ leBytes 1 (b.scrN c) ++ leBytes 4 (b.scrW c)
            ++ leBytes 1 (b.events.units.filter (fun x => x.cls == c && decide (0 < b.scrCount x))).length)))
    ∧ (s.dev.accepts 0x0D09 e →
        let b := s.dev.begun 0x0D09 e
        let m := b.unitMask (e.p 1 0) (fun x => x.latched && !x.inForce) &&& e.p 9 4
        exec (.faultAck e) s = s.gives (((bitsBelow m 72).foldl (fun d u => d.clearLatch (e.p 1 0) u) b).ok
          (s.dev.tagFor e) (m == 0) (leBytes 9 m)))
    ∧ (s.dev.accepts 0x0D05 e → (s.dev.begun 0x0D05 e).motionRuns = true →
        exec (.axisReinit e) s = s.gives (s.dev.begun 0x0D05 e))
    ∧ (s.dev.accepts 0x0D05 e → (s.dev.begun 0x0D05 e).motionRuns = false →
        exec (.axisReinit e) s = s.gives ((s.dev.begun 0x0D05 e).refuse (s.dev.tagFor e) .functionDown))
    ∧ (s.dev.accepts 0x0D06 e → exec (.engineReinit e) s
        = s.gives (if (s.dev.begun 0x0D06 e).longBusy [0x0D06] (s.dev.tagFor e)
            then (s.dev.begun 0x0D06 e).queueLong (s.dev.tagFor e) else s.dev.begun 0x0D06 e))
    ∧ (s.dev.accepts 0x0D07 e → exec (.checkerReinit e) s
        = s.gives (if (s.dev.begun 0x0D07 e).longBusy [0x0D07] (s.dev.tagFor e)
            then (s.dev.begun 0x0D07 e).queueLong (s.dev.tagFor e) else s.dev.begun 0x0D07 e))

/-! ### The register rows -/

/-- R6, Table 0.2, R310, R312, R318: how one field takes a write. A field outside the mask keeps its value; RW takes the
masked bits in its value in force, SH in its shadow alone; a 1 clears a W1C bit; RO fields and the RC copies ignore the
write; a WD field takes it while the write is not refused and else keeps its value. No other field of any register changes,
neither its value in force nor what the bus reads of it.
R310, R312, R314: a write is refused in its guarded fields only if it would change one of them while the register's block
is enabled; every other field of the register takes it all the same, and only a refusal is flagged.
Readings of the model that this rests on: log entry 17. -/
def Obligations.FieldsTakeWritesByAccessCode : Prop :=
  (∀ (d : Device) (f : Field) (i data mask : Nat) (refused : Bool), d.fixedEnable (f, i) = false →
      let e := d.takeWrite data mask refused (f, i)
      let m := bitsOf mask f.lsb f.width
      (m = 0 → e = d)
      ∧ (f.acc = .rw → m ≠ 0 → e.rd f i = f.merged (d.rd f i) data mask % 2 ^ f.width)
      ∧ (f.acc = .wd → m ≠ 0 → refused = false → e.rd f i = f.merged (d.rd f i) data mask % 2 ^ f.width)
      ∧ (f.acc = .wd → refused = true → e = d)
      ∧ (f.acc = .sh → m ≠ 0 → e.rd f i = d.rd f i ∧ e.rdSh f i = f.merged (d.rdSh f i) data mask % 2 ^ f.width)
      ∧ (f.acc = .w1c → m ≠ 0 → e.rd f i = (d.rd f i - (d.rd f i &&& (bitsOf data f.lsb f.width &&& m))) % 2 ^ f.width)
      ∧ ((f.acc = .ro ∨ f.acc = .rcBG ∨ f.acc = .rcD ∨ f.acc = .rcS) → e = d)
      ∧ (∀ g ∈ allFields, ∀ j < g.count, g.key j ≠ f.key i → e.rd g j = d.rd g j ∧ e.busField g j = d.busField g j))
  ∧ (∀ (d : Device) (a data mask : Nat),
      let changes := (fieldsAt a).any (fun p => d.guarded p && p.1.merged (d.rd p.1 p.2) data mask != d.rd p.1 p.2)
      ((changes = false ∨ d.guard a = none ∨ (∃ g, d.guard a = some g ∧ g.on = false)) →
        d.writeFields a data mask = (fieldsAt a).foldl (Device.takeWrite data mask false) d)
      ∧ (∀ g, d.guard a = some g → g.on = true → changes = true →
          d.writeFields a data mask = ((fieldsAt a).foldl (Device.takeWrite data mask true) d).flagRefusal d g))

/-- R6, R300, R326, R327, R629, Table 10.3: a word write to a register without an effect of its own, and a write of the
alias of one of its bits, are taken by the register's fields where they change no enable; so is one to WAKE_EN (bit 1 of
which reads 0), to GPIO_OUT (the balls follow), to USB_RWAKE_EN (PEND shows the enabled reasons that are latched), to an
event latch (the sums and interrupts follow), to a routing byte, to a scruple, and to a staging area that no IMG_WRITE
holds. The SRAM window takes its word; the boot store and the unassigned part of the alias region ignore it.
Readings of the model that this rests on: log entries 17, 19, 21. -/
def Obligations.WritesReachTheirRegister : Prop :=
  ∀ (s : State) (v : Word), s.dev.busOff = false →
    let d := s.dev
    (∀ (a : BitVec 32) (i : Instr) (t data mask : Nat), a.toNat % 4 = 0 →
      ((a.toNat < 0x10000 ∧ i = .registerWrite a v ∧ t = a.toNat ∧ data = v.toNat ∧ mask = 0xFFFFFFFF)
        ∨ (0x100000 ≤ a.toNat ∧ a.toNat < 0x300000 ∧ (i = .bitAliasWrite a v ∨ i = .registerWrite a v)
            ∧ t = (a.toNat - 0x100000) / 128 * 4 ∧ data = v.toNat % 2 * 2 ^ ((a.toNat - 0x100000) / 4 % 32)
            ∧ mask = 2 ^ ((a.toNat - 0x100000) / 4 % 32))) → d.usbHidden t = false →
      let w := d.writeFields t data mask
      (ownEffect t = false → (∀ f ∈ enableFields, ∀ j < f.count, w.on f j = d.on f j) → exec i s = s.gives w)
      ∧ (t = 0x408 → exec i s = s.gives (w.wr Reg.WAKE_EN.EN 0 (w.rd Reg.WAKE_EN.EN &&& 0xFD)))
      ∧ ((t = 0x608 ∨ t = 0x60C) → exec i s = s.gives w.driveGpio)
      ∧ (t = 0xD118 → exec i s = s.gives (w.wr Reg.USB_RWAKE.PEND 0
          (w.rd Reg.USB_RWAKE_EN.EN &&& w.rd Reg.WAKE_REASON.REASON)))
      ∧ ((0x1200 ≤ t ∧ t < 0x1240 ∨ 0x1244 ≤ t ∧ t < 0x1254) → exec i s = s.gives w.refreshSum.refreshInts)
      ∧ (0x1000 ≤ t → t < 0x1200 → exec i s = s.gives (d.writeRoute ((t - 0x1000) / 4) data mask))
      ∧ (0x1300 ≤ t → t < 0x1380 → exec i s = s.gives (d.setScruple ((t - 0x1300) / 4)
          (Reg.SCR_CFG.N.merged (d.rd Reg.SCR_CFG.N ((t - 0x1300) / 4)) data mask)
          (Reg.SCR_CFG.W.merged (d.rd Reg.SCR_CFG.W ((t - 0x1300) / 4)) data mask)))
      ∧ (0xC400 ≤ t → t < 0xCC00 → exec i s
          = s.gives (if d.stageLocked ((t - 0xC400) / 0x400) then d.imgEvt 7 else w)))
    ∧ (∀ a : BitVec 32, a.toNat % 4 = 0 → d.usbHidden a.toNat = true → exec (.registerWrite a v) s = .next s)
    ∧ (∀ a : BitVec 32, a.toNat % 4 = 0 → inSram a.toNat = true →
        exec (.registerWrite a v) s = s.gives (d.hostWrite a.toNat (leBytes 4 v.toNat)))
    ∧ (∀ a : BitVec 32, a.toNat % 4 = 0 → inMram a.toNat = true → exec (.registerWrite a v) s = .next s)
    ∧ (∀ a : BitVec 32, a.toNat % 4 = 0 → 0x300000 ≤ a.toNat → a.toNat < 0x900000 →
        exec (.registerWrite a v) s = .next s ∧ exec (.bitAliasWrite a v) s = .next s)

/-- R300: an address in the window that no chapter assigns reads 0, and writes to it are ignored. Which addresses the model
assigns is its register map, gathered from the tables of the chapters.
Readings of the model that this rests on: log entries 8, 17. -/
def Obligations.UnassignedAddressesReadZero : Prop :=
  ∀ (s : State) (a : BitVec 32), a.toNat < 0x10000 → a.toNat % 4 = 0 → fieldsAt a.toNat = [] →
    ((∀ v, exec (.registerWrite a v) s = .next s)
    ∧ (∀ (q : Requester) (t : State), s.dev.busOff = false → (∀ l ∈ s.dev.latches, l.addr ≠ a.toNat) →
        exec (.latchedLowWordRead q a) s = .next t → (q, 0) ∈ t.dev.busRead ∧ t.dev.regs = s.dev.regs))

/-- R309: reading a low word latches the high words of the same value for that requester alone; they return what was
latched, whatever becomes of the register, until that requester reads the low word again. Every read goes on, and what it
returned stands in the state.
Readings of the model that this rests on: log entry 8. -/
def Obligations.LowWordReadsLatchTheHighWord : Prop :=
  ∀ (s : State) (q : Requester), s.dev.busOff = false →
    (∀ a : BitVec 32, a.toNat % 4 = 0 → mapped a.toNat = true →
      ∃ t, exec (.latchedLowWordRead q a) s = .next t ∧ (q, (s.dev.readAt q a.toNat).1) ∈ t.dev.busRead
        ∧ t.dev.regs = s.dev.regs ∧ t.dev.mem = s.dev.mem ∧ t.fuses = s.fuses ∧ t.pending = s.pending)
    ∧ (∀ (lo hi : BitVec 32) (t u v : State) (d : Device), lo.toNat < 0x10000 → hi.toNat < 0x10000 → lo.toNat % 4 = 0 →
        hi.toNat ∈ latchedBy lo.toNat → exec (.latchedLowWordRead q lo) s = .next t →
        d.latches = t.dev.latches → d.busOff = false →
        u = { s with dev := d } → exec (.latchedLowWordRead q hi) u = .next v →
        (q, s.dev.busWord lo.toNat) ∈ t.dev.busRead ∧ (q, s.dev.busWord hi.toNat) ∈ v.dev.busRead)
    ∧ (∀ (lo : BitVec 32) (t : State) (p : Requester) (a : Nat), lo.toNat < 0x10000 → lo.toNat % 4 = 0 → p ≠ q →
        exec (.latchedLowWordRead q lo) s = .next t → t.dev.peek p a = s.dev.peek p a)

/-- Table 10.1, R315, R209: a row for a register is a word write of that register, whichever word it carries.
Readings of the model that this rests on: log entry 17. -/
def Obligations.RegisterRowsAreWordWrites : Prop :=
  ∀ (s : State) (v : Word),
    (∀ (a : Nat) (i : Instr),
      ((a = 0x3000 ∧ i = .doorbell v) ∨ (a = 0x100 ∧ i = .update v) ∨ (a = 0x3C ∧ i = .arbClr v)
        ∨ (a = 0xD000 ∧ i = .cycReinit v) ∨ (a = 0xD000 ∧ i = .cycEnable v) ∨ (a = 0xD100 ∧ i = .usbReinit v)
        ∨ (a = 0xD100 ∧ i = .softDetachWrite v) ∨ (a = 0x9000 ∧ i = .scanEnable v)
        ∨ (a = 0x9000 ∧ i = .refbufEnable v) ∨ (a = 0xB100 ∧ i = .neEnable v) ∨ (a = 0xB080 ∧ i = .bmEnable v)
        ∨ (a = 0xB200 ∧ i = .audEnable v) ∨ (a = 0xB200 ∧ i = .kwsEnable v)
        ∨ (a = 0xB200 ∧ i = .clipEnChange v) ∨ (a = 0xB400 ∧ i = .fusEnable v)
        ∨ (a = 0x1400 ∧ i = .checkerEnable v) ∨ (a = 0x404 ∧ i = .wakeReasonClear v)
        ∨ (a = 0x610 ∧ i = .gpioOeWrite false v) ∨ (a = 0x614 ∧ i = .gpioOeWrite true v)) →
      exec i s = exec (.registerWrite (BitVec.ofNat 32 a) v) s)
    ∧ (∀ r : Fin 256, exec (.ringEnable r v) s = exec (.registerWrite (BitVec.ofNat 32 (0x2004 + 0x10 * r)) v) s)
    ∧ (∀ t : Fin 16, exec (.tlCtrlEnWrite t v) s = exec (.registerWrite (BitVec.ofNat 32 (0x8000 + 0x100 * t)) v) s)
    ∧ (∀ m : Fin 16, exec (.sdiEnable m v) s = exec (.registerWrite (BitVec.ofNat 32 (0x200 + 4 * m)) v) s)
    ∧ (∀ k : Fin 8, exec (.usbStreamEnable k v) s = exec (.registerWrite (BitVec.ofNat 32 (0xD120 + 4 * k)) v) s
        ∧ exec (.advEnable k v) s = exec (.registerWrite (BitVec.ofNat 32 (0xB500 + 0x20 * k)) v) s
        ∧ exec (.qeEnable k v) s = exec (.registerWrite (BitVec.ofNat 32 (0x380 + 0x10 * k)) v) s)
    ∧ (∀ f : Fin 6, exec (.fanEnable f v) s = exec (.registerWrite (BitVec.ofNat 32 (0xA500 + 0x20 * f)) v) s)
    ∧ (∀ p : Fin 4, exec (.spmEnable p v) s = exec (.registerWrite (BitVec.ofNat 32 (0x300 + 0x20 * p)) v) s)
    ∧ (∀ c : Fin 2, exec (.camEnable c v) s = exec (.registerWrite (BitVec.ofNat 32 (0xB000 + 0x40 * c)) v) s
        ∧ exec (.cdEnable c v) s = exec (.registerWrite (BitVec.ofNat 32 (0xB0A0 + 0x10 * c)) v) s
        ∧ exec (.bmHintWrite c v) s = exec (.registerWrite (BitVec.ofNat 32 (0xB084 + 4 * c)) v) s)

/-- R208: a doorbell forms the new index from the index in force and its own 17 bits. It is rejected, with DB_REJECT set and
the index left, while the ring is disabled, where the side is not the host's, and where the count would exceed the size or the
consumer would pass the producer; otherwise the index advances, and the same doorbell repeated changes nothing. Before MB_READY
it has no effect. -/
def Obligations.DoorbellAdvancesAnIndex : Prop :=
  ∀ (s : State) (v : Word), s.dev.busOff = false →
    let d := s.dev
    let r := v.toNat / 2 ^ 24
    let consumer := v.getLsbD 23
    let f := if consumer then Reg.RING_CI.CI else Reg.RING_PI.PI
    let step := (v.toNat % 2 ^ 17 + 2 ^ 17 - d.rd f r % 2 ^ 17) % 2 ^ 17
    let bad := d.ringOn r = false ∨ (consumer = false ∧ d.rd Reg.RING_CFG.ROLE r ≠ 0)
      ∨ (consumer = true ∧ d.rd Reg.RING_CFG.ROLE r ≠ 1) ∨ (consumer = false ∧ d.ringSize r < d.ringCount r + step)
      ∨ (consumer = true ∧ d.ringCount r < step)
    (d.on Reg.MB_STAT.MB_READY = false → exec (.doorbell v) s = .next s)
    ∧ (d.on Reg.MB_STAT.MB_READY = true → bad → ∃ t, exec (.doorbell v) s = .next t ∧ t = { s with dev := d.mbEvt 0 }
        ∧ bitOf (t.dev.rd Reg.MB_EVT.CAUSE) 0 = true
        ∧ (bitOf (d.route 48) 6 = false → ∀ q, t.dev.rd Reg.RING_PI.PI q = d.rd Reg.RING_PI.PI q
            ∧ t.dev.rd Reg.RING_CI.CI q = d.rd Reg.RING_CI.CI q))
    ∧ (d.on Reg.MB_STAT.MB_READY = true → ¬ bad → exec (.doorbell v) s = s.gives (d.wr f r (d.rd f r + step))
        ∧ (d.wr f r (d.rd f r + step)).rd f r % 2 ^ 17 = v.toNat % 2 ^ 17
        ∧ (∀ t, exec (.doorbell v) s = .next t → d.rd f r < 2 ^ 32 → exec (.doorbell v) t = .next t))

/-- R19, R209, R315, R353, R406, R591: writing UPDATE raises the strobes of its bits; ARB_CLR clears the arbiter's counts; a
ring's enable sets both indices to 0 or is refused with CFG_REJECT, and the rings of the USB pair stay disabled on a device
without the port; a hint takes the perception time; clearing a wake reason
clears its DONE bit, and PEND shows the enabled reasons that are latched; a GPIO that is mapped keeps its OE bit 0 and sets
GPIO_CONFLICT. While no requester reaches the bus, none of the register rows has an effect.
Readings of the model that this rests on: log entries 19, 21, 45. -/
def Obligations.SystemRegisterRowsAct : Prop :=
  ∀ (s : State) (v : Word),
    (s.dev.busOff = true →
      ∀ i, (i = .doorbell v ∨ i = .update v ∨ i = .arbClr v ∨ (∃ r, i = .ringEnable r v) ∨ (∃ t, i = .tlCtrlEnWrite t v)
        ∨ i = .cycReinit v ∨ i = .cycEnable v ∨ i = .usbReinit v ∨ i = .softDetachWrite v ∨ (∃ k, i = .usbStreamEnable k v)
        ∨ i = .scanEnable v ∨ i = .refbufEnable v ∨ (∃ c, i = .camEnable c v) ∨ i = .neEnable v ∨ i = .bmEnable v
        ∨ (∃ k, i = .cdEnable k v) ∨ i = .audEnable v ∨ i = .kwsEnable v ∨ i = .clipEnChange v ∨ i = .fusEnable v
        ∨ (∃ c, i = .advEnable c v) ∨ (∃ f, i = .fanEnable f v) ∨ i = .checkerEnable v ∨ (∃ m, i = .sdiEnable m v)
        ∨ (∃ k, i = .qeEnable k v) ∨ (∃ p, i = .spmEnable p v) ∨ (∃ c, i = .bmHintWrite c v) ∨ i = .wakeReasonClear v
        ∨ (∃ h, i = .gpioOeWrite h v)) → exec i s = .next s)
    ∧ (s.dev.busOff = false →
      let d := s.dev
      (exec (.update v) s = s.gives ((bitsBelow v.toNat 8).foldl (fun e g => e.raiseStrobe g) d))
      ∧ (exec (.arbClr v) s = s.gives (if v.getLsbD 0 then
          (((((d.wr Reg.ARB_WAIT.COUNT 0 0).wr Reg.ARB_WAIT.COUNT 1 0).wr Reg.ARB_WAIT.COUNT 2 0).wr Reg.ARB_WAIT.COUNT 3 0).wr
            Reg.ARB_WAIT.COUNT 4 0).wr Reg.ARB_AGED.COUNT 0 0 else d))
      ∧ (∀ r : Fin 256,
          let w := d.writeFields (0x2004 + 0x10 * r) v.toNat 0xFFFFFFFF
          ((d.ringOn r = true ∨ w.ringOn r = false) → exec (.ringEnable r v) s = s.gives w)
          ∧ (d.ringOn r = false → w.ringOn r = true → (r = 2 ∨ r = 3) ∧ w.usbPresent = false →
              exec (.ringEnable r v) s = s.gives (w.wr Reg.RING_CFG.EN r 0))
          ∧ (d.ringOn r = false → w.ringOn r = true → ¬ ((r = 2 ∨ r = 3) ∧ w.usbPresent = false) → w.ringFit r = true →
              exec (.ringEnable r v) s = s.gives ((w.wr Reg.RING_PI.PI r 0).wr Reg.RING_CI.CI r 0))
          ∧ (d.ringOn r = false → w.ringOn r = true → ¬ ((r = 2 ∨ r = 3) ∧ w.usbPresent = false) → w.ringFit r = false →
              exec (.ringEnable r v) s
                = s.gives (((w.wr Reg.RING_CFG.EN r 0).wr Reg.RING_CFG.CFG_REJECT r 1).mbEvt 5)))
      ∧ (∀ c : Fin 2, exec (.bmHintWrite c v) s
          = s.gives ((d.writeFields (0xB084 + 4 * c) v.toNat 0xFFFFFFFF).wr Reg.BM_HINT_T.PTIME c
              (d.writeFields (0xB084 + 4 * c) v.toNat 0xFFFFFFFF).ptime))
      ∧ (let w := d.writeFields 0x404 v.toNat 0xFFFFFFFF
          let gone := d.rd Reg.WAKE_REASON.REASON - w.rd Reg.WAKE_REASON.REASON
          exec (.wakeReasonClear v) s = s.gives ((w.wr Reg.USB_RWAKE.PEND 0
            (w.rd Reg.USB_RWAKE_EN.EN &&& w.rd Reg.WAKE_REASON.REASON)).wr Reg.USB_RWAKE.DONE 0
              (w.rd Reg.USB_RWAKE.DONE - (w.rd Reg.USB_RWAKE.DONE &&& gone))))
      ∧ (∀ high : Bool,
          let f := if high then Reg.GPIO_OE_H.OE else Reg.GPIO_OE_L.OE
          let mappedBall (k : Nat) : Bool := (List.range 64).any (fun n =>
            d.stepMaps n ((if high then 32 else 0) + k) || d.homeMaps n ((if high then 32 else 0) + k))
          let clash := (bitsBelow (v.toNat % 2 ^ f.width) f.width).filter (fun k => !bitOf (d.rd f) k && mappedBall k)
          d.rd f < 2 ^ f.width →
          let e := (d.wr f 0 (clash.foldl clrBitOf (v.toNat % 2 ^ f.width))).driveGpio
          exec (.gpioOeWrite high v) s = s.gives (if clash = [] then e else e.wr Reg.PAD_STAT.GPIO_CONFLICT 0 1))
      ∧ (exec (.checkerEnable v) s = s.gives (d.writeFields 0x1400 v.toNat 0xFFFFFFFF))
      ∧ (∀ m : Fin 16, exec (.sdiEnable m v) s = s.gives (d.writeFields (0x200 + 4 * m) v.toNat 0xFFFFFFFF))
      ∧ (∀ k : Fin 8, exec (.qeEnable k v) s = s.gives (d.writeFields (0x380 + 0x10 * k) v.toNat 0xFFFFFFFF))
      ∧ (∀ p : Fin 4,
          let w := d.writeFields (0x300 + 0x20 * p) v.toNat 0xFFFFFFFF
          ((d.on Reg.SPM_CTRL.EN p = true ∨ w.on Reg.SPM_CTRL.EN p = false
              ∨ w.portOverrun p (w.addrAxes p).length = false) → exec (.spmEnable p v) s = s.gives w)
          ∧ (d.on Reg.SPM_CTRL.EN p = false → w.on Reg.SPM_CTRL.EN p = true →
              w.portOverrun p (w.addrAxes p).length = true →
              exec (.spmEnable p v) s = s.gives ((w.addrAxes p).foldl (fun e n => e.folEvt n 3) w))))

/-- R203, R402, R408, R426, R427, R468, R531: the enables of tile links, cameras, the block matcher, corner detectors, the
neural engine and fusion. A write that leaves the enable as it was only writes its fields; one that would set it in RESTRICTED
mode leaves it 0; any other change starts or stops the block.
Readings of the model that this rests on: log entry 17. -/
def Obligations.BlockEnablesAct : Prop :=
  ∀ (s : State) (v : Word) (t : Fin 16) (c : Fin 2), s.dev.busOff = false →
    ∀ (i : Instr) (f : Field) (k : Nat) (act : Bool → Device → Device),
      ((i = .tlCtrlEnWrite t v ∧ f = Reg.TL_CTRL.EN ∧ k = t ∧ act = fun _ d => d.linkWritten t)
        ∨ (i = .camEnable c v ∧ f = Reg.CAM_CTRL.EN ∧ k = c ∧ act = fun on d => d.camWritten c on)
        ∨ (i = .bmEnable v ∧ f = Reg.BM_CTRL.EN ∧ k = 0 ∧ act = fun on d => d.bmWritten on)
        ∨ (i = .cdEnable c v ∧ f = Reg.CD_CFG.EN ∧ k = c ∧ act = fun on d => d.cdWritten c on)
        ∨ (i = .neEnable v ∧ f = Reg.NE_CTRL.EN ∧ k = 0 ∧ act = fun on d => d.neWritten on)
        ∨ (i = .fusEnable v ∧ f = Reg.FUS_CTRL.EN ∧ k = 0 ∧ act = fun on d => d.fusWritten on)) →
      let w := s.dev.writeFields (f.addr k) v.toNat 0xFFFFFFFF
      (w.on f k = s.dev.on f k → exec i s = s.gives w)
      ∧ (s.dev.on f k = false → w.on f k = true → w.on Reg.IMG_STAT.RESTRICTED = true → exec i s = s.gives (w.wr f k 0))
      ∧ (s.dev.on f k = false → w.on f k = true → w.on Reg.IMG_STAT.RESTRICTED = false → exec i s = s.gives (act true w))
      ∧ (s.dev.on f k = true → w.on f k = false → exec i s = s.gives (act false w))

/-- R268, R270, R274, R286, R297, R368, R369, R433, R445, R450, R466, R488: the enables of the cyclic port, the USB port and
its streams, the scan and its reference, the audio front end, the advisory cars and the fans.
Readings of the model that this rests on: log entries 17, 26, 28. -/
def Obligations.PortAndSensorEnablesAct : Prop :=
  ∀ (s : State) (v : Word), s.dev.busOff = false →
    let d := s.dev
    (let w := d.writeFields 0xD000 v.toNat 0xFFFFFFFF
      ∀ i, (i = .cycReinit v ∨ i = .cycEnable v) →
        (v.getLsbD 1 = false → w.on Reg.CYC_CTRL.EN = d.on Reg.CYC_CTRL.EN → exec i s = s.gives w)
        ∧ (v.getLsbD 1 = false → d.on Reg.CYC_CTRL.EN = true → w.on Reg.CYC_CTRL.EN = false → exec i s
            = s.gives (w.modCyclic (fun c => { c with frozen := false })).stepFreed.refreshSrdy)
        ∧ (v.getLsbD 1 = false → d.on Reg.CYC_CTRL.EN = false → w.on Reg.CYC_CTRL.EN = true →
            4 + 2 * w.liveAxes.length ≤ w.cycWords → exec i s = s.gives (w.cycRestart false))
        ∧ (v.getLsbD 1 = false → d.on Reg.CYC_CTRL.EN = false → w.on Reg.CYC_CTRL.EN = true →
            w.cycWords < 4 + 2 * w.liveAxes.length →
            exec i s = s.gives ((w.wr Reg.CYC_CTRL.EN 0 0).cause Reg.CYC_CTRL.CFG_REJECT 0 0 true 33))
        ∧ (v.getLsbD 1 = true →
            let x := if d.on Reg.CYC_CTRL.EN = false ∧ w.on Reg.CYC_CTRL.EN = true ∧ w.cycWords < 4 + 2 * w.liveAxes.length
              then (w.wr Reg.CYC_CTRL.EN 0 0).cause Reg.CYC_CTRL.CFG_REJECT 0 0 true 33 else w
            exec i s = s.gives (x.cycRestart true)))
    ∧ (let w := d.writeFields 0xD100 v.toNat 0xFFFFFFFF
        ∀ i, (i = .usbReinit v ∨ i = .softDetachWrite v) → d.usbPresent = true →
          exec i s = s.gives (if v.getLsbD 2 then w.usbReinit else w.usbPull))
    ∧ (∀ i, (i = .usbReinit v ∨ i = .softDetachWrite v ∨ ∃ k, i = .usbStreamEnable k v) → d.usbPresent = false →
        exec i s = .next s)
    ∧ (∀ k : Fin 8, d.usbPresent = true →
        let w := d.writeFields (0xD120 + 4 * k) v.toNat 0xFFFFFFFF
        let r := w.rd Reg.USB_STRM.RING k
        let free := w.rd Reg.RING_CFG.ROLE r = 1
          ∧ ∀ j < 8, j ≠ k.val → w.on Reg.USB_STRM.SEN j = true → w.rd Reg.USB_STRM.RING j ≠ r
        ((d.on Reg.USB_STRM.SEN k = true ∨ w.on Reg.USB_STRM.SEN k = false ∨ free) →
          exec (.usbStreamEnable k v) s = s.gives w)
        ∧ (d.on Reg.USB_STRM.SEN k = false → w.on Reg.USB_STRM.SEN k = true → ¬ free →
          exec (.usbStreamEnable k v) s = s.gives ((w.wr Reg.USB_STRM.SEN k 0).usbEvt 9)))
    ∧ (let w := d.writeFields 0x9000 v.toNat 0xFFFFFFFF
        let r := if w.on Reg.ADC_CTRL.REFBUF_EN = d.on Reg.ADC_CTRL.REFBUF_EN then w
          else w.refbufWritten (w.on Reg.ADC_CTRL.REFBUF_EN)
        ∀ i, (i = .scanEnable v ∨ i = .refbufEnable v) →
          exec i s = s.gives (if r.on Reg.ADC_CTRL.SCAN_EN = d.on Reg.ADC_CTRL.SCAN_EN then r
            else r.scanWritten (r.on Reg.ADC_CTRL.SCAN_EN)))
    ∧ (let w := d.writeFields 0xB200 v.toNat 0xFFFFFFFF
        let a := if d.on Reg.AUD_CTRL.AUD_EN = false ∧ w.on Reg.AUD_CTRL.AUD_EN = true
            ∧ w.on Reg.IMG_STAT.RESTRICTED = true then w.wr Reg.AUD_CTRL.AUD_EN 0 0 else w
        let b := if a.on Reg.AUD_CTRL.AUD_EN = d.on Reg.AUD_CTRL.AUD_EN then a else a.audWritten (a.on Reg.AUD_CTRL.AUD_EN)
        let k := if b.on Reg.AUD_CTRL.KWS_EN = d.on Reg.AUD_CTRL.KWS_EN then b else b.kwsWritten (b.on Reg.AUD_CTRL.KWS_EN)
        ∀ i, (i = .audEnable v ∨ i = .kwsEnable v ∨ i = .clipEnChange v) →
          exec i s = s.gives (if k.on Reg.AUD_CTRL.CLIP_EN = d.on Reg.AUD_CTRL.CLIP_EN then k
            else k.clipWritten (k.on Reg.AUD_CTRL.CLIP_EN)))
    ∧ (∀ c : Fin 8,
        let w := d.writeFields (0xB500 + 0x20 * c) v.toNat 0xFFFFFFFF
        exec (.advEnable c v) s = s.gives (if w.on Reg.ADV_CFG.EN c = d.on Reg.ADV_CFG.EN c then w
          else w.advWritten c (w.on Reg.ADV_CFG.EN c)))
    ∧ (∀ f : Fin 6,
        let w := d.writeFields (0xA500 + 0x20 * f) v.toNat 0xFFFFFFFF
        exec (.fanEnable f v) s = s.gives (if w.on Reg.FAN_CTRL.EN f = d.on Reg.FAN_CTRL.EN f then w
          else w.fanEnabled f (w.on Reg.FAN_CTRL.EN f)))

/-! ### The scheduler's own rows -/

/-- R211, R219, R222, R225, R226, R232: a dispatch pass counts its time, ends the table copies of earlier passes, applies the
cancels, samples the task flags, marks what
has become ready, expires waits, writes held completions, takes entries, and starts first the tasks that were waiting and then
the new ones; after DEVICE_RESET it resets. A wait that has run out completes EXPIRED; a held completion is written as soon as
its ring has room.
Readings of the model that this rests on: log entries 5, 15. -/
def Obligations.SchedulerRowsAct : Prop :=
  ∀ s : State,
    let d := s.dev
    (d.passes = false → exec .dispatchPass s = .next s)
    ∧ (d.passes = true → d.sched.resetDue = true → exec .dispatchPass s
        = s.gives ((d.modSched (fun k => { k with clock := k.clock + d.passMicros })).resetBy 12))
    ∧ (d.passes = true → d.sched.resetDue = false →
        let a := (((d.modSched (fun k => { k with clock := k.clock + d.passMicros })).passBegins.finishTables).passCancels.passFlags).passReady
        let old := (a.sched.tasks.filter (fun t => a.ready t)).map (·.tag)
        exec .dispatchPass s = s.gives ((old ++ (a.passExpired.passHeld.passTake).2).foldl (fun e tag => e.startTask tag)
          (a.passExpired.passHeld.passTake).1))
    ∧ (∀ (tag : Fin 128),
        (∀ t, d.passes = true → d.task? tag = some t → t.state = .waiting → t.met = false → t.entry.waitTmo ≠ 0 →
          t.taken + 1000 * t.entry.waitTmo.toNat ≤ d.sched.clock →
          exec (.waitExpired tag) s = s.gives ((d.complete tag .expired true []).mbEvt 4))
        ∧ ((d.passes = false ∨ ∀ t, d.task? tag = some t → t.state ≠ .waiting ∨ t.met = true ∨ t.entry.waitTmo = 0
            ∨ d.sched.clock < t.taken + 1000 * t.entry.waitTmo.toNat) → exec (.waitExpired tag) s = .next s))
    ∧ (∀ (q : Fin 8),
        ((d.passes = false ∨ (∀ h ∈ d.sched.held, h.pair ≠ q.val) ∨ d.ringRoom (2 * q + 1) 1 = false) →
          exec (.heldCompletionWrite q) s = .next s)
        ∧ (∀ (front back : List HeldCpl) (h : HeldCpl), d.passes = true → d.sched.held = front ++ h :: back →
            (∀ x ∈ front, x.pair ≠ q.val) → h.pair = q.val → d.ringRoom (2 * q + 1) 1 = true →
            exec (.heldCompletionWrite q) s = s.gives (((d.modSched (fun k => { k with held := d.sched.held.erase h })).writeCpl
              h true).writeHeld q (d.sched.held.length - 1))))

/-- R226, R431, R530, R534, R569, R572: the end of a long command completes it, does what the command does at its end, and
begins the next waiting one of its group; nothing happens for a tag whose task is not executing. Only the end of IMG_CONFIRM
changes the fuses.
Readings of the model that this rests on: log entries 10, 16. -/
def Obligations.LongCommandsEnd : Prop :=
  ∀ (s : State) (tag : Fin 128) (o : LongOutcome),
    let d := s.dev
    ((d.task? tag = none ∨ ∃ t, d.task? tag = some t ∧ t.state ≠ .executing) → exec (.longCommandDone tag o) s = .next s)
    ∧ (∀ t, d.task? tag = some t → t.state = .executing →
      (t.op = 0x0701 → exec (.longCommandDone tag o) s
        = s.gives ((d.neLoadDone t.tag o).nextLong [0x0701, 0x0707] beginNeural))
      ∧ (t.op = 0x0705 → exec (.longCommandDone tag o) s
        = s.gives ((d.ok t.tag false []).nextLong [0x0705] beginCamReinit))
      ∧ (t.op = 0x0706 → exec (.longCommandDone tag o) s
        = s.gives ((d.bmReinitDone t.tag o).nextLong [0x0706] beginBmReinit))
      ∧ (t.op = 0x0707 → exec (.longCommandDone tag o) s
        = s.gives ((d.neReinitDone t.tag o).nextLong [0x0701, 0x0707] beginNeural))
      ∧ (t.op = 0x0B06 → exec (.longCommandDone tag o) s
        = s.gives ((d.recordExportDone t.tag).nextLong [0x0B06] beginRecordExport))
      ∧ (t.op = 0x0C04 → exec (.longCommandDone tag o) s = s.gives (d.imgVerifyDone t.tag))
      ∧ (t.op = 0x0C05 → exec (.longCommandDone tag o) s = s.gives (d.imgActivateDone t.tag))
      ∧ (t.op = 0x0C06 → exec (.longCommandDone tag o) s
        = .next { s with dev := d.imgConfirmDone t.tag s.fuses (d.confirmFuses s.fuses), fuses := d.confirmFuses s.fuses })
      ∧ (t.op = 0x0D06 → exec (.longCommandDone tag o) s
        = s.gives ((d.engineReinitDone t.tag o).nextLong [0x0D06] (fun _ e => e)))
      ∧ (t.op = 0x0D07 → exec (.longCommandDone tag o) s
        = s.gives ((d.checkerReinitDone t.tag o).nextLong [0x0D07] (fun _ e => e))))

/-! ### Ticks, strobes and the moves of an axis -/

/-- R23, R49, R75, R226, R315 to R323, R561: while the motion blocks run, a tick boundary closes the tick of every axis,
judges the checker, ends reinitialisations, plans the next tick and publishes the snapshot; a ring head is taken; the
staged sets apply and their armed moves start together; and the automatic strobes are raised. A loop period accepts the
input levels, moves every axis on, closes the period of every tile and sends the positions of the serial ports. While the
motion blocks do not run, none of these happens.
Readings of the model that this rests on: log entries 5, 10, 14, 76. -/
def Obligations.TickRowsAct : Prop :=
  ∀ (s : State) (n : Fin 64) (mismatch : Bool),
    let d := s.dev
    (d.motionRuns = false →
      exec (.trajectoryTick mismatch) s = .next s ∧ exec (.ringHeadTake n) s = .next s ∧ exec .strobeApply s = .next s
        ∧ exec .autoStrobe s = .next s ∧ exec .loopPeriod s = .next s)
    ∧ (d.motionRuns = true →
      (let a := ((List.range 64).foldl (fun e k => e.closeTick k) d).invalidateAxes.judgeCheck mismatch
        let b := (a.executing 0x0D05).foldl (fun e tag => e.finishReinit tag) a
        let entered := axisMask (fun k => (b.ax k).stopReq.isSome && b.stoppable k)
        exec (.trajectoryTick mismatch) s = s.gives ((((List.range 64).foldl (fun e k => e.planTick k) b).finishStops
          entered).chooseCheck.publish false))
      ∧ exec (.ringHeadTake n) s = s.gives ((d.takeHead n).publish false)
      ∧ exec .autoStrobe s
        = s.gives ((bitsBelow (d.rd Reg.STROBE_CFG.AUTO) 8).foldl (fun e g => e.raiseStrobe g) d)
      ∧ (let a := (List.range 64).foldl (fun e k => match d.staged.find? (fun x => x.axis == k) with
            | some x => e.applyAxis k x.fields
            | none => e) { d with staged := [] }
          let b := (List.range 64).foldl (fun e k => if d.staged.any (fun x => x.axis == k) then e.startArmed k else e) a
          exec .strobeApply s = s.gives (((bitsBelow (d.rd Reg.STROBE_STAT.PEND) 8).foldl
            (fun e g => e.wr Reg.SG_TICK.COUNT g e.loops) b).wr Reg.STROBE_STAT.PEND 0 0))
      ∧ (let a := (d.modPower (fun p => { p with
            loops := p.loops + 1, cd03 := p.cd03 + 5000, loopGrain := d.grain })).acceptInputs
          let b := (List.range 64).foldl (fun e k => e.advance k) ((List.range 16).foldl (fun e t => e.countHeld t) a)
          let c := (List.range 16).foldl (fun e t => e.tilePeriod t) b
          let z := (List.range 16).foldl (fun e t => (e.telemetryAdd t).modTile t (fun x => { x with tag := .absent })) c
          exec .loopPeriod s = s.gives ((List.range 4).foldl (fun e p => e.sendAddresses p) z).addSupply))

/-- R44, R46, R51, R127, R128, R158, R163: the ends that the states of an axis wait for. A chain that is done, and a stop chain
past its last link, lead to SETTLING (or OFF); SETTLING ends in REST after SETTLE ticks with no ramp or identification under
way; an energise ramp ends its hold; HOLD_DWELL expires at rest; a captured home redefines the position; MAXDIST fails a
homing phase. Before its condition holds, each of these rows has no effect.
R136, R138, R140: a run of STALL_N stall observations ends the run and raises the stall event; where a homing seeks the
stall it detects home, steps back and gives the pulses of that step, else the axis loses its position, a homing of it fails
with any capture of it dropped, and it stops by STALL_ACT: not at all (a homing decelerates), by its stop chain, or free.
Readings of the model that this rests on: log entries 5, 22, 24, 57, 58, 66. -/
def Obligations.EndsAndStallsOfAnAxisAct : Prop :=
  (∀ (s : State) (n : Fin 64),
      let d := s.dev
      (∀ r, (d.ax n).run = some r → r.done = true → exec (.chainEnd n) s = s.gives ((d.goSettling n).publish false))
      ∧ (((d.ax n).run = none ∨ ∃ r, (d.ax n).run = some r ∧ r.done = false) → exec (.chainEnd n) s = .next s)
      ∧ (∀ r, (d.ax n).stop = some r → stopTicks (d.links r.chain) < r.idx → exec (.stopChainEnd n) s
          = s.gives ((d.stopEnds n (r.toOff || d.on Reg.AX_STAT.DEGRADED n)).chooseCheck.publish false))
      ∧ (((d.ax n).stop = none ∨ ∃ r, (d.ax n).stop = some r ∧ r.idx ≤ stopTicks (d.links r.chain)) →
          exec (.stopChainEnd n) s = .next s)
      ∧ (let due := d.axSt n = stSettling ∧ (d.ax n).ramp = none ∧ (d.ax n).ident = none
            ∧ d.rd Reg.SETTLE.TICKS n ≤ (d.ax n).settle;
          (due → exec (.settleDone n) s = s.gives ((d.goRest n).publish false))
          ∧ (¬ due → exec (.settleDone n) s = .next s))
      ∧ (let due := ∃ r, (d.ax n).ramp = some r ∧ r.hold = true ∧ 800 ≤ r.k;
          (due → exec (.energiseRampEnd n) s = s.gives (d.modAx n (fun a => { a with ramp := none, settle := 0 })))
          ∧ (¬ due → exec (.energiseRampEnd n) s = .next s))
      ∧ (let due := d.axSt n = stRest ∧ d.on Reg.CUR_CTRL.HOLD_LEAN n = true
            ∧ d.rd Reg.CUR_LIM.HOLD_DWELL n ≤ (d.ax n).dwell;
          (due → exec (.holdDwellExpired n) s = s.gives (d.modAx n (fun a => { a with dwellDone := true })))
          ∧ (¬ due → exec (.holdDwellExpired n) s = .next s))
      ∧ (∀ h, (d.ax n).home = some h → h.redefine = true → exec (.positionRedefine n) s
          = s.gives (((d.redefine n).showPos n ((d.redefine n).ax n).acc).publish false))
      ∧ (((d.ax n).home = none ∨ ∃ h, (d.ax n).home = some h ∧ h.redefine = false) →
          exec (.positionRedefine n) s = .next s)
      ∧ (let due := ∃ h, (d.ax n).home = some h ∧ d.axSt n = stHoming
            ∧ (d.rd Reg.HOME_STAT.PHASE n = 1 ∨ d.rd Reg.HOME_STAT.PHASE n = 4) ∧ h.detected = false ∧ h.fail = 0
            ∧ d.rd Reg.HOME_MAXD.MAXDIST n ≠ 0 ∧ d.rd Reg.HOME_MAXD.MAXDIST n * 2 ^ 24 ≤ d.homeTravelled n h;
          (due → exec (.homeMaxdist n) s
            = s.gives ((d.modHome n (fun h => { h with fail := 1 })).wr Reg.HOME_STAT.PHASE n 2))
          ∧ (¬ due → exec (.homeMaxdist n) s = .next s)))
  ∧ (∀ (s : State) (n : Fin 64),
      let d := s.dev
      let limit := max 1 (d.rd Reg.STALL_CFG.STALL_N n)
      let a := (d.modAx n (fun x => { x with stallRun := 0 })).curEvt n 0
      ((d.ax n).stallRun < limit → exec (.stallDetected n) s = .next s)
      ∧ (limit ≤ (d.ax n).stallRun → a.stallSeek n = true → exec (.stallDetected n) s
          = s.gives ((a.queuePulses n (a.ax n).acc.toInt (a.stepBack n (sext 12 (a.rd Reg.CUR_LOAD.DELTA n)))).homeStall n
              (sext 12 (a.rd Reg.CUR_LOAD.DELTA n))))
      ∧ (limit ≤ (d.ax n).stallRun → a.stallSeek n = false →
          let b := (a.occur 0x02 n).setPosState n posLost
          let c := b.modHome n (fun h => { h with
            fail := if b.axSt n = stHoming ∧ h.fail = 0 then 3 else h.fail
            redefine := false, capt := if h.redefine = true then none else h.capt })
          (c.rd Reg.CUR_CTRL.STALL_ACT n = 0 → exec (.stallDetected n) s
            = s.gives (if c.axSt n = stHoming then c.wr Reg.HOME_STAT.PHASE n 2 else c))
          ∧ (c.rd Reg.CUR_CTRL.STALL_ACT n = 2 → exec (.stallDetected n) s = s.gives (c.hardFaultFree n))
          ∧ (c.rd Reg.CUR_CTRL.STALL_ACT n ≠ 0 → c.rd Reg.CUR_CTRL.STALL_ACT n ≠ 2 → exec (.stallDetected n) s
              = s.gives (if c.stoppable n then c.askStop n 6 else c))))

/-! ### Follow mode, encoder inputs, limits and the stop ball -/

/-- R79, R81: an accepted active edge of SDIm_STEP changes SDI_CNTm by one, up while the accepted DIR level after DIR_POL is 1
and down otherwise, modulo 2^32, and latches the CD03 cycle count; while EN is 0 the edge has no effect. -/
def Obligations.StepEdgesCount : Prop :=
  ∀ (s : State) (m : Fin 16) (dir : Bool) (delay : BitVec 32),
    (s.dev.on Reg.SDI_CFG.EN m = false → exec (.sdiStepEdge m dir delay) s = .next s)
    ∧ (s.dev.on Reg.SDI_CFG.EN m = true → s.dev.rd Reg.SDI_CNT.CNT m < 2 ^ 32 →
        ∃ t, exec (.sdiStepEdge m dir delay) s = .next t
          ∧ t.dev.rd Reg.SDI_CNT.CNT m = (if dir != s.dev.on Reg.SDI_CFG.DIR_POL m
              then s.dev.rd Reg.SDI_CNT.CNT m + 1 else s.dev.rd Reg.SDI_CNT.CNT m + (2 ^ 32 - 1)) % 2 ^ 32
          ∧ t.dev.rd Reg.SDI_TS.TS m = (s.dev.cd03 + delay.toNat) % 2 ^ 32
          ∧ (∀ k : Fin 16, k ≠ m → t.dev.rd Reg.SDI_CNT.CNT k = s.dev.rd Reg.SDI_CNT.CNT k
              ∧ t.dev.rd Reg.SDI_TS.TS k = s.dev.rd Reg.SDI_TS.TS k))

/-- R89, R94, R101, R103: once its input is idle an axis drops its edge history to the longest period; an axis that waits to leave
FOLLOW and may leave goes to SETTLING; leave requests whose time is over complete BUSY_MOVING.
Readings of the model that this rests on: log entry 5. -/
def Obligations.FollowEndsAct : Prop :=
  ∀ (s : State) (n : Fin 64),
    let d := s.dev
    let idle := ∀ t, (d.sdiIn (d.rd Reg.FOL_CFG.SRC n)).last = some t → t + 400000 ≤ d.cd03
    (idle → exec (.followIdlePreset n) s
      = s.gives ((d.modAx n (fun a => { a with histN := 0 })).wr Reg.FOL_PER.P_EST n 400000))
    ∧ (¬ idle → exec (.followIdlePreset n) s = .next s)
    ∧ (∀ f, d.axSt n = stFollow → (d.ax n).follow = some f → (d.ax n).leave ≠ [] → idle → f.lastU = 0 →
        exec (.followIdleExit n) s = s.gives ((d.exitFollow n 0).goSettling n))
    ∧ ((d.axSt n ≠ stFollow ∨ (d.ax n).leave = [] ∨ ¬ idle ∨ ∀ f, (d.ax n).follow = some f → f.lastU ≠ 0) →
        exec (.followIdleExit n) s = .next s)
    ∧ (let late (l : LeaveReq) : Bool :=
          (d.entryOf l.tag).p 2 2 != 0 && decide ((d.entryOf l.tag).p 2 2 * 10 ≤ l.ticks);
        exec (.followLeaveTimeout n) s = s.gives (((d.ax n).leave.filter late).foldl
          (fun e l => e.complete l.tag .busyMoving true [])
          (d.modAx n (fun a => { a with leave := a.leave.filter (fun l => !late l) }))))

/-- R82, R84: an accepted sample of a quadrature input counts its step by MODE and INVERT modulo 2^32, shows the levels, and
sets PHASE_ERR where both channels changed; while EN is 0 or in GRAIN the count holds. Its levels are remembered, and motion
counts toward the wake counter, in every case.
R83, R162: where the sample brings the index to its active level and the gate holds for it, it also latches the count in
QE_IDX, counts in IDX_CNT, sets INDEX_SEEN, clears the count under IDX_CLR, and is seen by every homing that uses the input.
INDEX_EDGE is the sample whose index is at its active level.
Readings of the model that this rests on: log entry 21. -/
def Obligations.EncoderInputsCount : Prop :=
  ∀ (s : State) (k : Fin 8) (a b i : Bool),
    let d := s.dev
    let old := d.qeLevels k
    let m := ({ d with pads := { d.pads with qe := modNth (fun _ => ⟨a, b, i⟩) k d.pads.qe } }).qeWakeMotion k old ⟨a, b, i⟩
    let w := m.wr Reg.QE_STAT.ABI k (b2n a + 2 * b2n b + 4 * b2n i)
    let indexed (x : Device) : Device :=
      if old.i ≠ i ∧ i ≠ x.on Reg.QE_CFG.IDX_POL k ∧ gateOk (x.rd Reg.QE_CFG.IDX_GATE k) a b = true then
        let e := ((x.wr Reg.QE_IDX.CNT k (x.rd Reg.QE_CNT.CNT k)).count Reg.QE_STAT.IDX_CNT k).qeEvt k 1
        let f := if e.on Reg.QE_CFG.IDX_CLR k = true then e.wr Reg.QE_CNT.CNT k 0 else e
        (List.range 64).foldl (fun g n =>
          if g.rd Reg.HOME_CFG.QE n = k.val then g.modHome n (fun h => { h with idxSeen := true }) else g) f
      else x
    ((m.power.grain = true ∨ m.on Reg.QE_CFG.EN k = false) → exec (.qeCountStep k a b i) s = s.gives m)
    ∧ (m.power.grain = false → m.on Reg.QE_CFG.EN k = true → a ≠ old.a → b ≠ old.b →
        exec (.qeCountStep k a b i) s = s.gives (indexed (w.qeEvt k 0)))
    ∧ (m.power.grain = false → m.on Reg.QE_CFG.EN k = true → ∀ x,
        quadStep (w.rd Reg.QE_CFG.MODE k) old.a old.b a b = some x →
        exec (.qeCountStep k a b i) s = s.gives (indexed (w.wr Reg.QE_CNT.CNT k (toBits 32
          ((w.rd Reg.QE_CNT.CNT k : Int) + (if w.on Reg.QE_CFG.INVERT k then -x else x))))))
    ∧ ((a = old.a ∨ b = old.b) → (quadStep (w.rd Reg.QE_CFG.MODE k) old.a old.b a b).isSome = true)
    ∧ exec (.indexEdge k a b) s = exec (.qeCountStep k a b (!d.on Reg.QE_CFG.IDX_POL k)) s

/-- R52, R67, R153, R353, R636: a level on a GPIO is shown in GPIO_IN and may wake the device; while the motion blocks are
clocked it is accepted, an active home switch is remembered, and the limits of every axis are held against the axis's motion
of the last tick; SSTOP_N records each of its changes, and its fall asks every axis that moves to stop.
Readings of the model that this rests on: log entries 21, 22, 76. -/
def Obligations.PinLevelsAct : Prop :=
  ∀ (s : State) (g : Fin 48) (level : Bool),
    let d := s.dev
    (let bits := if level then d.pads.gpio ||| BitVec.ofNat 48 (2 ^ g.val)
        else d.pads.gpio &&& ~~~(BitVec.ofNat 48 (2 ^ g.val))
      let a := (({ d with pads := { d.pads with gpio := bits } }).wr Reg.GPIO_IN_L.IN 0 bits.toNat).wr Reg.GPIO_IN_H.IN 0
        (bits.toNat / 2 ^ 32)
      let b := if a.rd Reg.WAKE_CFG.GPIO_SEL = g.val ∧ a.on Reg.WAKE_CFG.GPIO_POL ≠ level then a.wakeLatch 3 else a;
      (∀ k : Fin 48, bits.getLsbD k = if k = g then level else d.pads.gpio.getLsbD k)
      ∧ (b.running = false → exec (.limitInput g level) s = s.gives b)
      ∧ (b.running = true →
          let accepted := if level then b.pads.accepted ||| BitVec.ofNat 48 (2 ^ g.val)
            else b.pads.accepted &&& ~~~(BitVec.ofNat 48 (2 ^ g.val))
          let c : Device := { b with pads := { b.pads with accepted := accepted } }
          exec (.limitInput g level) s = s.gives ((List.range 64).foldl (fun e n =>
            let e := if e.rd Reg.HOME_CFG.SW_GPIO n = g.val ∧ e.switchActive n = true
              then e.modHome n (fun h => { h with swEdge := true }) else e
            (e.refreshLimits n).checkLimit n (e.ax n).moved.toInt) c)))
    ∧ (d.pads.sstopN = level → exec (.sstopNChange level) s = .next s)
    ∧ (d.pads.sstopN = false → level = true → exec (.sstopNChange level) s
        = s.gives ((({ d with pads := { d.pads with sstopN := true } }).sysEvt 1).record 0x0040 [0x00]))
    ∧ (d.pads.sstopN = true → level = false → exec (.sstopNChange level) s
        = s.gives ((List.range 64).foldl (fun e n => if e.stoppable n || e.axSt n == stStopping then e.askStop n 2 else e)
            ((({ d with pads := { d.pads with sstopN := false } }).sysEvt 0).record 0x0040 [0x01])))

/-! ### Resets, supplies and the boot -/

/-- R330, R332 to R340, R614: what a reset row does. RST_N low, TEST high, a lost reference, a watchdog expiry and a
brown-out assert DEVRST with their wake latch, a newly latched one with EV010, and the I/O brown-out with the warning of
its supply; DEVRST is released once nothing holds it, with the straps sampled; VBAT going low loses all but the boot store,
and its release ends POR. A reset while DEVRST holds keeps the state it already has. R341 to R347: DEVRST keeps the memory
but for what the reset tears in flight, and the tables, takes the power state to RUN's reset and empties the scheduler, the
axes and the tiles; no pin, no fuse, no line of the console's log and no free value changes.
Readings of the model that this rests on: log entries 32, 33. -/
def Obligations.ResetsKeepAndClear : Prop :=
  (∀ (s : State) (c : ResetCause) (v : ResetSupply) (level : Bool) (st : Straps),
      let d := s.dev
      (d.power.por = true → exec (.devrstAssert c) s = .next s ∧ exec (.brownOutReset v) s = .next s
        ∧ exec (.devrstRelease st) s = .next s)
      ∧ (d.power.por = false →
        (c = .rstN → exec (.devrstAssert c) s = s.gives (d.assertDevrst.wakeLatch 11))
        ∧ (c = .deviceReset → exec (.devrstAssert c) s = s.gives (d.assertDevrst.wakeLatch 12))
        ∧ (c = .test → exec (.devrstAssert c) s = s.gives d.assertDevrst)
        ∧ (c = .clkFail → exec (.devrstAssert c) s = s.gives (d.assertDevrst.wakeLatch 14))
        ∧ (c = .watchdog → exec (.devrstAssert c) s = s.gives (d.assertDevrst.wakeLatch 10))
        ∧ (c = .coreBrownOut → exec (.devrstAssert c) s = exec (.brownOutReset .vddCore) s)
        ∧ (c = .ioBrownOut → exec (.devrstAssert c) s = exec (.brownOutReset .vddioA) s)
        ∧ (exec (.brownOutReset .vddCore) s = s.gives (((d.assertDevrst.comparator 1 false).dropCore).modPower
            (fun p => { p with coreOk := false })))
        ∧ (exec (.brownOutReset .vddioA) s = s.gives ((((d.assertDevrst.wakeLatch 8).warn true
            (d.assertDevrst.wakeLatch 8).mramLow).comparator 2 false).modPower (fun p => { p with ioOk := false })))
        ∧ (exec (.rstNLow false) s = s.gives ((d.assertDevrst.wakeLatch 11).modPower (fun p => { p with rstN := false })))
        ∧ (exec (.testHigh true) s = s.gives (d.assertDevrst.modPower (fun p => { p with test := true }))))
      ∧ (exec (.rstNLow true) s = s.gives (d.modPower (fun p => { p with rstN := true })))
      ∧ (exec (.testHigh false) s = s.gives (d.modPower (fun p => { p with test := false })))
      ∧ (d.power.por = true →
          exec (.rstNLow level) s = s.gives (d.modPower (fun p => { p with rstN := level }))
          ∧ exec (.testHigh level) s = s.gives (d.modPower (fun p => { p with test := level }))
          ∧ exec .porRelease s = s.gives ((d.comparator 0 true).modPower (fun p => { p with por := false })))
      ∧ (d.power.por = false → exec .porRelease s = .next s)
      ∧ ((d.power.grain = true ∨ d.power.devrst = true) →
          exec .refclkFail s = .next s ∧ exec .apWatchdogExpiry s = .next s)
      ∧ (d.power.grain = false → d.power.devrst = false →
          exec .refclkFail s = s.gives (d.assertDevrst.wakeLatch 14)
          ∧ exec .apWatchdogExpiry s = s.gives (d.assertDevrst.wakeLatch 10))
      ∧ (d.power.devrst = true → d.assertDevrst = d)
      ∧ ((d.power.devrst = false ∨ d.power.rstN = false ∨ d.power.test = true) → exec (.devrstRelease st) s = .next s)
      ∧ (d.power.devrst = true → d.power.por = false → d.power.rstN = true → d.power.test = false →
          ∃ t, exec (.devrstRelease st) s = .next t ∧ t.dev.power.devrst = false
            ∧ t.dev.rd Reg.PAD_STAT.USB_EN = b2n st.usbEn ∧ t.dev.rd Reg.PAD_STAT.BOOTSEL = b2n st.bootsel
            ∧ t.dev.on Reg.USB_CTRL.PRESENT = st.usbEn ∧ t.dev.ringOn 2 = st.usbEn ∧ t.dev.ringOn 3 = st.usbEn
            ∧ t.dev.mem = d.mem ∧ t.fuses = s.fuses)
      ∧ (∃ t, exec .vbatLow s = .next t ∧ t.dev.power.por = true ∧ t.dev.power.devrst = true
          ∧ t.dev.mem = d.tearInFlight.mem.filter (fun c => inMram c.1) ∧ t.dev.sched.tasks = [] ∧ t.fuses = s.fuses))
  ∧ (∀ d : Device, d.power.devrst = false →
      let e := d.assertDevrst
      e.power.devrst = true ∧ e.sched = Sched.reset ∧ e.axes = Device.reset.axes ∧ e.tiles = Device.reset.tiles
        ∧ e.adc = Adc.reset ∧ e.audio = Audio.reset ∧ e.staged = [] ∧ e.latches = [] ∧ e.tables = d.tables
        ∧ e.mem = d.loseTasks.tearInFlight.mem ∧ e.pads = d.pads ∧ e.free = d.loseTasks.tearInFlight.free
        ∧ e.busRead = d.busRead ∧ e.console.log = d.console.log)

/-- R343, R344, R615, R616: the boot waits for the boot store's supply, runs once for each reset, and changes the device and
the fuses as the images it finds say.
R334, R335, R339, R368, R509: the supply and clock rows that reset nothing. A warning counts and is seen once, stops stores
and image writes, and ends when both supplies are back, the boot store's being shown as soon as it is; VDDA low is shown
and remembered by a conversion under way; the grain clock is substituted where the crystal fails or does not come up, and
the crystal takes over when it locks.
Readings of the model that this rests on: log entries 10, 34. -/
def Obligations.BootSupplyAndClockRowsAct : Prop :=
  (∀ (s : State) (r : BootReport),
      let d := s.dev
      let ready := bitOf (d.rd Reg.BO_STAT.OK) 4
      ((d.power.por = true ∨ d.power.devrst = true ∨ d.on Reg.MB_STAT.MB_READY = true) → exec (.boot r) s = .next s)
      ∧ (d.power.por = false → d.power.devrst = false → d.on Reg.MB_STAT.MB_READY = false → ready = false →
          exec (.boot r) s = s.gives (d.modPower (fun p => { p with bootWaits := true })))
      ∧ (d.power.por = false → d.power.devrst = false → d.on Reg.MB_STAT.MB_READY = false → ready = true →
          exec (.boot r) s = .next { s with dev := (d.boot r s.fuses).1, fuses := (d.boot r s.fuses).2 }
          ∧ (d.boot r s.fuses).1.on Reg.MB_STAT.MB_READY = true
          ∧ ∀ t, exec (.boot r) s = .next t → exec (.boot r) t = .next t))
  ∧ (∀ (s : State) (w : WarnSupply) (low : Bool),
      let d := s.dev
      (let io := w = .vddioA ∨ w = .both
        let mram := w = .vddMram ∨ w = .both
        let a := (d.comparator 4 (decide ¬ mram)).modPower (fun p => { p with
          ioWarn := decide io, bootWaits := p.bootWaits && decide mram })
        let b := a.comparator 3 true
        let c := if d.boWarn then b else ((b.count Reg.BO_CNT.COUNT).wr Reg.BO_STAT.BO_WARN_SEEN 0 1).pwrEvt 4
        exec (.brownOutWarn w) s = s.gives ((c.stopStore 1).stopImage 1))
      ∧ (let a := (d.comparator 4 true).modPower (fun p => { p with ioWarn := false, bootWaits := false });
          (d.boWarn = true → exec .boClear s = s.gives ((a.comparator 3 false).pwrEvt 5))
          ∧ (d.boWarn = false → exec .boClear s = s.gives a))
      ∧ (exec (.vddaLow low) s
          = s.gives ((d.comparator 5 (!low)).modAdc (fun a => { a with vddaSeen := a.vddaSeen || (low && a.converting) })))
      ∧ (d.power.crystal = true → exec .grainClockSubstitute s = s.gives
          ((((d.modPower (fun p => { p with crystal := false })).wr Reg.PWR_STAT.GRAIN_CLK_SUBST 0 1).wakeLatch 14).pwrEvt 6))
      ∧ (d.power.crystal = false → exec .grainClockSubstitute s = .next s)
      ∧ (d.power.por = true → exec .grainCrystalLock s = .next s ∧ exec .grainCrystalTimeout s = .next s)
      ∧ (d.power.por = false → exec .grainCrystalLock s
          = s.gives ((d.wr Reg.PWR_STAT.GRAIN_CLK_SUBST 0 0).modPower (fun p => { p with crystal := true })))
      ∧ (d.power.por = false → d.power.crystal = true → exec .grainCrystalTimeout s = .next s)
      ∧ (d.power.por = false → d.power.crystal = false → exec .grainCrystalTimeout s
          = s.gives (((d.wr Reg.PWR_STAT.GRAIN_CLK_SUBST 0 1).wakeLatch 14).pwrEvt 6))
      ∧ (exec .gcRestart s = s.gives (d.wakeLatch 15)))

/-- R303, R304, R332, R336, R380, R557: a rising edge of the grain clock completes in every state. It advances GRAIN_CNT by
one, watches the reference, ages the counts of occurrences, shows the clocks that run while DEVRST does not hold, and refreshes
every RC copy: those of class G hold the live values, those of class D the values that two samples agree on. In power-on reset
there is no such edge, and nothing changes.
Readings of the model that this rests on: log entries 18, 73. -/
def Obligations.GrainEdgesRefreshTheCopies : Prop :=
  ∀ s : State,
    let d := s.dev
    let a := (d.setGrain (d.grain + 1)).refEdge
    let b := (List.range 25).foldl (fun e c => if e.events.units.any (fun x => x.cls == c) then e.refreshScr c else e) a
    let c := if b.power.devrst then b else b.showClocks
    let e : Device := { c with regs := c.regs.edge }
    (∃ t, exec .grainClockEdge s = .next t)
    ∧ (d.power.por = true → exec .grainClockEdge s = .next s)
    ∧ (d.power.por = false → exec .grainClockEdge s = s.gives e)
    ∧ (e.regs.bgCopy = e.regs.bg ∧ e.regs.ddSamp = e.regs.dd)
    ∧ (∀ f : Field, ∀ i : Nat, f.acc = .rcBG → e.busField f i = e.rd f i)
    ∧ e.mem = d.mem

/-! ### Power modes -/

/-- R345 to R360: the power-mode rows. A wake source raises the mode as WAKE_EN allows; the grain alarm and the encoder's
wake count set their latches when their values are reached; a deferral ends when its causes have gone; each step of a mode
change is followed by the next; GRAIN is entered at its commit point, unless the entry's target has meanwhile been raised,
and left when the rise is done; and an excursion returns when its segment is over without a hit. Where its condition does
not hold, each of these rows leaves the mode machine alone and lets a waiting MODE_SET begin.
Readings of the model that this rests on: log entries 5, 30, 31, 74. -/
def Obligations.PowerRowsAct : Prop :=
  ∀ (s : State) (source : Fin 16) (micros : BitVec 32),
    let d := s.dev
    ((d.wakeMode source = none ∨ d.wakeActs source = false) → exec (.wakeSource source) s = s.gives d.nextMode)
    ∧ (∀ m, d.wakeMode source = some m → d.wakeActs source = true →
        let e := if source.val = 0 then d else d.turnNormal
        let abandoned := if e.power.target ≤ 1 ∧ e.power.excursion = none then e.abandonEntry m else e
        let further := e.modPower (fun p => { p with wakeGoal := max p.wakeGoal m })
        (e.power.step = .none → e.mode < m → exec (.wakeSource source) s = s.gives (e.raiseFrom source m).nextMode)
        ∧ (e.power.step = .none → m ≤ e.mode → exec (.wakeSource source) s = s.gives e.nextMode)
        ∧ (e.power.step = .rising → exec (.wakeSource source) s = s.gives further.nextMode)
        ∧ (e.power.step = .committed → e.power.wakeLate = true → exec (.wakeSource source) s = s.gives further.nextMode)
        ∧ (e.power.step = .committed → e.power.wakeLate = false → exec (.wakeSource source) s
            = s.gives (e.raiseFrom source m).nextMode)
        ∧ (e.power.step = .entering → e.power.target = 2 → exec (.wakeSource source) s = s.gives further.nextMode)
        ∧ (e.power.step = .entering → e.power.target ≠ 2 → exec (.wakeSource source) s = s.gives abandoned.nextMode)
        ∧ ((e.power.step = .deferred ∨ e.power.step = .ready) → exec (.wakeSource source) s = s.gives abandoned.nextMode))
    ∧ (let alarm := d.rd Reg.GRAIN_ALARM_L.ALARM + 2 ^ 32 * d.rd Reg.GRAIN_ALARM_H.ALARM;
        (d.on Reg.WAKE_CFG.ALARM_EN = true → d.grain = alarm → exec .grainAlarm s = s.gives (d.wakeLatch 2))
        ∧ ((d.on Reg.WAKE_CFG.ALARM_EN = false ∨ d.grain ≠ alarm) → exec .grainAlarm s = .next s))
    ∧ (let due := d.mode ≤ 1 ∧ max 1 (d.rd Reg.WAKE_CFG.QE_THR) ≤ d.power.qeWake.natAbs;
        (due → exec .qeWakeCount s = s.gives ((d.wakeLatch 7).modPower (fun p => { p with qeWake := 0 })))
        ∧ (¬ due → exec .qeWakeCount s = .next s))
    ∧ (d.power.step ≠ .deferred → exec .modeDeferralEnd s = s.gives d.nextMode)
    ∧ (d.power.step = .deferred →
        let e := if d.modeForce && bitOf (d.deferCause (d.mode - 1)) 1 then d.verdict 2 else d
        (e.deferCause (e.mode - 1) ≠ 0 → exec .modeDeferralEnd s
          = s.gives (e.deferStep (e.deferCause (e.mode - 1))).nextMode)
        ∧ (e.deferCause (e.mode - 1) = 0 → exec .modeDeferralEnd s = s.gives (e.lower .aborted).nextMode))
    ∧ ((d.power.step = .none ∨ d.power.step = .deferred ∨ d.power.step = .ready ∨ (d.cyclic.frozen = true ∧ d.changesBusClock = true)) →
        exec (.modeStepDone micros) s = s.gives d.nextMode)
    ∧ ((d.cyclic.frozen = false ∨ d.changesBusClock = false) →
        (d.power.step = .committed → exec (.modeStepDone micros) s
          = s.gives ((d.modPower (fun p => { p with micros := p.micros + micros.toNat })).reachGrain).nextMode)
        ∧ (let e := d.modPower (fun p => { p with micros := p.micros + micros.toNat });
            (d.power.step = .entering → d.power.goal = 0 → exec (.modeStepDone micros) s = s.gives e.nextMode)
            ∧ (d.power.step = .entering → d.power.goal ≠ 0 →
                let f := if d.power.goal = 2 then e.setMode 2 else e.reachDoze
                exec (.modeStepDone micros) s = s.gives ((if f.power.excursion = some d.power.goal then
                  f.modPower (fun p => { p with excursion := none, excursions := p.excursions + 1 })
                  else f).showClocks.nextStep).nextMode))
        ∧ (let e := d.modPower (fun p => { p with micros := if p.target = 0 then p.micros else p.micros + micros.toNat });
            d.power.step = .rising →
            (d.power.goal = 2 → exec (.modeStepDone micros) s = s.gives ((e.reachRun.showClocks).nextStep).nextMode)
            ∧ (d.power.goal = 3 → exec (.modeStepDone micros) s
                = s.gives ((((e.setMode 3).perceptionOn).fusionOn.showClocks).nextStep).nextMode)
            ∧ (d.power.goal ≠ 2 → d.power.goal ≠ 3 → exec (.modeStepDone micros) s = s.gives e.nextMode)))
    ∧ ((d.power.step ≠ .entering ∨ d.power.goal ≠ 0 ∨ d.cyclic.frozen = true) → exec .grainCommitPoint s = .next s)
    ∧ (d.power.step = .entering → d.power.goal = 0 → d.cyclic.frozen = false → d.power.target ≠ 0 →
        exec .grainCommitPoint s = s.gives d.adcOutOfGrain.nextStep)
    ∧ (d.power.step = .entering → d.power.goal = 0 → d.cyclic.frozen = false → d.power.target = 0 →
        let e := d.markCd03.modPower (fun p => { p with
          grain := true, step := .committed, wakeGoal := 0
          commitAt := if d.power.excursion.isSome then p.commitAt else d.grain })
        exec .grainCommitPoint s
          = s.gives ((({ e with mem := d.mem.filter (fun c => !inSram c.1 || decide (c.1 < 0x10040000)) }).machines
              false).fansIntoGrain.showClocks).refreshSrdy.refreshInts)
    ∧ ((d.power.grain = false ∨ d.power.step ≠ .rising) → exec .grainExit s = s.gives d.nextMode)
    ∧ (d.power.grain = true → d.power.step = .rising →
        let a := (d.modPower (fun p => { p with grain := false, cdGrain := d.grain })).wr Reg.PWR_STAT.MODE 0 1
        let b := (((((a.machines true).pwrEvt 0).showClocks).adcOutOfGrain).fansOutOfGrain).emptyHandles
        exec .grainExit s = s.gives ((if b.power.excursion.isSome then b else b.hostReturns).refreshInts.nextStep).nextMode)
    ∧ ((d.power.excursion = none ∨ (∃ m, d.power.excursion = some m
          ∧ (d.power.step ≠ .none ∨ d.audio.seg.isSome = true ∨ d.mode ≤ m))) →
        exec .excursionReturn s = s.gives d.nextMode)
    ∧ (∀ m, d.power.excursion = some m → d.power.step = .none → d.audio.seg = none → m < d.mode →
        ((d.audio.verdict ≠ 0 ∨ d.on Reg.WAKE_CFG.VAD_RETURN = false) →
          exec .excursionReturn s = s.gives d.turnNormal.nextMode)
        ∧ (d.audio.verdict = 0 → d.on Reg.WAKE_CFG.VAD_RETURN = true → exec .excursionReturn s
            = s.gives (((d.modPower (fun p => { p with target := m, wakeGoal := 0 })).lower .busyMoving).nextMode)))

/-! ### The ports -/

/-- R242 to R245, R254 to R256, R260, R262, R265, R268, R269, R354: the cyclic port's rows. In GRAIN the fall of SCS_N only
wakes, and the frame that it began is not judged; else it freezes a reply with the next DALIVE, once, and not while the bus
clock changes. A frame without an SCK edge only ends the freeze and lets a waiting mode step go on; one with an edge while SRDY
was low is BUSY_CLOCKED, one of a wrong length or CRC is refused, and every refusal counts and sets HIST; a restart that a
commit has written follows it. The master is lost at a tick boundary once its time is exceeded, and LOSS_ACT stops and flushes
the axes of LOSS_MASK.
Readings of the model that this rests on: log entries 5, 26. -/
def Obligations.CyclicRowsAct : Prop :=
  ∀ (s : State) (edges : SckEdges) (bits : BitVec 14) (frame : List Word),
    let d := s.dev
    let low : Device := { d with pads := { d.pads with scsN := false } }
    let high : Device := { d with pads := { d.pads with scsN := true } }
    let freed := (high.modCyclic (fun c => { c with frozen := false })).stepFreed.refreshSrdy
    (d.power.grain = true → exec .replyFreeze s
      = s.gives ((low.wakeLatch 5).modCyclic (fun c => { c with unjudged := true })))
    ∧ (d.power.grain = false → (d.cycOn = false ∨ d.cyclic.frozen = true ∨ d.cyclic.unjudged = true ∨ d.busClockStep = true) →
        exec .replyFreeze s = s.gives low)
    ∧ (d.power.grain = false → d.cycOn = true → d.cyclic.frozen = false → d.cyclic.unjudged = false → d.busClockStep = false →
        ∃ t, exec .replyFreeze s = .next t
        ∧ t.dev.cyclic.frozen = true ∧ t.dev.rd Reg.CYC_STAT.DALIVE = (d.rd Reg.CYC_STAT.DALIVE + 1) % 16
        ∧ t.dev.mem = d.mem ∧ t.dev.axes = d.axes ∧ t.dev.sched = d.sched)
    ∧ (d.cyclic.unjudged = true → exec (.cyclicFrame ⟨edges, bits⟩ frame) s
        = s.gives (high.modCyclic (fun c => { c with unjudged := false })))
    ∧ (d.cyclic.unjudged = false → (d.cycOn = false ∨ edges = .none) →
        exec (.cyclicFrame ⟨edges, bits⟩ frame) s = s.gives freed)
    ∧ (d.cyclic.unjudged = false → d.cycOn = true → edges ≠ .none →
        let ws := (frame ++ List.replicate d.cycWords 0).take d.cycWords
        let j := d.judgeFrame edges bits.toNat frame
        ((edges = .early ∨ d.cyclic.frozen = false) → j = (6, []))
        ∧ (edges = .ready → d.cyclic.frozen = true → bits.toNat < 32 * d.cycWords → j = (2, []))
        ∧ (edges = .ready → d.cyclic.frozen = true → 32 * d.cycWords < bits.toNat → j = (3, []))
        ∧ (edges = .ready → d.cyclic.frozen = true → bits.toNat = 32 * d.cycWords →
            (nth 0 (d.cycWords - 1) ws).toNat ≠ frameCrc (ws.take (d.cycWords - 1)) → j = (1, []))
        ∧ (edges = .ready → d.cyclic.frozen = true → bits.toNat = 32 * d.cycWords →
            (nth 0 (d.cycWords - 1) ws).toNat = frameCrc (ws.take (d.cycWords - 1)) → j = d.judgeWords ws)
        ∧ (let a := if j.1 = 0 then high.admitFrame (nth 0 0 frame).toNat j.2 else high.refuseFrame j.1
            let b := a.wr Reg.CYC_STAT.LAST_RES 0 j.1
            let c := b.wr Reg.CYC_STAT.HIST 0 (b.rd Reg.CYC_STAT.HIST * 2 + b2n (j.1 == 0));
            (c.cyclic.restartDue = none → exec (.cyclicFrame ⟨edges, bits⟩ frame) s
              = s.gives (c.modCyclic (fun y => { y with frozen := false })).stepFreed.refreshSrdy)
            ∧ (∀ reinit, c.cyclic.restartDue = some reinit → exec (.cyclicFrame ⟨edges, bits⟩ frame) s
              = s.gives ((c.cycRestart reinit).modCyclic (fun y => { y with frozen := false })).stepFreed.refreshSrdy)))
    ∧ (let tmo := d.rd Reg.CYC_CFG.LOSS_TMO
        let lost := d.motionRuns = true ∧ tmo ≠ 0 ∧ d.on Reg.CYC_STAT.REF_VALID = true
          ∧ d.on Reg.CYC_STAT.MASTER_LOST = false ∧ 40 * tmo < d.loops - d.cyclic.releasedAt
        let a := ((d.wr Reg.CYC_STAT.MASTER_LOST 0 1).cycEvt 8).occur 0x0A 0
        let hit := (List.range 64).filter (fun n => bitOf (a.rd Reg.LOSS_MASK.MASK (n / 32)) (n % 32) && a.stoppable n)
        let b := hit.foldl (fun e n => e.askStop n 6) a;
        (¬ lost → exec .masterLost s = .next s)
        ∧ (lost → a.rd Reg.CYC_CFG.LOSS_ACT = 0 → exec .masterLost s = s.gives a)
        ∧ (lost → a.rd Reg.CYC_CFG.LOSS_ACT = 1 → exec .masterLost s = s.gives b)
        ∧ (lost → a.rd Reg.CYC_CFG.LOSS_ACT ≠ 0 → a.rd Reg.CYC_CFG.LOSS_ACT ≠ 1 → exec .masterLost s
            = s.gives (hit.foldl (fun e n => e.flushAxis n .cancelled) b)))

/-- R274, R278, R279, R282 to R284, R288, R297: the USB port's rows. An OUT transfer is judged whole: committed and counted, or
refused with its reason; each acknowledged packet moves the ring's consumer index past the entries whose last byte it carried,
and a short one ends its transfer; polls and bursts send what is new; control requests
and the bus's own states are followed; and no row acts while its endpoint or the port does not run.
Readings of the model that this rests on: log entries 5, 27, 28, 68. -/
def Obligations.UsbRowsAct : Prop :=
  ∀ (s : State) (bs : List Byte) (high valid : Bool) (setup : BitVec 64),
    let d := s.dev
    let packet := if d.on Reg.USB_STAT.HS then 512 else 64
    let upto (x : InXfer) : Nat := min x.bytes.length (x.acked + packet)
    let passed (x : InXfer) : Device := if d.ringOn x.ring then d.wr Reg.RING_CI.CI x.ring (d.rd Reg.RING_CI.CI x.ring
      + min ((x.ends.filter (fun e => decide (x.acked < e) && decide (e ≤ upto x))).length) (d.ringCount x.ring)) else d
    let rest (x : InXfer) : Option InXfer := if upto x < x.acked + packet then none else some { x with acked := upto x }
    (d.epRuns 0 = false → exec (.usbOutTransfer bs) s = .next s)
    ∧ (d.epRuns 0 = true →
        let j := d.judgeTransfer bs
        let p := if j.1 = 0 then d.commitTransfer j.2.2
          else ([], ((d.count Reg.USB_REFUSED.COUNT).wr Reg.USB_REFUSED.LAST_RES 0 j.1).usbEvt 8)
        (4096 < bs.length → j = (1, 0, []))
        ∧ (p.2.usbServes = false → exec (.usbOutTransfer bs) s = s.gives p.2)
        ∧ (p.2.usbServes = true →
            let a := p.1.foldl Device.queueIn p.2
            exec (.usbOutTransfer bs) s = s.gives ((a.queueIn (usbHeader 0x81 0 4 a.usb.xferNo.toNat ++ leBytes 1 j.1
              ++ leBytes 1 j.2.1 ++ leBytes 2 0)).modUsb (fun u => { u with xferNo := u.xferNo + 1 }))))
    ∧ (d.epRuns 1 = false → exec (.usbInAck .ep1) s = .next s)
    ∧ (d.epRuns 1 = true → d.usb.ep1In = none →
        let p := d.inTransfer 4096 d.usb.ep1 0 [] []
        (p.2.2 = [] → exec (.usbInAck .ep1) s = .next s)
        ∧ (p.2.2 ≠ [] → exec (.usbInAck .ep1) s = s.gives
            (d.modUsb (fun u => { u with ep1 := u.ep1.drop p.1, ep1In := some ⟨3, p.2.2, 0, p.2.1⟩ })).ackEp1))
    ∧ (∀ x, d.epRuns 1 = true → d.usb.ep1In = some x → exec (.usbInAck .ep1) s
        = s.gives ((passed x).modUsb (fun u => { u with
            ep1In := rest x, sent1 := (x.bytes.drop x.acked).take packet })))
    ∧ (d.epRuns 2 = false → exec (.usbInAck .ep2) s = .next s ∧ exec .ep2Poll s = .next s)
    ∧ (d.epRuns 2 = true → exec (.usbInAck .ep2) s = s.gives (d.modUsb (fun u => { u with ep2Sent := false })))
    ∧ (d.epRuns 2 = true → d.usb.ep2Sent = true → exec .ep2Poll s = .next s)
    ∧ (d.epRuns 2 = true → d.usb.ep2Sent = false → d.evtSum 4 = d.usb.ep2Sum → d.reportFlags = d.usb.ep2Flags →
        d.usb.ep2New = [] → exec .ep2Poll s = s.gives (d.modUsb (fun u => { u with sent2 := [] })))
    ∧ (d.epRuns 2 = true → d.usb.ep2Sent = false →
        (d.evtSum 4 ≠ d.usb.ep2Sum ∨ d.reportFlags ≠ d.usb.ep2Flags ∨ d.usb.ep2New ≠ []) →
        ∃ t, exec .ep2Poll s = .next t ∧ t.dev.usb.ep2Sent = true ∧ t.dev.usb.ep2New = d.usb.ep2New.drop 4
          ∧ t.dev.usb.sent2.take 2 = leBytes 2 (d.evtSum 4) ∧ t.dev.regs = d.regs ∧ t.dev.mem = d.mem)
    ∧ ((d.epRuns 3 = false ∨ d.usb.ep3In = none) → exec (.usbInAck .ep3) s = .next s)
    ∧ (∀ x, d.epRuns 3 = true → d.usb.ep3In = some x → exec (.usbInAck .ep3) s
        = s.gives ((passed x).modUsb (fun u => { u with ep3In := rest x })))
    ∧ ((d.epRuns 3 = false ∨ d.usb.ep3In.isSome = true) → exec .ep3Burst s = .next s)
    ∧ (d.epRuns 3 = true → d.usb.ep3In = none → d.streamTurn = none → exec .ep3Burst s
        = s.gives (d.modUsb (fun u => { u with sent3 := [] })))
    ∧ (∀ k, d.epRuns 3 = true → d.usb.ep3In = none → d.streamTurn = some k →
        let r := d.rd Reg.USB_STRM.RING k
        let es := d.ringEsize r
        let ci := d.rd Reg.RING_CI.CI r
        let n := min (d.ringCount r) (4088 / es)
        let burst := leBytes 1 r ++ leBytes 1 (d.rd Reg.RING_CFG.ESIZE r) ++ leBytes 2 n ++ leBytes 4 ci
          ++ (List.range n).flatMap (fun j => d.bytes (d.ringAddr r (ci + j)) es)
        exec .ep3Burst s = s.gives (d.modUsb (fun u => { u with
          ep3In := some ⟨r, burst, 0, (List.range n).map (fun j => 8 + es * (j + 1))⟩, turn := (k + 1) % 8, sent3 := burst })))
    ∧ (let st := d.rd Reg.USB_STAT.STATE
        let off := d.usbPresent = false ∨ st < 2 ∨ 4 < st ∨ d.running = false ∨ d.hostless = true ∨ d.usb.test ≠ 0;
        (off → exec (.ep0Request setup) s = .next s)
        ∧ (¬ off → (bitsOf setup.toNat 5 2 ≠ 0 ∨ 2 < bitsOf setup.toNat 0 5) → exec (.ep0Request setup) s
            = s.gives (d.modUsb (fun u => { u with ep0 := none })))
        ∧ (¬ off → bitsOf setup.toNat 5 2 = 0 → bitsOf setup.toNat 0 5 ≤ 2 → exec (.ep0Request setup) s
            = s.gives (d.standardRequest (bitsOf setup.toNat 0 5) (bitsOf setup.toNat 8 8) (bitsOf setup.toNat 16 16)
                (bitsOf setup.toNat 32 16) (bitsOf setup.toNat 48 16))))
    ∧ (let off := d.usbPresent = false ∨ d.rd Reg.USB_STAT.STATE = 0 ∨ d.usb.test ≠ 0;
        (off → exec (.usbBusReset high) s = .next s)
        ∧ (¬ off →
          let a := (d.usbForget.usbState 2 (high && d.on Reg.USB_CFG.HS_EN)).usbEvt 2
          exec (.usbBusReset high) s = s.gives (if a.mode < 2 then a.wakeLatch 4 else a)))
    ∧ (let st := d.rd Reg.USB_STAT.STATE
        let off := d.usbPresent = false ∨ st = 0 ∨ st = 5 ∨ d.usb.test ≠ 0;
        (off → exec .usbSuspend s = .next s)
        ∧ (¬ off → exec .usbSuspend s
            = s.gives (((d.modUsb (fun u => { u with before := st })).wr Reg.USB_STAT.STATE 0 5).usbEvt 3)))
    ∧ (d.rd Reg.USB_STAT.STATE ≠ 5 → exec .usbResume s = .next s)
    ∧ (d.rd Reg.USB_STAT.STATE = 5 →
        let w := d.usb.wake
        let a := (d.wr Reg.USB_STAT.STATE 0 d.usb.before).modUsb (fun u => { u with
          wake := if w = .drive ∨ w = .met then .drive else .idle })
        let b := (if w = .listen ∨ w = .drive ∨ w = .met then a.usbEvt 7 else a).usbEvt 4
        exec .usbResume s = s.gives (if b.mode < 2 then b.wakeLatch 4 else b))
    ∧ (exec (.usbVbusChange valid) s
        = s.gives (({ d with pads := { d.pads with vbus := valid } }).wr Reg.USB_STAT.VBUS 0 (b2n valid)).usbPull)
    ∧ (d.usb.reattach = false → exec .usbReattach s = .next s)
    ∧ (d.usb.reattach = true → exec .usbReattach s = s.gives (d.modUsb (fun u => { u with reattach := false })).usbPull)
    ∧ (let stalled := d.usbPresent = true ∧ d.ringOn 3 = true ∧ d.ringCount 3 ≠ 0;
        (stalled → exec .cplStalled s = s.gives (d.usbEvt 12)) ∧ (¬ stalled → exec .cplStalled s = .next s))

/-- R289 to R294, R298: remote wake starts only while the bus is suspended and an armed reason is pending; it is blocked
without the host's leave in the current configuration, raises the device first where the mode is below RUN, listens, drives
where nothing was seen, waits, and is given up where no resume comes; a resume of the host's own sets RWAKE_COLLIDED.
R295, Table 9.6: a console line of at most 64 bytes that names a request is answered by its facts, of the device at that
moment, or by the retained lines it asks for; any other by a question mark.
Readings of the model that this rests on: log entries 28, 29, 69, 70. -/
def Obligations.RemoteWakeAndConsoleRowsAct : Prop :=
  ∀ (s : State) (bus : WakeLine) (line : List Byte),
    let d := s.dev
    let pend := d.rd Reg.USB_RWAKE.PEND
    let may := d.usbPresent = true ∧ d.rd Reg.USB_STAT.STATE = 5
      ∧ pend - (pend &&& d.rd Reg.USB_RWAKE.DONE) ≠ 0 ∧ d.usb.wake = .idle ∧ d.power.excursion ≠ some 0
    let leave := d.on Reg.USB_STAT.RWAKE_FEAT = true ∧ d.usb.before = 4
    (¬ may → exec .remoteWakeStart s = .next s)
    ∧ (may → ¬ leave → exec .remoteWakeStart s = s.gives (d.usbEvt 10))
    ∧ (may → leave → 2 ≤ d.mode → exec .remoteWakeStart s
        = s.gives ((d.wr Reg.USB_RWAKE.DONE 0 (d.rd Reg.USB_RWAKE.DONE ||| pend)).modUsb (fun u => { u with
            wake := .listen })))
    ∧ (may → leave → d.mode < 2 →
        let abandoned := if d.power.target ≤ 1 ∧ d.power.excursion = none then d.abandonEntry 2 else d
        let further := d.modPower (fun p => { p with wakeGoal := max p.wakeGoal 2 })
        ((d.power.step = .none ∨ (d.power.step = .committed ∧ d.power.wakeLate = false)) →
          exec .remoteWakeStart s = s.gives (d.raiseFrom 4 2))
        ∧ ((d.power.step = .rising ∨ (d.power.step = .committed ∧ d.power.wakeLate = true)
            ∨ (d.power.step = .entering ∧ d.power.target = 2)) → exec .remoteWakeStart s = s.gives further)
        ∧ ((d.power.step = .deferred ∨ d.power.step = .ready ∨ (d.power.step = .entering ∧ d.power.target ≠ 2)) →
          exec .remoteWakeStart s = s.gives abandoned))
    ∧ (d.usb.wake ≠ .listen → exec (.remoteWakeListenEnd bus) s = .next s)
    ∧ (d.usb.wake = .listen → exec (.remoteWakeListenEnd .sawK) s
        = s.gives ((d.modUsb (fun u => { u with wake := .idle })).usbEvt 7))
    ∧ (d.usb.wake = .listen → exec (.remoteWakeListenEnd .quiet) s
        = s.gives ((d.modUsb (fun u => { u with wake := .drive })).usbEvt 6))
    ∧ (d.usb.wake = .listen → exec (.remoteWakeListenEnd .met) s
        = s.gives ((d.modUsb (fun u => { u with wake := .met })).usbEvt 6))
    ∧ (d.usb.wake ≠ .drive → d.usb.wake ≠ .met → exec .remoteWakeDriveEnd s = .next s)
    ∧ ((d.usb.wake = .drive ∨ d.usb.wake = .met) → d.rd Reg.USB_STAT.STATE ≠ 5 → exec .remoteWakeDriveEnd s
        = s.gives (d.modUsb (fun u => { u with wake := .idle })))
    ∧ (d.usb.wake = .drive → d.rd Reg.USB_STAT.STATE = 5 → exec .remoteWakeDriveEnd s
        = s.gives (d.modUsb (fun u => { u with wake := .wait })))
    ∧ (d.usb.wake = .met → d.rd Reg.USB_STAT.STATE = 5 → exec .remoteWakeDriveEnd s
        = s.gives ((d.modUsb (fun u => { u with wake := .wait })).usbEvt 7))
    ∧ (d.usb.wake ≠ .wait → exec .remoteWakeNoAnswer s = .next s)
    ∧ (d.usb.wake = .wait → exec .remoteWakeNoAnswer s
        = s.gives ((d.modUsb (fun u => { u with wake := .idle })).usbEvt 11))
    ∧ ((d.power.grain = true ∨ d.power.devrst = true ∨ d.power.por = true) → exec (.consoleRequest line) s = .next s)
    ∧ (d.power.grain = false → d.power.devrst = false → d.power.por = false →
        let p := d.draw
        (64 < line.length → exec (.consoleRequest line) s = s.gives (p.2.sayLine (ascii "?")))
        ∧ (line.length ≤ 64 → ∀ l, p.2.consoleLog line = some l → exec (.consoleRequest line) s
          = s.gives (l.foldl Device.sayLine p.2))
        ∧ (line.length ≤ 64 → p.2.consoleLog line = none → ∀ facts, p.2.consoleFacts line = some facts →
          exec (.consoleRequest line) s
            = s.gives ((facts.map (fun fs => printable (Config.consoleText line fs p.1))).foldl Device.sayLine p.2))
        ∧ (line.length ≤ 64 → p.2.consoleLog line = none → p.2.consoleFacts line = none →
          exec (.consoleRequest line) s = s.gives (p.2.sayLine (ascii "?"))))

/-! ### The tile links -/

/-- R183 to R206: the rows of a tile link, by the state the link is in. A frame goes out in every state but DOWN and FAILED; a
frame that comes back tests a phase in TRAIN and is judged in CHECK, UP and REALIGN; a bad one in CHECK leads back to TRAIN;
each training state ends as its own rule says; a link that starts too slowly, or is held too long, fails; the sampling phase
steps to the side on which alone its neighbour passes; the inhibit clears after its
run of frames; and a telemetry entry is written, or dropped and counted, once its decimation is reached.
Readings of the model that this rests on: log entries 5, 25, 60, 61, 75. -/
def Obligations.LinkRowsAct : Prop :=
  ∀ (s : State) (t : Fin 16) (frame : BitVec 3000) (order : List (Fin 8)) (below above : Bool) (rtt : BitVec 10),
    let d := s.dev
    let st := d.lstate t
    let good := frameCrcOk frame && (d.tile t).echoOk frame
    let run := longestRun (fun p => decide (2 ≤ nth 0 ((order.map Fin.val).idxOf p) (d.tile t).trainHits))
    ((st = 0 ∨ st = 7) → exec (.outboundFrame t) s
      = s.gives (d.modTile t (fun x => { x with kill := 0, sent := 0 })))
    ∧ (st ≠ 0 → st ≠ 7 →
        let f := d.outbound t
        exec (.outboundFrame t) s = s.gives ((d.wr Reg.TL_STAT.ENERGISE t (b2n f.energise)).modTile t (fun x => { x with
          seq := f.seq, frames := x.frames + 1, kill := 0, clrFaults := false
          sent := BitVec.ofNat 1000 (bitsToNat f.bits), out := (⟨f.seq, f.duties⟩ :: x.out).take 4 })))
    ∧ (st ≠ 2 → st ≠ 3 → st ≠ 4 → st ≠ 5 → exec (.returnFrame t frame) s = .next s)
    ∧ (st = 2 → syncDiff frame = 0 → frameCrcOk frame = true → (d.tile t).frames ≠ 0 → exec (.returnFrame t frame) s
        = s.gives (d.modTile t (fun x => { x with
            trainHits := modNth (fun n => n + 1) ((x.frames - 1) / 2) x.trainHits })))
    ∧ (st = 2 → (syncDiff frame ≠ 0 ∨ frameCrcOk frame = false ∨ (d.tile t).frames = 0) →
        exec (.returnFrame t frame) s = .next s)
    ∧ (st = 3 → syncDiff frame ≤ 2 → good = true → exec (.returnFrame t frame) s
        = s.gives (((d.takeStatus t frame false).modTile t (fun x => { x with goodRun := x.goodRun + 1 })).takeFaults t
            (frameField frame 40 32)))
    ∧ (st = 3 → (2 < syncDiff frame ∨ good = false) → exec (.returnFrame t frame) s
        = s.gives ((d.badFrame t).setLstate t 2))
    ∧ (st = 4 → syncDiff frame ≤ 2 → good = true → exec (.returnFrame t frame) s = s.gives (d.acceptFrame t frame))
    ∧ (st = 4 → (2 < syncDiff frame ∨ good = false) →
        let a := (d.badFrame t).modTile t (fun x => { x with
          tag := .absent, syncLoss := if syncDiff frame ≤ 2 then 0 else x.syncLoss + 1 })
        exec (.returnFrame t frame) s = s.gives (if 2 ≤ (a.tile t).syncLoss then a.wr Reg.TL_STAT.LSTATE t 5
          else a.substitute t))
    ∧ (st = 5 → syncDiff frame = 0 → good = true → exec (.returnFrame t frame) s
        = s.gives ((((((d.wr Reg.TL_STAT.LSTATE t 4).modTile t (fun x => { x with syncDue := true })).count
            Reg.TL_CNT.REALIGN t).tlEvt t 2).occur 0x05 t).acceptFrame t frame))
    ∧ (st = 5 → (syncDiff frame ≠ 0 ∨ good = false) → exec (.returnFrame t frame) s = s.gives (d.badFrame t))
    ∧ (st = 1 → 8 ≤ (d.tile t).frames → exec (.linkWakeEnd t) s = s.gives (d.setLstate t 2))
    ∧ ((st ≠ 1 ∨ (d.tile t).frames < 8) → exec (.linkWakeEnd t) s = .next s)
    ∧ (st = 2 → 16 ≤ (d.tile t).frames → 3 ≤ run.2 → exec (.trainSweepEnd t order) s
        = s.gives (((d.wr Reg.TL_STAT.PHASE t ((run.1 + (run.2 - 1) / 2) % 8)).setLstate t 3).modTile t (fun x => { x with
            goodRun := 0, idSeen := 0 })))
    ∧ (st = 2 → 16 ≤ (d.tile t).frames → run.2 < 3 → exec (.trainSweepEnd t order) s = s.gives (d.setLstate t 2))
    ∧ ((st ≠ 2 ∨ (d.tile t).frames < 16) → exec (.trainSweepEnd t order) s = .next s)
    ∧ (st ≠ 3 → exec (.linkCheckEnd t rtt) s = .next s)
    ∧ (st = 3 →
        let a := d.wr Reg.TL_RTT.RTT_BITS t rtt.toNat
        let fit := 16 ≤ (d.tile t).goodRun ∧ (d.tile t).idSeen = 0xFFFF ∧ bitsOf (a.rd Reg.TL_ID2.BYTE t) 16 8 = 1
        ((rtt.toNat < 408 ∨ 468 < rtt.toNat) → exec (.linkCheckEnd t rtt) s = s.gives ((a.tlEvt t 6).setLstate t 2))
        ∧ (408 ≤ rtt.toNat → rtt.toNat ≤ 468 → fit → exec (.linkCheckEnd t rtt) s
            = s.gives (((((a.setLstate t 4).tlEvt t 0).wr Reg.TL_STAT.HELD_RUN t 0).wr Reg.TL_STAT.SETTLE_LEFT t 2).modTile t
                (fun x => { x with syncDue := true, firstValid := false, tag := .starting, substLeft := 0, syncLoss := 0 })))
        ∧ (408 ≤ rtt.toNat → rtt.toNat ≤ 468 → ¬ fit → exec (.linkCheckEnd t rtt) s = s.gives (a.setLstate t 2)))
    ∧ (st = 6 → 4 ≤ (d.tile t).frames →
        let a := (d.setLstate t 0).finishTiles
        let again := a.on Reg.TL_CTRL.EN t = true ∧ a.running = true ∧ ¬ (a.power.step = .entering ∧ a.power.goal ≤ 1)
        (again → exec (.linkStoppingEnd t) s = s.gives (a.startLink t))
        ∧ (¬ again → exec (.linkStoppingEnd t) s = s.gives a))
    ∧ ((st ≠ 6 ∨ (d.tile t).frames < 4) → exec (.linkStoppingEnd t) s = .next s)
    ∧ (let late := (st = 1 ∨ st = 2 ∨ st = 3) ∧ max 1 (d.rd Reg.TL_CFG.START_TMO t) * 40 ≤ (d.tile t).sinceDown;
        (late → exec (.startTimeout t) s
          = s.gives ((((d.setLstate t 7).tlEvt t 5).count Reg.TL_CNT.DOWN t).occur 0x06 t).finishTiles)
        ∧ (¬ late → exec (.startTimeout t) s = .next s))
    ∧ (let held := (st = 4 ∨ st = 5) ∧ min 40 (max 2 (d.rd Reg.TL_CFG.HOLD_MAX t)) ≤ d.rd Reg.TL_STAT.HELD_RUN t;
        (held → exec (.holdMaxReached t) s = s.gives (d.linkDown t)) ∧ (¬ held → exec (.holdMaxReached t) s = .next s))
    ∧ (let due := st = 4 ∧ d.on Reg.TL_CFG.TRACK_EN t = true ∧ 64 ≤ (d.tile t).frames
        let a := d.modTile t (fun x => { x with frames := 0 });
        (due → below = above → exec (.phaseTrack t ⟨below, above⟩) s = s.gives a)
        ∧ (due → below = false → above = true → exec (.phaseTrack t ⟨below, above⟩) s
            = s.gives (a.wr Reg.TL_STAT.PHASE t ((d.rd Reg.TL_STAT.PHASE t + 1) % 8)))
        ∧ (due → below = true → above = false → exec (.phaseTrack t ⟨below, above⟩) s
            = s.gives (a.wr Reg.TL_STAT.PHASE t ((d.rd Reg.TL_STAT.PHASE t + 7) % 8)))
        ∧ (¬ due → exec (.phaseTrack t ⟨below, above⟩) s = .next s))
    ∧ (let clear := d.on Reg.TL_STAT.INHIBIT t = true ∧ max 1 (d.rd Reg.TL_CFG.INH_CLR t) ≤ (d.tile t).clearRun;
        (clear → exec (.tileInhibitClear t) s = s.gives ((d.wr Reg.TL_STAT.INHIBIT t 0).tlEvt t 9))
        ∧ (¬ clear → exec (.tileInhibitClear t) s = .next s))
    ∧ (let due := d.on Reg.TL_CTRL.TEL_EN t = true ∧ 2 ^ d.rd Reg.TEL_CFG.DEC t ≤ (d.tile t).telCnt
        let full := d.ringTakes (80 + t) 32 1 = false
        let a := if full then (d.count Reg.TEL_DROPS.COUNT t).tlEvt t 12 else d.ringPush (80 + t) (d.telemetryBytes t);
        (due → exec (.telemetryEntry t) s = s.gives (a.modTile t (fun x => { x with
          telCnt := 0, telSum := List.replicate 10 0, telN := 0, telFlags := 0, telDrop := decide full })))
        ∧ (¬ due → exec (.telemetryEntry t) s = .next s))

/-! ### Converters, sensors, cameras, audio and fusion -/

/-- R108, R365 to R372, R379: a conversion that is due ends with its code: that of an urgent one in its completion, that of a scan
entry in its bushel or ring; a round that is due starts, or is an overrun; and the reference becomes ready once its time is
up. An SPI port's next command is sent in the gap of the loop period, if it ends 5 µs before the boundary, and moved to its
completion ring with what was received; one whose length cannot be sent is moved there as BAD_PARAM.
Readings of the model that this rests on: log entries 5, 38, 65. -/
def Obligations.ConverterRowsAct : Prop :=
  ∀ (s : State) (input : BitVec 40) (sub : Fin 32) (p : Fin 4) (received : List Byte),
    let d := s.dev
    let a := d.adc
    let flags (code : Int) : Nat := b2n a.unready + 2 * b2n a.vddaSeen + 4 * b2n (adcClipped code)
    ((a.converting = false ∨ (a.urgent = none ∧ a.entry = none)) → exec (.adcEntryDone input sub) s = .next s)
    ∧ (∀ u, a.converting = true → a.urgent = some u →
        let code := adcCode (d.adcGain u.channel) input.toInt
        exec (.adcEntryDone input sub) s = s.gives (((d.complete u.tag .ok false (leBytes 3 (toBits 24 code)
          ++ leBytes 1 (flags code + 16 * b2n u.interrupted) ++ leBytes 4 d.grain ++ leBytes 1 sub
          ++ leBytes 1 u.channel)).adcEvt 4).nextConversion))
    ∧ (∀ n, a.converting = true → a.urgent = none → a.entry = some n →
        let code := adcCode (d.adcGain n) input.toInt
        exec (.adcEntryDone input sub) s = s.gives (d.scanResult n sub (flags code + 8 * b2n a.resumed) code))
    ∧ ((d.on Reg.ADC_CTRL.SCAN_EN = false ∨ d.power.grain = true ∨ d.towardGrain = true) → exec .adcRoundDue s = .next s)
    ∧ (d.on Reg.ADC_CTRL.SCAN_EN = true → d.power.grain = false → d.towardGrain = false →
        (a.entry = none → a.urgent = none → exec .adcRoundDue s = s.gives d.startRound)
        ∧ (a.entry = none → a.urgent.isSome = true → a.dueHeld = false → exec .adcRoundDue s
            = s.gives (d.modAdc (fun x => { x with dueHeld := true })))
        ∧ (((a.entry = none ∧ a.urgent.isSome = true ∧ a.dueHeld = true)
            ∨ (a.entry.isSome = true ∧ d.rd Reg.SCAN_CFG.ROUND_PER ≠ 0 ∧ d.on Reg.SCAN_CFG.SINGLE = false)) →
            exec .adcRoundDue s = s.gives ((d.count Reg.ADC_OVERRUNS.COUNT).adcEvt 1))
        ∧ (a.entry.isSome = true → (d.rd Reg.SCAN_CFG.ROUND_PER = 0 ∨ d.on Reg.SCAN_CFG.SINGLE = true) →
            exec .adcRoundDue s = .next s))
    ∧ (a.refLeft = some 0 → exec .refReadySet s
        = s.gives ((d.modAdc (fun x => { x with refLeft := none })).wr Reg.ADC_STAT.REF_READY 0 1))
    ∧ (a.refLeft ≠ some 0 → exec .refReadySet s = .next s)
    ∧ (let ready := d.running = true ∧ d.on Reg.SPM_CTRL.EN p = true ∧ d.ringOn (136 + 2 * p) = true
          ∧ d.ringCount (136 + 2 * p) ≠ 0 ∧ d.ringTakes (137 + 2 * p) 32 1 = true
        let e := d.bytes (d.ringAddr (136 + 2 * p) (d.rd Reg.RING_CI.CI (136 + 2 * p))) 32
        let len := jobByte e 1
        let cont := bitOf (jobByte e 0) 2
        let used := (nth ⟨0, [], 0, []⟩ p d.spm).used
        let fit' := 1 ≤ len ∧ len ≤ 24 ∧ len % d.spiWordBytes p = 0
        let sent : Device := { d with spm := modNth (fun x => { x with
          used := x.used + d.spiCycles p len cont, sel := jobByte e 0 % 4
          bursts := spiBursts (d.spiWordBytes p) cont ((e.drop 4).take len) }) p d.spm }
        let b (x : Device) : Device := x.count Reg.RING_CI.CI (136 + 2 * p);
        (ready → fit' → used + d.spiCycles p len cont ≤ 4000 → exec (.spiTransfer p received) s
          = s.gives ((b sent).ringPush (137 + 2 * p)
            (e.take 2 ++ [0x00, 0x00] ++ fit 24 (received.take len) ++ leBytes 4 (b sent).loops)))
        ∧ (ready → fit' → 4000 < used + d.spiCycles p len cont → exec (.spiTransfer p received) s = .next s)
        ∧ (ready → ¬ fit' → used ≤ 4000 → exec (.spiTransfer p received) s = s.gives ((b d).ringPush (137 + 2 * p)
          (e.take 2 ++ leBytes 2 Status.badParam.code ++ fit 24 [] ++ leBytes 4 (b d).loops)))
        ∧ (ready → ¬ fit' → 4000 < used → exec (.spiTransfer p received) s = .next s)
        ∧ (¬ ready → exec (.spiTransfer p received) s = .next s))

/-- R16, R388 to R397, R402 to R408, R412 to R421: frames, pyramids, corner lists, vector fields and neural jobs. A frame
starts where its camera is enabled in FULL and no frame of it is under way: it takes a slot, or is dropped and counted for
want of one; each of the machines takes the next of its queue, and ends what it has with its output, its flags and its
events. A row with nothing to start or to end has no effect. What perception writes changes its buffer alone, and nothing
in the chain memory.
Readings of the model that this rests on: log entries 10, 40, 59. -/
def Obligations.PerceptionRowsAct : Prop :=
  ∀ (s : State) (c : Fin 2) (r : FrameReport) (mm : List (BitVec 14)) (job : JobReport),
    let d := s.dev
    ((d.on Reg.CAM_CTRL.EN c = false ∨ d.full = false ∨ d.on Reg.CAM_STAT.CSI_LASTING c = true
        ∨ (d.cam c).receiving.isSome = true) → exec (.csiFrameStart c) s = .next s)
    ∧ (d.on Reg.CAM_CTRL.EN c = true → d.full = true → d.on Reg.CAM_STAT.CSI_LASTING c = false →
        (d.cam c).receiving = none →
        let f : Frame := ⟨c, 0, (d.cam c).seq, d.ptime, d.ptime⟩
        let a := (d.modCam c (fun x => { x with seq := x.seq + 1 })).wr Reg.CAM_SEQ.SEQ c ((d.cam c).seq + 1)
        (a.freeSlot c = none → exec (.csiFrameStart c) s
          = s.gives (((a.count Reg.CAM_DROPS.NO_SLOT c).camEvt c 1).frameEvent f 0xFF 4 0))
        ∧ (∀ k, a.freeSlot c = some k → exec (.csiFrameStart c) s
          = s.gives (((((a.claimFlag (frameFlag c k) c f.seq).modCam c (fun x => { x with
              receiving := some { f with slot := k }, last := some k })).wr Reg.CAM_STAT.SLOT c k).wr
              Reg.CAM_STAT.STATE c 3))))
    ∧ ((d.cam c).receiving = none → exec (.csiFrameEnd c r) s = .next s)
    ∧ ((d.cam c).receiving.isSome = true → exec (.csiFrameEnd c r) s = s.gives (d.frameEnd c r)
        ∧ ((d.frameEnd c r).cam c).receiving = none)
    ∧ (∀ f rest, d.perc.pyrNow = none → d.perc.pyrQueue = f :: rest → d.full = true → exec .pyramidStart s
        = s.gives ((d.claimFlag (pyrFlag f.cam f.slot) 2 f.seq).modPerc (fun q => { q with
            pyrNow := some f, pyrQueue := rest })))
    ∧ ((d.perc.pyrNow.isSome = true ∨ d.perc.pyrQueue = [] ∨ d.full = false) → exec .pyramidStart s = .next s)
    ∧ (d.perc.pyrNow = none → exec .pyramidDone s = .next s)
    ∧ (∀ f, d.perc.pyrNow = some f →
        let a := (List.range (d.camLevels f.cam)).foldl (fun e k =>
          e.perceptionWrite (e.levelAddr f.cam f.slot (k + 1)) (e.pyramidLevel f.cam f.slot (k + 1))) d
        let b := a.forwardFlag (frameFlag f.cam f.slot) 2 (a.cam f.cam).set.frameReaders
        let e := (b.publishFlag (pyrFlag f.cam f.slot) (b.cam f.cam).set.pyrReaders).modPerc
          (fun q => { q with pyrNow := none })
        exec .pyramidDone s
          = s.gives ((e.giveAll (frameFlag f.cam f.slot) false f).giveAll (pyrFlag f.cam f.slot) true f))
    ∧ ((d.full = false ∨ nth [] c d.perc.cornerQ = []) → exec (.cornerListDone c) s = .next s)
    ∧ (∀ f rest, d.full = true → nth [] c d.perc.cornerQ = f :: rest → exec (.cornerListDone c) s
        = s.gives (d.cornersDone c))
    ∧ ((d.full = false ∨ d.perc.matcher.current = none) → exec (.bmFieldDone mm) s = .next s)
    ∧ (d.full = true → d.perc.matcher.current.isSome = true → exec (.bmFieldDone mm) s
        = s.gives (d.bmDone (mm.map (·.toNat))))
    ∧ ((d.on Reg.NE_CTRL.EN = false ∨ d.full = false ∨ d.perc.job.isSome = true) → exec .neJobStart s = .next s)
    ∧ (d.on Reg.NE_CTRL.EN = true → d.full = true → d.perc.job = none →
        let a := (List.range 3).foldl (fun e q => e.checkHeads q (e.jobEntries q).length) d
        (a.pickQueue = none → exec .neJobStart s = s.gives a)
        ∧ (∀ q, a.pickQueue = some q → q ≠ 3 → exec .neJobStart s
            = s.gives (if (a.startHead q).rd Reg.NE_STAT.ACTIVE = 0 then (a.startHead q).jobDown else a.startHead q))
        ∧ (∀ seg frames final, a.pickQueue = some 3 → a.waitingSpotter = some (seg, frames, final) →
            let b := a.startSpotter seg (frames, final)
            exec .neJobStart s = s.gives (if b.rd Reg.NE_STAT.ACTIVE = 0 then b.jobDown else b)))
    ∧ (d.perc.job = none → exec (.neJobDone job) s = .next s)
    ∧ (∀ j, d.perc.job = some j → j.doomed = true → exec (.neJobDone job) s = s.gives d.jobDown)
    ∧ (∀ j seg, d.perc.job = some j → j.doomed = false → j.spotter = some seg →
        let a := (d.tileMismatches (job.mismatch.map (·.val))).modPerc (fun q => { q with job := none })
        let b := ((a.refreshNe.count Reg.NE_RUNS.COUNT).count Reg.RING_PI.PI 119).count Reg.RING_CI.CI 119
        exec (.neJobDone job) s = s.gives (((b.latchEvent 343).neEvt 0).spotterEnded seg
          (some (nth 0 0 job.scores).toNat)))
    ∧ (∀ j, d.perc.job = some j → j.doomed = false → j.spotter = none →
        (d.container (jobByte j.bytes 0) = none → exec (.neJobDone job) s = s.gives d.jobDown)
        ∧ (∀ x, d.container (jobByte j.bytes 0) = some x → exec (.neJobDone job) s = s.gives (d.jobDone job)))
    ∧ (∀ (a : Nat) (bs : List Byte) (x : Nat), (x < a ∨ a + bs.length ≤ x ∨ (0x10080000 ≤ x ∧ x < 0x100E4000)) →
        (d.perceptionWrite a bs).byte x = d.byte x)

/-- R432 to R446: the rows of the audio front end. A 10 ms frame is taken while AUD_EN is set; on FULL the segment is copied once;
each hop of the copied segment places a spotter job, and its end the last one; a score at or above HIT_THR is HIT, a final one
below it NO_HIT; a deferral that runs out is ABORTED; a stuck microphone is reported once.
R456 to R470: a fusion cycle runs while fusion is enabled in FULL; an advisory whose hold has expired falls to what is found
and is written; a stream older than its limit is reported.
Readings of the model that this rests on: log entries 10, 41, 42. -/
def Obligations.AudioAndFusionRowsAct : Prop :=
  (∀ (s : State) (mics : List (List (BitVec 16))) (m : Fin 4),
      let d := s.dev
      ((d.on Reg.AUD_CTRL.AUD_EN = false ∨ d.power.devrst = true) → exec (.vadFrame mics) s = .next s)
      ∧ (d.on Reg.AUD_CTRL.AUD_EN = true → d.power.devrst = false → exec (.vadFrame mics) s = s.gives (d.audioFrame mics))
      ∧ ((d.mode ≠ 3 ∨ ∀ g, d.audio.seg = some g → g.copied = true) → exec .segmentCopy s = .next s)
      ∧ (∀ g, d.mode = 3 → d.audio.seg = some g → g.copied = false →
          let a := (d.perceptionWrite d.segBase (d.preFrames g.len)).modSeg (fun x => { x with copied := true })
          exec .segmentCopy s = s.gives (if g.ended then a else a.setFlag 32 1 (2 ^ 8)))
      ∧ (d.audio.seg = none → exec .kwsJobDue s = .next s ∧ exec .kwsVerdict s = .next s)
      ∧ (∀ g, d.audio.seg = some g →
          ((g.copied = false ∨ g.final = true) → exec .kwsJobDue s = .next s)
          ∧ (g.copied = true → g.final = false → g.ended = true → exec .kwsJobDue s
              = s.gives (if d.spotterRuns then d.placeJob g.len true else d.verdict 3))
          ∧ (g.copied = true → g.final = false → g.ended = false → g.placed < g.len / d.hop * d.hop → exec .kwsJobDue s
              = s.gives (if d.spotterRuns then d.placeJob (g.len / d.hop * d.hop) false else d.verdict 3))
          ∧ (g.copied = true → g.final = false → g.ended = false → g.len / d.hop * d.hop ≤ g.placed →
              exec .kwsJobDue s = .next s)
          ∧ (g.result = none → exec .kwsVerdict s = .next s)
          ∧ (∀ frames final, g.result = some (frames, final) →
            (d.rd Reg.KWS_CFG.HIT_THR ≤ g.score → exec .kwsVerdict s
              = s.gives ((d.modSeg (fun x => { x with len := frames, ended := true })).verdict 1))
            ∧ (g.score < d.rd Reg.KWS_CFG.HIT_THR → final = true → exec .kwsVerdict s = s.gives (d.verdict 0))
            ∧ (g.score < d.rd Reg.KWS_CFG.HIT_THR → final = false → exec .kwsVerdict s
              = s.gives (d.modSeg (fun x => { x with result := none })))))
      ∧ (exec .kwsDeferralTimeout s = s.gives (if d.audio.deferring then d.verdict 2 else d))
      ∧ (let stuck := d.on Reg.AUD_CTRL.AUD_EN = true ∧ bitOf (d.rd Reg.AUD_CFG.MIC_EN) m = true
            ∧ bitOf (d.rd Reg.AUD_STAT.STUCK) m = false;
          (stuck → exec (.micStuck m) s
            = s.gives (((d.wr Reg.AUD_STAT.STUCK 0 (setBitOf (d.rd Reg.AUD_STAT.STUCK) m)).audEvt 5).occur 0x0E m))
          ∧ (¬ stuck → exec (.micStuck m) s = .next s)))
  ∧ (∀ (s : State) (c k : Fin 8),
      let d := s.dev
      ((d.on Reg.FUS_CTRL.EN = false ∨ d.full = false) →
        exec .fusionCycle s = .next s ∧ exec (.advisoryHoldExpiry c) s = .next s ∧ exec (.streamAgeLimit k) s = .next s)
      ∧ (d.on Reg.FUS_CTRL.EN = true → d.full = true →
        (let plain (l : List Track) : List Track := l.map (fun t => { t with assigned := false, born := false })
          let a := (d.modFusion (fun u => { u with cycle := d.ptime })).clearTracks
          let b := ((a.modFusion (fun u => { u with tracks := plain u.tracks })).sampleStreams.updateEgos).takeLists
          let e := (List.range 8).foldl (fun x j => x.advise j) (b.2.foldl Device.associate b.1)
          let f := if e.on Reg.FUS_CFG2.TRK_EN && plain e.fusion.tracks != plain d.fusion.tracks
            then e.writeReport (b.2.foldl (fun m l => m ||| 2 ^ l.stream) 0) else e
          exec .fusionCycle s = s.gives (((List.range 8).foldl (fun x j => x.placeImu j) f).refreshAges.publish true))
        ∧ (let due := d.on Reg.ADV_CFG.EN c = true ∧ 0 < (d.adv c).hold
              ∧ d.rd Reg.ADV_CLEAR.HOLD_MS c ≤ (d.adv c).hold - 1;
            (due → exec (.advisoryHoldExpiry c) s
              = s.gives (((d.setLevel c (d.adv c).found (d.advFound c).2).advWrite c).publish true))
            ∧ (¬ due → exec (.advisoryHoldExpiry c) s = .next s))
        ∧ (let old := d.streamKind k ≠ 0 ∧ d.rd Reg.STR_CFG.AGE_LIM k ≠ 0
              ∧ d.rd Reg.STR_CFG.AGE_LIM k * 1000 < d.streamAge k;
            (old → exec (.streamAgeLimit k) s = s.gives (d.fusEvt 6))
            ∧ (¬ old → exec (.streamAgeLimit k) s = .next s))))

/-! ### Temperature, fans, keeping and recovery -/

/-- R474 to R500: a sample is read and held against the three thresholds of its sensor; an output that has stayed changed for its
dwell follows; a hover ends after its quiet window; and a fan goes through its kick, wait, running and failed states.
Readings of the model that this rests on: log entries 5, 39. -/
def Obligations.ThermalRowsAct : Prop :=
  ∀ (s : State) (reading edges : BitVec 16) (t : Fin 16) (x : Fin 25) (k : Fin 3) (f : Fin 6),
    let d := s.dev
    let st := d.rd Reg.FAN_STAT.STATE f
    (let a := (d.modSensor 0 (fun r => { r with fresh := false, since := satInc 16 r.since })).wr Reg.TH_STAT.READING 0
          (toBits 16 (sext 16 reading.toNat))
      let fresh := (d.sensor 0).fresh
      exec (.dieTempSample reading) s
        = s.gives (((a.sampleThreshold 0 fresh 0).sampleThreshold 0 fresh 1).sampleThreshold 0 fresh 2))
    ∧ (let a := d.modSensor (1 + t) (fun r => { r with acc := 0, n := 0 });
        (a.lstate t ≠ 4 → exec (.tileTempSample t) s = s.gives a)
        ∧ (a.lstate t = 4 → (d.sensor (1 + t)).n = 0 → exec (.tileTempSample t) s = s.gives (a.thEvt (1 + t) 7))
        ∧ (a.lstate t = 4 → (d.sensor (1 + t)).n ≠ 0 → exec (.tileTempSample t) s
            = s.gives (a.takeSample (1 + t) (divZ (d.sensor (1 + t)).acc (d.sensor (1 + t)).n))))
    ∧ (let h := d.threshold x k
        let due := ∃ t0, h.since = some t0 ∧ h.raw ≠ h.out ∧ h.hover = false ∧ d.dwellTenths x ≤ (d.grain - t0) * 10;
        (due → exec (.thresholdDwellDone x k) s = s.gives (d.setOutput x k h.raw))
        ∧ (¬ due → exec (.thresholdDwellDone x k) s = .next s))
    ∧ (let h := d.threshold x k
        let due := h.hover = true ∧ d.scrWindow (0x10 + k) ≤ d.grain - h.lastCross.getD 0;
        (due → exec (.hoverQuietWindow x k) s
          = s.gives ((((d.modThreshold x k (fun y => { y with hover := false })).refreshTh x).clearLatch (0x10 + k)
              x).setOutput x k h.raw))
        ∧ (¬ due → exec (.hoverQuietWindow x k) s = .next s))
    ∧ (st ≠ 2 → exec (.fanKickEnd f edges) s = .next s)
    ∧ (st = 2 → 2 ≤ edges.toNat → exec (.fanKickEnd f edges) s
        = s.gives ((d.setFan f 4 ((d.fan f).openLoop (d.rd Reg.FAN_SPEED.TARGET f))).boostFans))
    ∧ (st = 2 → edges.toNat < 2 → d.rd Reg.FAN_STAT.ATTEMPT f = 3 → exec (.fanKickEnd f edges) s
        = s.gives (d.classifyFan f))
    ∧ (st = 2 → edges.toNat < 2 → d.rd Reg.FAN_STAT.ATTEMPT f ≠ 3 → exec (.fanKickEnd f edges) s
        = s.gives (d.setFan f 3 0))
    ∧ (st ≠ 3 → exec (.fanWaitEnd f) s = .next s)
    ∧ (st = 3 → exec (.fanWaitEnd f) s = s.gives (if d.rd Reg.FAN_STAT.CLASS f = 4 then d.startFan f
        else d.kickFan f (d.rd Reg.FAN_STAT.ATTEMPT f + 1)))
    ∧ ((st ≠ 4 ∨ d.rd Reg.FAN_STAT.DUTY f ≤ 200) → exec (.fanTachSilent f) s = .next s)
    ∧ (st = 4 → 200 < d.rd Reg.FAN_STAT.DUTY f →
        let turning := ∃ code clip, d.fanCurrent f 65536 = some (code, clip)
          ∧ sext 24 (d.rd Reg.FAN_OPEN.I_OPEN f) ≤ code ∧ code ≤ sext 24 (d.rd Reg.FAN_STALL.I_STALL f) ∧ clip = false
        (turning → exec (.fanTachSilent f) s
          = s.gives (((((d.wr Reg.FAN_STAT.CLASS f 5).setFan f 5 ((d.fan f).openLoop (d.rd Reg.FAN_SPEED.TARGET f))).fanEvt f
              3).occur 0x16 f).boostFans))
        ∧ (¬ turning → exec (.fanTachSilent f) s
          = s.gives ((((d.wr Reg.FAN_STAT.CLASS f 4).setFan f 3 0).fanEvt f 2).occur 0x15 f)))
    ∧ ((d.on Reg.FAN_CTRL.EN f = false ∨ d.power.grain = true ∨ d.power.devrst = true) →
        exec (.fanUpdate f edges) s = .next s)
    ∧ (d.on Reg.FAN_CTRL.EN f = true → d.power.grain = false → d.power.devrst = false →
        let rpm := d.fanRpm f edges.toNat
        let target := d.fanTarget f
        let a := (d.wr Reg.FAN_SPEED.RPM f rpm).wr Reg.FAN_SPEED.TARGET f target
        (st = 6 → exec (.fanUpdate f edges) s = s.gives a)
        ∧ (st ≠ 6 → target = 0 → exec (.fanUpdate f edges) s = s.gives ((a.setFan f 1 0).boostFans))
        ∧ (st = 1 → target ≠ 0 → exec (.fanUpdate f edges) s = s.gives (a.startFan f))
        ∧ (st = 4 → target ≠ 0 →
            let b := a.modFan f (fun y => y.learn (a.rd Reg.FAN_STAT.DUTY f) rpm)
            exec (.fanUpdate f edges) s = s.gives ((b.wr Reg.FAN_STAT.DUTY f (b.fanLoop f rpm target)).boostFans))
        ∧ (st = 5 → target ≠ 0 → 2 ≤ (a.fan f).edges + edges.toNat → exec (.fanUpdate f edges) s
            = s.gives ((((((a.wr Reg.FAN_STAT.CLASS f 0).setFan f 4 (a.rd Reg.FAN_STAT.DUTY f))).fanEvt f 4).clearLatch 0x16
                f).boostFans))
        ∧ (st = 5 → target ≠ 0 → (a.fan f).edges + edges.toNat < 2 → exec (.fanUpdate f edges) s
            = s.gives (((a.wr Reg.FAN_STAT.DUTY f ((a.fan f).openLoop target)).modFan f (fun y => { y with
                edges := edges.toNat })).boostFans))
        ∧ ((st = 0 ∨ st = 2 ∨ st = 3 ∨ st = 7) → target ≠ 0 → exec (.fanUpdate f edges) s = s.gives a))

/-- R503 to R520, R529, R552, R556, R561 to R565: a line of the boot store is written for the store, or else the image, under way;
the next record is appended where there is room, after a mark for those that were lost; a warned store stops at its safe
point; the checker's self test returns it to service or fails it; a unit whose count has reached N turns lasting; and an
interrupt pulse ends.
Readings of the model that this rests on: log entries 5, 13, 35, 37. -/
def Obligations.KeepingAndRecoveryRowsAct : Prop :=
  ∀ (s : State) (ok pass : Bool) (cls : Fin 25) (unit : Fin 68) (n : Fin 4),
    let d := s.dev
    (d.keep.store = none → d.keep.img = none → exec (.mramLineDone ok) s = .next s)
    ∧ (∀ r a bs rest, d.keep.store = some r → r.lines = (a, bs) :: rest →
        let q := { r with lines := rest, written := r.written + 1 }
        let e := ((if ok then d.writeLine a bs else d.tearLine a bs).wr Reg.STORE_STAT.LINES 0 q.written).modKeep
          (fun k => { k with store := some q })
        exec (.mramLineDone ok) s = s.gives (if ok = false then e.storeBadLine q
          else if rest = [] then e.storeDone q else if q.stopping ≠ 0 then e.storeStopped q else e))
    ∧ (∀ r a bs rest, d.keep.store = none → d.keep.img = some r → r.lines = (a, bs) :: rest →
        let q := { r with lines := rest }
        let e := (if ok then d.writeLine a bs else d.tearLine a bs).modKeep (fun k => { k with img := some q })
        exec (.mramLineDone ok) s = s.gives (if ok = false then (e.occur 0x17 0).endImage q .badParam 0x0B
          else if rest = [] then (e.imgEvt 0).endImage q .ok 0
          else if q.stopping ≠ 0 then e.endImage q .aborted 0x0C else e))
    ∧ ((d.keep.queue = [] ∨ d.mramReady = false) → exec .recordAppend s = .next s)
    ∧ (d.keep.queue ≠ [] → d.mramReady = true → d.recordRoom = false → exec .recordAppend s
        = s.gives (if bitOf (d.rd Reg.STORE_EVT.CAUSE) 5 then d else (d.storeEvt 5).occur 0x18 0))
    ∧ (d.keep.queue ≠ [] → d.mramReady = true → d.recordRoom = true → d.rd Reg.REC_QUEUE.LOST ≠ 0 → exec .recordAppend s
        = s.gives ((d.wr Reg.REC_QUEUE.LOST 0 0).appendEntry 0x0072 d.grain (leBytes 4 0
            ++ leBytes 4 (d.rd Reg.REC_QUEUE.LOST))))
    ∧ (∀ c rest, d.keep.queue = c :: rest → d.mramReady = true → d.recordRoom = true → d.rd Reg.REC_QUEUE.LOST = 0 →
        let e := ((d.modKeep (fun k => { k with queue := rest })).refreshQueue).appendEntry c.type c.grain c.data
        (c.task = none → exec .recordAppend s = s.gives e)
        ∧ (∀ tag, c.task = some tag → exec .recordAppend s = s.gives (e.ok tag false (leBytes 4 d.recHead))))
    ∧ (let due := ∃ r, d.keep.store = some r ∧ r.stopping ≠ 0 ∧ 1 < r.lines.length;
        (due → exec .storeSafePoint s = exec (.mramLineDone true) s) ∧ (¬ due → exec .storeSafePoint s = .next s))
    ∧ (d.events.checker.suspect = false → exec (.checkerSelfTest pass) s = .next s)
    ∧ (d.events.checker.suspect = true →
        exec (.checkerSelfTest true) s = s.gives (d.events.checker.heldRetire.foldl (fun e u => e.retireEngine u)
          ((d.modChecker (fun k => { k with suspect := false, mismatches := [], heldRetire := [] })).wr Reg.CHK_STAT.STATE
            0 0))
        ∧ exec (.checkerSelfTest false) s = s.gives d.checkerFails)
    ∧ ((d.scrUnit cls unit).due = true → exec (.scrupleLasting cls unit) s
        = s.gives ((d.latchUnit cls unit).lastingEffect cls unit))
    ∧ ((d.scrUnit cls unit).due = false → exec (.scrupleLasting cls unit) s = .next s)
    ∧ (exec (.intPulseEnd n) s
        = s.gives (d.modEvents (fun v => { v with ints := modNth IntGen.pulseEnd n v.ints })).refreshInts)

/-! ### Links and reserved events -/

/-- R35: the offset of a finite link at the whole tick τ is the integer nearest to the Hermite segment's value, ties away from
zero; it is 0 at the start and exactly D · 2^24 at τ = T. -/
def Obligations.LinkOffsetIsTheNearestInteger : Prop :=
  ∀ (l : Link) (v0 : Int) (tau : Nat), l.unbounded = false → l.duration ≠ 0 → tau ≤ l.duration →
    let x : Int := tau
    let u : Int := l.duration
    let num : Int := l.delta * 2 ^ 24 * (3 * x ^ 2 * u - 2 * x ^ 3)
      + 2 ^ 8 * u * (v0 * (x ^ 3 - 2 * x ^ 2 * u + x * u ^ 2) + l.endVel * (x ^ 3 - x ^ 2 * u))
    let off := l.offset v0 (tau * 65535)
    2 * (off * u ^ 3 - num).natAbs ≤ l.duration ^ 3
    ∧ (2 * (off * u ^ 3 - num).natAbs = l.duration ^ 3 → num.natAbs < off.natAbs * l.duration ^ 3)
    ∧ (tau = 0 → off = 0) ∧ (tau = l.duration → off = l.delta * 2 ^ 24)

/-- R549: the events are those of Table 19.1; any other number is reserved: it never latches, its routing byte reads 0, and
writes to that byte are ignored, whether they come from the bus or from EVT_ROUTE. -/
def Obligations.ReservedEventsNeverLatch : Prop :=
  (∀ e : Nat, eventListed e = true ↔
    (e = 0 ∨ e = 4 ∨ (8 ≤ e ∧ e ≤ 10) ∨ e = 12 ∨ e = 16 ∨ e = 17 ∨ e = 20 ∨ (32 ≤ e ∧ e ≤ 35) ∨ e = 48
      ∨ (∃ n < 64, e = 64 + 2 * n ∨ e = 65 + 2 * n) ∨ (∃ k < 68, e = 192 + k) ∨ (∃ t < 16, e = 260 + 2 * t ∨ e = 261 + 2 * t)
      ∨ (∃ n < 40, e = 292 + n) ∨ (332 ≤ e ∧ e ≤ 343) ∨ (352 ≤ e ∧ e ≤ 359) ∨ (360 ≤ e ∧ e ≤ 365) ∨ (376 ≤ e ∧ e ≤ 399)
      ∨ e = 400 ∨ e = 401 ∨ e = 416 ∨ e = 417 ∨ (432 ≤ e ∧ e ≤ 511)))
  ∧ (∀ (d : Device) (e : Nat), eventListed e = false →
      d.latchEvent e = d ∧ d.route e = 0 ∧ (∀ v, d.setRoute e v = d))
  ∧ (∀ e < 512, eventListed e = false →
      bitsOf (State.reset.dev.busField Reg.EV_ROUTE.ROUTE (e / 4)) (8 * (e % 4)) 8 = 0)
  ∧ (∀ (s t : State) (i : Fin 128) (v : Word) (e : Nat), e < 512 → eventListed e = false →
      exec (.registerWrite (BitVec.ofNat 32 (0x1000 + 4 * i)) v) s = .next t →
      bitsOf (t.dev.busField Reg.EV_ROUTE.ROUTE (e / 4)) (8 * (e % 4)) 8
        = bitsOf (s.dev.busField Reg.EV_ROUTE.ROUTE (e / 4)) (8 * (e % 4)) 8)
  ∧ (∀ (s t : State) (en : Entry) (e : Nat), e < 512 → eventListed e = false → s.dev.accepts 0x0D03 en →
      exec (.evtRoute en) s = .next t →
      bitsOf (t.dev.busField Reg.EV_ROUTE.ROUTE (e / 4)) (8 * (e % 4)) 8
        = bitsOf (s.dev.busField Reg.EV_ROUTE.ROUTE (e / 4)) (8 * (e % 4)) 8)
end

