-- ==== Sys2Proof/Laws/Frames.lean ====
section
/-! SUPPORT. What the shared operations can change: for each one lemma that says which parts of the device it leaves
as they were. The prover cites it where an event is latched, an occurrence counted, a record queued or a task completed. -/
set_option linter.unusedTactic false
set_option linter.unreachableTactic false

namespace Sys2Proof.Machine

/-- `e` differs from `d` at most in the registers, the memory, the event fabric and the USB port: what a report of an
event touches. -/
structure Device.reports (d e : Device) : Prop where
  staged : e.staged = d.staged
  latches : e.latches = d.latches
  busRead : e.busRead = d.busRead
  tables : e.tables = d.tables
  sched : e.sched = d.sched
  axes : e.axes = d.axes
  sdi : e.sdi = d.sdi
  spm : e.spm = d.spm
  tiles : e.tiles = d.tiles
  cyclic : e.cyclic = d.cyclic
  console : e.console = d.console
  power : e.power = d.power
  adc : e.adc = d.adc
  perc : e.perc = d.perc
  audio : e.audio = d.audio
  fusion : e.fusion = d.fusion
  sensors : e.sensors = d.sensors
  fans : e.fans = d.fans
  keep : e.keep = d.keep
  pads : e.pads = d.pads
  free : e.free = d.free

theorem Device.reports_refl (d : Device) : d.reports d := by constructor <;> rfl

theorem Device.reports.trans {a b c : Device} (h : a.reports b) (k : b.reports c) : a.reports c := by
  cases h; cases k; constructor <;> simp_all

/-- `e` differs from `d` at most in what a report touches and in the scheduler. -/
structure Device.schedules (d e : Device) : Prop where
  staged : e.staged = d.staged
  latches : e.latches = d.latches
  busRead : e.busRead = d.busRead
  tables : e.tables = d.tables
  axes : e.axes = d.axes
  sdi : e.sdi = d.sdi
  spm : e.spm = d.spm
  tiles : e.tiles = d.tiles
  cyclic : e.cyclic = d.cyclic
  console : e.console = d.console
  power : e.power = d.power
  adc : e.adc = d.adc
  perc : e.perc = d.perc
  audio : e.audio = d.audio
  fusion : e.fusion = d.fusion
  sensors : e.sensors = d.sensors
  fans : e.fans = d.fans
  keep : e.keep = d.keep
  pads : e.pads = d.pads
  free : e.free = d.free

theorem Device.schedules_refl (d : Device) : d.schedules d := by constructor <;> rfl

theorem Device.schedules.trans {a b c : Device} (h : a.schedules b) (k : b.schedules c) : a.schedules c := by
  cases h; cases k; constructor <;> simp_all

/-- `e` differs from `d` at most in what a report touches, the keeping machine, the console and the model's counter. -/
structure Device.keeps (d e : Device) : Prop where
  staged : e.staged = d.staged
  latches : e.latches = d.latches
  busRead : e.busRead = d.busRead
  tables : e.tables = d.tables
  sched : e.sched = d.sched
  axes : e.axes = d.axes
  sdi : e.sdi = d.sdi
  spm : e.spm = d.spm
  tiles : e.tiles = d.tiles
  cyclic : e.cyclic = d.cyclic
  power : e.power = d.power
  adc : e.adc = d.adc
  perc : e.perc = d.perc
  audio : e.audio = d.audio
  fusion : e.fusion = d.fusion
  sensors : e.sensors = d.sensors
  fans : e.fans = d.fans
  pads : e.pads = d.pads

theorem Device.keeps_refl (d : Device) : d.keeps d := by constructor <;> rfl

theorem Device.keeps.trans {a b c : Device} (h : a.keeps b) (k : b.keeps c) : a.keeps c := by
  cases h; cases k; constructor <;> simp_all

theorem Device.schedules_of_reports {d e : Device} (h : d.reports e) : d.schedules e := by
  cases h; constructor <;> assumption

theorem Device.keeps_of_reports {d e : Device} (h : d.reports e) : d.keeps e := by
  cases h; constructor <;> assumption

/-! ### Reports -/

theorem Device.wr_reports (d : Device) (f : Field) (i v : Nat) : d.reports (d.wr f i v) := by constructor <;> rfl

theorem Device.modEvents_reports (d : Device) (f : Events → Events) : d.reports (d.modEvents f) := by constructor <;> rfl

theorem Device.modUsb_reports (d : Device) (f : Usb → Usb) : d.reports (d.modUsb f) := by constructor <;> rfl

theorem Device.put_reports (d : Device) (a : Nat) (bs : List Byte) : d.reports (d.put a bs) := by constructor <;> rfl

theorem Device.countSat_reports (d : Device) (f : Field) (i : Nat) : d.reports (d.countSat f i) := d.wr_reports ..

theorem Device.ringPut_reports (d : Device) (r : Nat) (bs : List Byte) : d.reports (d.ringPut r bs) := by
  unfold Device.ringPut
  try dsimp only
  repeat' first
    | with_reducible exact Device.reports_refl _
    | with_reducible refine Device.reports.trans ?_ (Device.countSat_reports ..)
    | with_reducible refine Device.reports.trans ?_ (Device.put_reports ..)
    | with_reducible refine Device.reports.trans ?_ (Device.modUsb_reports ..)
    | with_reducible refine Device.reports.trans ?_ (Device.modEvents_reports ..)
    | with_reducible refine Device.reports.trans ?_ (Device.wr_reports ..)
    | split

theorem Device.logEvent_reports (d : Device) (e : Nat) : d.reports (d.logEvent e) := by
  unfold Device.logEvent
  try dsimp only
  repeat' first
    | with_reducible exact Device.reports_refl _
    | with_reducible refine Device.reports.trans ?_ (Device.ringPut_reports ..)
    | with_reducible refine Device.reports.trans ?_ (Device.countSat_reports ..)
    | with_reducible refine Device.reports.trans ?_ (Device.put_reports ..)
    | with_reducible refine Device.reports.trans ?_ (Device.modUsb_reports ..)
    | with_reducible refine Device.reports.trans ?_ (Device.modEvents_reports ..)
    | with_reducible refine Device.reports.trans ?_ (Device.wr_reports ..)
    | split

theorem Device.refreshSum_reports (d : Device)  : d.reports (d.refreshSum ) := by
  unfold Device.refreshSum
  try dsimp only
  repeat' first
    | with_reducible exact Device.reports_refl _
    | with_reducible refine Device.reports.trans ?_ (Device.logEvent_reports ..)
    | with_reducible refine Device.reports.trans ?_ (Device.ringPut_reports ..)
    | with_reducible refine Device.reports.trans ?_ (Device.countSat_reports ..)
    | with_reducible refine Device.reports.trans ?_ (Device.put_reports ..)
    | with_reducible refine Device.reports.trans ?_ (Device.modUsb_reports ..)
    | with_reducible refine Device.reports.trans ?_ (Device.modEvents_reports ..)
    | with_reducible refine Device.reports.trans ?_ (Device.wr_reports ..)
    | split

theorem Device.refreshInts_reports (d : Device)  : d.reports (d.refreshInts ) := by
  unfold Device.refreshInts
  try dsimp only
  repeat' first
    | with_reducible exact Device.reports_refl _
    | with_reducible refine Device.reports.trans ?_ (Device.refreshSum_reports ..)
    | with_reducible refine Device.reports.trans ?_ (Device.logEvent_reports ..)
    | with_reducible refine Device.reports.trans ?_ (Device.ringPut_reports ..)
    | with_reducible refine Device.reports.trans ?_ (Device.countSat_reports ..)
    | with_reducible refine Device.reports.trans ?_ (Device.put_reports ..)
    | with_reducible refine Device.reports.trans ?_ (Device.modUsb_reports ..)
    | with_reducible refine Device.reports.trans ?_ (Device.modEvents_reports ..)
    | with_reducible refine Device.reports.trans ?_ (Device.wr_reports ..)
    | split

/-- A latching touches the registers, the event log in memory, the pulse generators and the USB report. -/
theorem Device.latchEvent_reports (d : Device) (e : Nat) : d.reports (d.latchEvent e) := by
  unfold Device.latchEvent
  split
  · exact d.reports_refl
  · extract_lets rt d1 d2 d3 d4
    have h3 : d2.reports d3 := by
      unfold d3
      split
      · exact Device.modUsb_reports ..
      · exact Device.reports_refl _
    have h4 : d3.reports d4 := by
      unfold d4
      split
      · exact Device.logEvent_reports ..
      · exact Device.reports_refl _
    exact Device.reports.trans (Device.wr_reports ..) (Device.reports.trans (Device.modEvents_reports ..)
      (Device.reports.trans h3 (Device.reports.trans h4 (Device.reports.trans (Device.refreshSum_reports _)
        (Device.refreshInts_reports _)))))

theorem Device.raise_reports (d : Device) (c : Field) (i b : Nat) (en : Bool) (ev : Nat) : d.reports (d.raise c i b en ev) := by
  unfold Device.raise
  try dsimp only
  repeat' first
    | with_reducible exact Device.reports_refl _
    | with_reducible refine Device.reports.trans ?_ (Device.latchEvent_reports ..)
    | with_reducible refine Device.reports.trans ?_ (Device.wr_reports ..)
    | split

theorem Device.reportLogDrop_reports (d : Device) (d0 : Device) : d.reports (d.reportLogDrop d0) := by
  unfold Device.reportLogDrop
  try dsimp only
  repeat' first
    | with_reducible exact Device.reports_refl _
    | with_reducible refine Device.reports.trans ?_ (Device.raise_reports ..)
    | with_reducible refine Device.reports.trans ?_ (Device.latchEvent_reports ..)
    | with_reducible refine Device.reports.trans ?_ (Device.wr_reports ..)
    | split

/-- A cause that is set touches no more than its report. -/
theorem Device.cause_reports (d : Device) (c : Field) (i b : Nat) (en : Bool) (ev : Nat) : d.reports (d.cause c i b en ev) := by
  unfold Device.cause
  try dsimp only
  repeat' first
    | with_reducible exact Device.reports_refl _
    | with_reducible refine Device.reports.trans ?_ (Device.reportLogDrop_reports ..)
    | with_reducible refine Device.reports.trans ?_ (Device.raise_reports ..)
    | with_reducible refine Device.reports.trans ?_ (Device.latchEvent_reports ..)
    | with_reducible refine Device.reports.trans ?_ (Device.wr_reports ..)
    | split

theorem Device.axEvt_reports (d : Device) (n b : Nat) : d.reports (d.axEvt n b) := d.cause_reports ..

theorem Device.folEvt_reports (d : Device) (n b : Nat) : d.reports (d.folEvt n b) := d.cause_reports ..

theorem Device.homeEvt_reports (d : Device) (n b : Nat) : d.reports (d.homeEvt n b) := d.cause_reports ..

theorem Device.curEvt_reports (d : Device) (n b : Nat) : d.reports (d.curEvt n b) := d.cause_reports ..

theorem Device.tlEvt_reports (d : Device) (n b : Nat) : d.reports (d.tlEvt n b) := by
  unfold Device.tlEvt
  split <;> exact d.cause_reports ..

theorem Device.mbEvt_reports (d : Device) (b : Nat) : d.reports (d.mbEvt b) := d.cause_reports ..

theorem Device.regEvt_reports (d : Device) (b : Nat) : d.reports (d.regEvt b) := d.cause_reports ..

theorem Device.cycEvt_reports (d : Device) (b : Nat) : d.reports (d.cycEvt b) := by
  unfold Device.cycEvt
  split <;> exact d.cause_reports ..

theorem Device.usbEvt_reports (d : Device) (b : Nat) : d.reports (d.usbEvt b) := d.cause_reports ..

theorem Device.pwrEvt_reports (d : Device) (b : Nat) : d.reports (d.pwrEvt b) := d.cause_reports ..

theorem Device.adcEvt_reports (d : Device) (b : Nat) : d.reports (d.adcEvt b) := d.cause_reports ..

theorem Device.chEvt_reports (d : Device) (n b : Nat) : d.reports (d.chEvt n b) := d.cause_reports ..

theorem Device.camEvt_reports (d : Device) (n b : Nat) : d.reports (d.camEvt n b) := d.cause_reports ..

theorem Device.bmEvt_reports (d : Device) (b : Nat) : d.reports (d.bmEvt b) := d.cause_reports ..

theorem Device.cdEvt_reports (d : Device) (n b : Nat) : d.reports (d.cdEvt n b) := d.cause_reports ..

theorem Device.neEvt_reports (d : Device) (b : Nat) : d.reports (d.neEvt b) := d.cause_reports ..

theorem Device.audEvt_reports (d : Device) (b : Nat) : d.reports (d.audEvt b) := d.cause_reports ..

theorem Device.fusEvt_reports (d : Device) (b : Nat) : d.reports (d.fusEvt b) := d.cause_reports ..

theorem Device.thEvt_reports (d : Device) (n b : Nat) : d.reports (d.thEvt n b) := d.cause_reports ..

theorem Device.fanEvt_reports (d : Device) (n b : Nat) : d.reports (d.fanEvt n b) := d.cause_reports ..

theorem Device.storeEvt_reports (d : Device) (b : Nat) : d.reports (d.storeEvt b) := d.cause_reports ..

theorem Device.imgEvt_reports (d : Device) (b : Nat) : d.reports (d.imgEvt b) := d.cause_reports ..

theorem Device.chkEvt_reports (d : Device) (b : Nat) : d.reports (d.chkEvt b) := d.cause_reports ..

theorem Device.faultEvt_reports (d : Device) (b : Nat) : d.reports (d.faultEvt b) := d.cause_reports ..

theorem Device.sysEvt_reports (d : Device) (b : Nat) : d.reports (d.sysEvt b) := d.cause_reports ..

theorem Device.engEvt_reports (d : Device) (n b : Nat) : d.reports (d.engEvt n b) := d.cause_reports ..

theorem Device.qeEvt_reports (d : Device) (n b : Nat) : d.reports (d.qeEvt n b) := d.cause_reports ..

theorem Device.ringEvt_reports (d : Device) (r : Nat) : d.reports (d.ringEvt r) := by
  unfold Device.ringEvt
  try dsimp only
  repeat' first
    | with_reducible exact Device.reports_refl _
    | with_reducible refine Device.reports.trans ?_ (Device.wr_reports ..)
    | with_reducible refine Device.reports.trans ?_ (Device.put_reports ..)
    | with_reducible refine Device.reports.trans ?_ (Device.modEvents_reports ..)
    | with_reducible refine Device.reports.trans ?_ (Device.latchEvent_reports ..)
    | split

/-- An entry of a device-produced ring touches the memory, the ring's index and the ring's event. -/
theorem Device.ringPush_reports (d : Device) (r : Nat) (bs : List Byte) : d.reports (d.ringPush r bs) := by
  unfold Device.ringPush
  try dsimp only
  repeat' first
    | with_reducible exact Device.reports_refl _
    | with_reducible refine Device.reports.trans ?_ (Device.ringEvt_reports ..)
    | with_reducible refine Device.reports.trans ?_ (Device.ringPut_reports ..)
    | with_reducible refine Device.reports.trans ?_ (Device.modEvents_reports ..)
    | with_reducible refine Device.reports.trans ?_ (Device.wr_reports ..)
    | split

theorem Device.refreshScr_reports (d : Device) (c : Nat) : d.reports (d.refreshScr c) := by
  unfold Device.refreshScr
  try dsimp only
  repeat' first
    | with_reducible exact Device.reports_refl _
    | with_reducible refine Device.reports.trans ?_ (Device.ringPush_reports ..)
    | with_reducible refine Device.reports.trans ?_ (Device.ringEvt_reports ..)
    | with_reducible refine Device.reports.trans ?_ (Device.ringPut_reports ..)
    | with_reducible refine Device.reports.trans ?_ (Device.modEvents_reports ..)
    | with_reducible refine Device.reports.trans ?_ (Device.wr_reports ..)
    | split

theorem Device.logScruple_reports (d : Device) (c u k f : Nat) : d.reports (d.logScruple c u k f) := by
  unfold Device.logScruple
  try dsimp only
  repeat' first
    | with_reducible exact Device.reports_refl _
    | with_reducible refine Device.reports.trans ?_ (Device.faultEvt_reports ..)
    | with_reducible refine Device.reports.trans ?_ (Device.countSat_reports ..)
    | with_reducible refine Device.reports.trans ?_ (Device.refreshScr_reports ..)
    | with_reducible refine Device.reports.trans ?_ (Device.ringPush_reports ..)
    | with_reducible refine Device.reports.trans ?_ (Device.ringEvt_reports ..)
    | with_reducible refine Device.reports.trans ?_ (Device.ringPut_reports ..)
    | with_reducible refine Device.reports.trans ?_ (Device.modEvents_reports ..)
    | with_reducible refine Device.reports.trans ?_ (Device.wr_reports ..)
    | split

theorem Device.setScrUnit_reports (d : Device) (x : ScrUnit) : d.reports (d.setScrUnit x) := by
  unfold Device.setScrUnit
  try dsimp only
  repeat' first
    | with_reducible exact Device.reports_refl _
    | with_reducible refine Device.reports.trans ?_ (Device.logScruple_reports ..)
    | with_reducible refine Device.reports.trans ?_ (Device.faultEvt_reports ..)
    | with_reducible refine Device.reports.trans ?_ (Device.countSat_reports ..)
    | with_reducible refine Device.reports.trans ?_ (Device.refreshScr_reports ..)
    | with_reducible refine Device.reports.trans ?_ (Device.ringPush_reports ..)
    | with_reducible refine Device.reports.trans ?_ (Device.ringEvt_reports ..)
    | with_reducible refine Device.reports.trans ?_ (Device.ringPut_reports ..)
    | with_reducible refine Device.reports.trans ?_ (Device.modEvents_reports ..)
    | with_reducible refine Device.reports.trans ?_ (Device.wr_reports ..)
    | split

/-- An occurrence of a fault class touches no more than its unit, its registers and its log entry. -/
theorem Device.occur_reports (d : Device) (c u : Nat) : d.reports (d.occur c u) := by
  unfold Device.occur
  extract_lets x y n full e
  split
  · exact d.logScruple_reports ..
  · exact Device.reports.trans (d.setScrUnit_reports _)
      (Device.reports.trans (Device.refreshScr_reports ..) (Device.logScruple_reports ..))

/-- A latch that is cleared touches no more than an occurrence does. -/
theorem Device.clearLatch_reports (d : Device) (c u : Nat) : d.reports (d.clearLatch c u) := by
  unfold Device.clearLatch
  try dsimp only
  repeat' first
    | with_reducible exact Device.reports_refl _
    | with_reducible refine Device.reports.trans ?_ (Device.setScrUnit_reports ..)
    | with_reducible refine Device.reports.trans ?_ (Device.logScruple_reports ..)
    | with_reducible refine Device.reports.trans ?_ (Device.faultEvt_reports ..)
    | with_reducible refine Device.reports.trans ?_ (Device.countSat_reports ..)
    | with_reducible refine Device.reports.trans ?_ (Device.refreshScr_reports ..)
    | with_reducible refine Device.reports.trans ?_ (Device.ringPush_reports ..)
    | with_reducible refine Device.reports.trans ?_ (Device.ringEvt_reports ..)
    | with_reducible refine Device.reports.trans ?_ (Device.ringPut_reports ..)
    | with_reducible refine Device.reports.trans ?_ (Device.modEvents_reports ..)
    | split

/-! ### The console and the record -/

theorem Device.sayLine_keeps (d : Device) (line : List Byte) : d.keeps (d.sayLine line) := by
  unfold Device.sayLine
  split
  · exact d.keeps_refl
  · dsimp only [Device.draw]
    split_ifs
    · constructor <;> rfl
    · have h := Device.usbEvt_reports (({ d with free := d.free + 1 } : Device).count Reg.CON_DROPS.COUNT) 13
      obtain ⟨_, _, _, _, _, _, _, _, _, _, _, _, _, _, _, _, _, _, _, _, _⟩ := h
      constructor <;> assumption

theorem Device.say_keeps (d : Device) : d.keeps d.say := by
  unfold Device.say
  refine Device.keeps.trans ?_ (Device.sayLine_keeps ..)
  constructor <;> rfl

/-- A cause of the record touches its queue, a loss its registers and event, a printed one the console. -/
theorem Device.record_keeps (d : Device) (type : Nat) (data : List Byte) (task : Option Nat) :
    d.keeps (d.record type data task) := by
  unfold Device.record
  have h : d.keeps (if printed type then d.say else d) := by
    split
    · exact d.say_keeps
    · exact d.keeps_refl
  refine Device.keeps.trans h ?_
  generalize (if printed type then d.say else d) = x
  dsimp only
  split
  · constructor <;> rfl
  · exact Device.keeps_of_reports (Device.reports.trans (Device.countSat_reports ..) (Device.storeEvt_reports ..))

/-! ### Tasks -/

theorem Device.modSched_schedules (d : Device) (f : Sched → Sched) : d.schedules (d.modSched f) := by
  constructor <;> rfl

theorem Device.modTask_schedules (d : Device) (tag : Nat) (f : Task → Task) : d.schedules (d.modTask tag f) :=
  d.modSched_schedules _

theorem Device.each_reports {f : Nat → Device → Device} (h : ∀ i (x : Device), x.reports (f i x)) (d : Device) (n : Nat) :
    d.reports (d.each n f) := by
  unfold Device.each
  generalize List.range n = l
  induction l generalizing d with
  | nil => exact d.reports_refl
  | cons i t ih => exact Device.reports.trans (h i d) (ih _)

theorem Device.refreshSched_reports (d : Device) : d.reports d.refreshSched := by
  unfold Device.refreshSched
  refine Device.reports.trans (d.wr_reports ..) (Device.each_reports (fun i x => ?_) _ 8)
  have h (y : Device) : y.reports (if (y.freeTag i).isSome then y.wr Reg.QP_STAT.TAG_WAIT i 0 else y) := by
    split
    · exact Device.wr_reports ..
    · exact Device.reports_refl _
  exact Device.reports.trans (Device.wr_reports ..)
    (Device.reports.trans (Device.wr_reports ..) (Device.reports.trans (h _) (Device.wr_reports ..)))

theorem Device.setTaskFlags_reports (d : Device) (v : Nat) : d.reports (d.setTaskFlags v) := by
  unfold Device.setTaskFlags
  exact Device.reports.trans (d.wr_reports ..) (Device.wr_reports ..)

/-- A completion that is written touches its ring, its flag, the task list and what a report touches. -/
theorem Device.writeCpl_schedules (d : Device) (h : HeldCpl) (late : Bool) : d.schedules (d.writeCpl h late) := by
  unfold Device.writeCpl
  extract_lets bs d1 k d2
  have h2 : d1.schedules d2 := by
    unfold d2
    split
    · exact Device.schedules.trans (Device.schedules_of_reports (Device.setTaskFlags_reports ..)) (Device.modSched_schedules ..)
    · exact Device.schedules_refl _
  exact Device.schedules.trans (Device.schedules.trans (Device.schedules_of_reports (Device.ringPush_reports ..)) h2)
    (Device.schedules.trans (Device.modSched_schedules ..) (Device.schedules_of_reports (Device.refreshSched_reports _)))

theorem Device.deliver_schedules (d : Device) (h : HeldCpl) : d.schedules (d.deliver h) := by
  unfold Device.deliver
  split
  · exact d.writeCpl_schedules h false
  · extract_lets d1
    exact Device.schedules.trans (Device.modSched_schedules ..)
      (Device.schedules_of_reports (Device.reports.trans (Device.refreshSched_reports _) (Device.mbEvt_reports ..)))

/-- A task that completes touches the scheduler and what a report touches, and nothing else. -/
theorem Device.complete_schedules (d : Device) (tag : Nat) (st : Status) (ne : Bool) (r : List Byte) : d.schedules (d.complete tag st ne r) := by
  unfold Device.complete
  try dsimp only
  repeat' first
    | with_reducible exact Device.schedules_refl _
    | with_reducible refine Device.schedules.trans ?_ (Device.deliver_schedules ..)
    | with_reducible refine Device.schedules.trans ?_ (Device.modTask_schedules ..)
    | split

theorem Device.refuseTag_schedules (d : Device) (op : Nat) (e : Entry) : d.schedules (d.refuseTag op e) := by
  unfold Device.refuseTag
  try dsimp only
  repeat' first
    | with_reducible exact Device.schedules_refl _
    | with_reducible refine Device.schedules.trans ?_ (Device.deliver_schedules ..)
    | with_reducible refine Device.schedules.trans ?_ (Device.schedules_of_reports (Device.mbEvt_reports ..))
    | split

/-- The taking of an entry touches the scheduler and what a report touches, and nothing else. -/
theorem Device.admit_schedules (d : Device) (op : Nat) (e : Entry) : d.schedules (d.admitEntry op e).1 := by
  unfold Device.admitEntry
  extract_lets q explicit tag t d2
  split
  · split
    · exact Device.schedules_of_reports (Device.reports.trans (Device.wr_reports ..) (Device.mbEvt_reports ..))
    · exact d.schedules_refl
  · have h2 : d.schedules d2 := Device.schedules.trans (Device.modSched_schedules ..)
      (Device.schedules_of_reports (Device.refreshSched_reports _))
    clear_value d2
    split
    · exact d.refuseTag_schedules op e
    · split
      · exact Device.schedules.trans h2 (Device.complete_schedules ..)
      · exact h2

end Sys2Proof.Machine
end

