-- ==== Sys2Proof/Laws/Sparse.lean ====
section
/-! SUPPORT. The laws of sparse tables and of the memory held in one: what a write leaves to be read, and that the canonical
form of the memory is kept. -/
namespace Sys2Proof.Machine

/-! ### Sparse tables -/

/-- A table whose keys rise strictly. -/
def sparseRising {α : Type} : Sparse α → Prop
  | [] => True
  | (a, _) :: t => (∀ p ∈ t, a < p.1) ∧ sparseRising t

@[simp] theorem sparseGet_nil {α : Type} (k : Nat) : sparseGet k ([] : Sparse α) = none := rfl

/-- What has been put under a key is read there. -/
@[simp] theorem sparseGet_put_same {α : Type} (k : Nat) (v : α) (t : Sparse α) :
    sparseGet k (sparsePut k v t) = some v := by
  induction t with
  | nil => simp [sparsePut, sparseGet]
  | cons p t ih =>
    obtain ⟨j, w⟩ := p
    simp only [sparsePut]
    split
    · simp [sparseGet]
    · split
      · simp [sparseGet]
      · simp_all [sparseGet]

/-- Every other key reads as before. -/
theorem sparseGet_put_other {α : Type} {k j : Nat} (h : j ≠ k) (v : α) (t : Sparse α) :
    sparseGet j (sparsePut k v t) = sparseGet j t := by
  induction t with
  | nil => simp [sparsePut, sparseGet, Ne.symm h]
  | cons p t ih =>
    obtain ⟨i, w⟩ := p
    simp only [sparsePut]
    split
    · simp [sparseGet, Ne.symm h]
    · split
      · rename_i h1 h2
        subst h2
        simp [sparseGet, Ne.symm h]
      · simp only [sparseGet, ih]

/-- An erased key reads as absent. -/
@[simp] theorem sparseGet_erase_same {α : Type} (k : Nat) (t : Sparse α) : sparseGet k (sparseErase k t) = none := by
  induction t with
  | nil => rfl
  | cons p t ih =>
    obtain ⟨i, w⟩ := p
    by_cases h : i = k
    · simpa [sparseErase, h] using ih
    · simpa [sparseErase, h, sparseGet] using ih

/-- Every other key reads as before the erasure. -/
theorem sparseGet_erase_other {α : Type} {k j : Nat} (h : j ≠ k) (t : Sparse α) :
    sparseGet j (sparseErase k t) = sparseGet j t := by
  induction t with
  | nil => rfl
  | cons p t ih =>
    obtain ⟨i, w⟩ := p
    by_cases hi : i = k
    · subst hi
      have : sparseGet j ((i, w) :: t) = sparseGet j t := by simp [sparseGet, Ne.symm h]
      rw [this, ← ih]
      simp [sparseErase]
    · have h1 : sparseErase k ((i, w) :: t) = (i, w) :: sparseErase k t := by simp [sparseErase, hi]
      rw [h1]
      by_cases hj : i = j
      · simp [sparseGet, hj]
      · simp [sparseGet, hj, ih]

/-- The entries after a write are old ones or the one written. -/
theorem mem_sparsePut {α : Type} {k : Nat} {v : α} {t : Sparse α} {p : Nat × α} (h : p ∈ sparsePut k v t) :
    p = (k, v) ∨ p ∈ t := by
  induction t with
  | nil => simpa [sparsePut] using h
  | cons q t ih =>
    obtain ⟨j, w⟩ := q
    simp only [sparsePut] at h
    split at h
    · simpa using h
    · split at h
      · rcases List.mem_cons.mp h with h | h
        · exact .inl h
        · exact .inr (List.mem_cons_of_mem _ h)
      · rcases List.mem_cons.mp h with h | h
        · exact .inr (h ▸ List.mem_cons_self ..)
        · exact (ih h).imp id (List.mem_cons_of_mem _)

/-- A write keeps the keys rising. -/
theorem sparsePut_rising {α : Type} (k : Nat) (v : α) {t : Sparse α} (h : sparseRising t) :
    sparseRising (sparsePut k v t) := by
  induction t with
  | nil => simp [sparsePut, sparseRising]
  | cons q t ih =>
    obtain ⟨j, w⟩ := q
    obtain ⟨h1, h2⟩ := h
    simp only [sparsePut]
    split
    · rename_i hk
      refine ⟨fun p hp => ?_, h1, h2⟩
      rcases List.mem_cons.mp hp with hp | hp
      · simpa [hp] using hk
      · exact Nat.lt_trans hk (h1 p hp)
    · split
      · rename_i hk
        subst hk
        exact ⟨h1, h2⟩
      · rename_i hk1 hk2
        refine ⟨fun p hp => ?_, ih h2⟩
        rcases mem_sparsePut hp with hp | hp
        · subst hp
          exact Nat.lt_of_le_of_ne (Nat.le_of_not_lt hk1) hk2
        · exact h1 p hp

/-- An erasure keeps the keys rising. -/
theorem sparseErase_rising {α : Type} (k : Nat) {t : Sparse α} (h : sparseRising t) : sparseRising (sparseErase k t) := by
  induction t with
  | nil => trivial
  | cons q t ih =>
    obtain ⟨j, w⟩ := q
    obtain ⟨h1, h2⟩ := h
    by_cases hk : j = k
    · simpa [sparseErase, hk] using ih h2
    · have : sparseErase k ((j, w) :: t) = (j, w) :: sparseErase k t := by simp [sparseErase, hk]
      rw [this]
      refine ⟨fun p hp => h1 p ?_, ih h2⟩
      exact (List.mem_filter.mp hp).1

/-! ### Memory -/

/-- The canonical form, said of the whole table: keys rise, and no entry equals what an unlisted address reads as. -/
theorem memWf_iff (m : List Host.Cell) :
    memWf m = true ↔ sparseRising m ∧ ∀ p ∈ m, p.2 ≠ unlistedByte := by
  induction m with
  | nil => simp [memWf, sparseRising]
  | cons q t ih =>
    obtain ⟨a, b⟩ := q
    cases t with
    | nil => simp [memWf, sparseRising]
    | cons r t =>
      obtain ⟨a', b'⟩ := r
      simp only [memWf, Bool.and_eq_true, bne_iff_ne, ne_eq, decide_eq_true_eq, ih]
      constructor
      · rintro ⟨⟨hb, ha⟩, hr, hu⟩
        refine ⟨⟨fun p hp => ?_, hr⟩, fun p hp => ?_⟩
        · rcases List.mem_cons.mp hp with hp | hp
          · subst hp; exact ha
          · exact Nat.lt_trans ha (hr.1 p hp)
        · rcases List.mem_cons.mp hp with hp | hp
          · subst hp; exact hb
          · exact hu p hp
      · rintro ⟨⟨h1, h2⟩, h3⟩
        exact ⟨⟨h3 _ (List.mem_cons_self ..), h1 _ (List.mem_cons_self ..)⟩, h2,
          fun p hp => h3 p (List.mem_cons_of_mem _ hp)⟩

/-- Writing one byte keeps the canonical form. -/
theorem memPut_wf {m : List Host.Cell} (h : memWf m = true) (a : Nat) (b : Byte) : memWf (memPut m a b) = true := by
  rw [memWf_iff] at h ⊢
  have he : ∀ p ∈ sparseErase a m, p.2 ≠ unlistedByte := fun p hp => h.2 p (List.mem_filter.mp hp).1
  unfold memPut
  split
  · exact ⟨sparseErase_rising a h.1, he⟩
  · rename_i hb
    refine ⟨sparsePut_rising a b (sparseErase_rising a h.1), fun p hp => ?_⟩
    rcases mem_sparsePut hp with hp | hp
    · subst hp; exact hb
    · exact he p hp

/-- Writing bytes keeps the canonical form. -/
theorem memPutAll_wf {m : List Host.Cell} (h : memWf m = true) (a : Nat) (bs : List Byte) :
    memWf (memPutAll m a bs) = true := by
  induction bs generalizing m a with
  | nil => exact h
  | cons b t ih => exact ih (memPut_wf h a b) (a + 1)

/-- A written byte is read back. -/
@[simp] theorem memByte_memPut_same (m : List Host.Cell) (a : Nat) (b : Byte) : memByte (memPut m a b) a = b := by
  unfold memByte memPut
  split
  · rename_i h
    rw [sparseGet_erase_same, h]; rfl
  · rw [sparseGet_put_same]; rfl

/-- Every other byte reads as before. -/
theorem memByte_memPut_other {m : List Host.Cell} {a c : Nat} (h : c ≠ a) (b : Byte) :
    memByte (memPut m a b) c = memByte m c := by
  unfold memByte memPut
  split
  · rw [sparseGet_erase_other h]
  · rw [sparseGet_put_other h, sparseGet_erase_other h]

/-- Bytes outside the written span read as before. -/
theorem memByte_memPutAll_outside (m : List Host.Cell) (a c : Nat) (bs : List Byte) (h : c < a ∨ a + bs.length ≤ c) :
    memByte (memPutAll m a bs) c = memByte m c := by
  induction bs generalizing m a with
  | nil => rfl
  | cons b t ih =>
    simp only [List.length_cons] at h
    rw [memPutAll, ih (memPut m a b) (a + 1) (by omega), memByte_memPut_other (by omega)]

/-- The written span reads as it was written. -/
theorem memByte_memPutAll_inside (m : List Host.Cell) (a k : Nat) (bs : List Byte) (h : k < bs.length) :
    memByte (memPutAll m a bs) (a + k) = bs[k] := by
  induction bs generalizing m a k with
  | nil => simp at h
  | cons b t ih =>
    cases k with
    | zero =>
      rw [memPutAll, memByte_memPutAll_outside _ _ _ _ (by omega)]
      simp
    | succ k =>
      have h' : k < t.length := by simpa using h
      have := ih (memPut m a b) (a + 1) k h'
      rw [memPutAll, show a + (k + 1) = a + 1 + k by omega, this]
      simp

end Sys2Proof.Machine
end

