-- ==== Sys2Proof/Laws/State.lean ====
section
/-! SUPPORT. What each named update of the device leaves alone and what it gives the part it changes: one lemma for each
field under each update, all true by unfolding. -/
namespace Sys2Proof.Machine

/-! ### `wr` -/

@[simp] theorem Device.wr_staged (d : Device) (f : Field) (i v : Nat) : (d.wr f i v).staged = d.staged := rfl
@[simp] theorem Device.wr_latches (d : Device) (f : Field) (i v : Nat) : (d.wr f i v).latches = d.latches := rfl
@[simp] theorem Device.wr_busRead (d : Device) (f : Field) (i v : Nat) : (d.wr f i v).busRead = d.busRead := rfl
@[simp] theorem Device.wr_mem (d : Device) (f : Field) (i v : Nat) : (d.wr f i v).mem = d.mem := rfl
@[simp] theorem Device.wr_tables (d : Device) (f : Field) (i v : Nat) : (d.wr f i v).tables = d.tables := rfl
@[simp] theorem Device.wr_sched (d : Device) (f : Field) (i v : Nat) : (d.wr f i v).sched = d.sched := rfl
@[simp] theorem Device.wr_axes (d : Device) (f : Field) (i v : Nat) : (d.wr f i v).axes = d.axes := rfl
@[simp] theorem Device.wr_sdi (d : Device) (f : Field) (i v : Nat) : (d.wr f i v).sdi = d.sdi := rfl
@[simp] theorem Device.wr_spm (d : Device) (f : Field) (i v : Nat) : (d.wr f i v).spm = d.spm := rfl
@[simp] theorem Device.wr_tiles (d : Device) (f : Field) (i v : Nat) : (d.wr f i v).tiles = d.tiles := rfl
@[simp] theorem Device.wr_events (d : Device) (f : Field) (i v : Nat) : (d.wr f i v).events = d.events := rfl
@[simp] theorem Device.wr_cyclic (d : Device) (f : Field) (i v : Nat) : (d.wr f i v).cyclic = d.cyclic := rfl
@[simp] theorem Device.wr_usb (d : Device) (f : Field) (i v : Nat) : (d.wr f i v).usb = d.usb := rfl
@[simp] theorem Device.wr_console (d : Device) (f : Field) (i v : Nat) : (d.wr f i v).console = d.console := rfl
@[simp] theorem Device.wr_power (d : Device) (f : Field) (i v : Nat) : (d.wr f i v).power = d.power := rfl
@[simp] theorem Device.wr_adc (d : Device) (f : Field) (i v : Nat) : (d.wr f i v).adc = d.adc := rfl
@[simp] theorem Device.wr_perc (d : Device) (f : Field) (i v : Nat) : (d.wr f i v).perc = d.perc := rfl
@[simp] theorem Device.wr_audio (d : Device) (f : Field) (i v : Nat) : (d.wr f i v).audio = d.audio := rfl
@[simp] theorem Device.wr_fusion (d : Device) (f : Field) (i v : Nat) : (d.wr f i v).fusion = d.fusion := rfl
@[simp] theorem Device.wr_sensors (d : Device) (f : Field) (i v : Nat) : (d.wr f i v).sensors = d.sensors := rfl
@[simp] theorem Device.wr_fans (d : Device) (f : Field) (i v : Nat) : (d.wr f i v).fans = d.fans := rfl
@[simp] theorem Device.wr_keep (d : Device) (f : Field) (i v : Nat) : (d.wr f i v).keep = d.keep := rfl
@[simp] theorem Device.wr_pads (d : Device) (f : Field) (i v : Nat) : (d.wr f i v).pads = d.pads := rfl
@[simp] theorem Device.wr_free (d : Device) (f : Field) (i v : Nat) : (d.wr f i v).free = d.free := rfl
@[simp] theorem Device.wr_ax (d : Device) (f : Field) (i v : Nat) (m : Nat) : (d.wr f i v).ax m = d.ax m := rfl
@[simp] theorem Device.wr_tile (d : Device) (f : Field) (i v : Nat) (m : Nat) : (d.wr f i v).tile m = d.tile m := rfl
@[simp] theorem Device.wr_byte (d : Device) (f : Field) (i v : Nat) (x : Nat) : (d.wr f i v).byte x = d.byte x := rfl

/-! ### `wrSh` -/

@[simp] theorem Device.wrSh_staged (d : Device) (f : Field) (i v : Nat) : (d.wrSh f i v).staged = d.staged := rfl
@[simp] theorem Device.wrSh_latches (d : Device) (f : Field) (i v : Nat) : (d.wrSh f i v).latches = d.latches := rfl
@[simp] theorem Device.wrSh_busRead (d : Device) (f : Field) (i v : Nat) : (d.wrSh f i v).busRead = d.busRead := rfl
@[simp] theorem Device.wrSh_mem (d : Device) (f : Field) (i v : Nat) : (d.wrSh f i v).mem = d.mem := rfl
@[simp] theorem Device.wrSh_tables (d : Device) (f : Field) (i v : Nat) : (d.wrSh f i v).tables = d.tables := rfl
@[simp] theorem Device.wrSh_sched (d : Device) (f : Field) (i v : Nat) : (d.wrSh f i v).sched = d.sched := rfl
@[simp] theorem Device.wrSh_axes (d : Device) (f : Field) (i v : Nat) : (d.wrSh f i v).axes = d.axes := rfl
@[simp] theorem Device.wrSh_sdi (d : Device) (f : Field) (i v : Nat) : (d.wrSh f i v).sdi = d.sdi := rfl
@[simp] theorem Device.wrSh_spm (d : Device) (f : Field) (i v : Nat) : (d.wrSh f i v).spm = d.spm := rfl
@[simp] theorem Device.wrSh_tiles (d : Device) (f : Field) (i v : Nat) : (d.wrSh f i v).tiles = d.tiles := rfl
@[simp] theorem Device.wrSh_events (d : Device) (f : Field) (i v : Nat) : (d.wrSh f i v).events = d.events := rfl
@[simp] theorem Device.wrSh_cyclic (d : Device) (f : Field) (i v : Nat) : (d.wrSh f i v).cyclic = d.cyclic := rfl
@[simp] theorem Device.wrSh_usb (d : Device) (f : Field) (i v : Nat) : (d.wrSh f i v).usb = d.usb := rfl
@[simp] theorem Device.wrSh_console (d : Device) (f : Field) (i v : Nat) : (d.wrSh f i v).console = d.console := rfl
@[simp] theorem Device.wrSh_power (d : Device) (f : Field) (i v : Nat) : (d.wrSh f i v).power = d.power := rfl
@[simp] theorem Device.wrSh_adc (d : Device) (f : Field) (i v : Nat) : (d.wrSh f i v).adc = d.adc := rfl
@[simp] theorem Device.wrSh_perc (d : Device) (f : Field) (i v : Nat) : (d.wrSh f i v).perc = d.perc := rfl
@[simp] theorem Device.wrSh_audio (d : Device) (f : Field) (i v : Nat) : (d.wrSh f i v).audio = d.audio := rfl
@[simp] theorem Device.wrSh_fusion (d : Device) (f : Field) (i v : Nat) : (d.wrSh f i v).fusion = d.fusion := rfl
@[simp] theorem Device.wrSh_sensors (d : Device) (f : Field) (i v : Nat) : (d.wrSh f i v).sensors = d.sensors := rfl
@[simp] theorem Device.wrSh_fans (d : Device) (f : Field) (i v : Nat) : (d.wrSh f i v).fans = d.fans := rfl
@[simp] theorem Device.wrSh_keep (d : Device) (f : Field) (i v : Nat) : (d.wrSh f i v).keep = d.keep := rfl
@[simp] theorem Device.wrSh_pads (d : Device) (f : Field) (i v : Nat) : (d.wrSh f i v).pads = d.pads := rfl
@[simp] theorem Device.wrSh_free (d : Device) (f : Field) (i v : Nat) : (d.wrSh f i v).free = d.free := rfl
@[simp] theorem Device.wrSh_ax (d : Device) (f : Field) (i v : Nat) (m : Nat) : (d.wrSh f i v).ax m = d.ax m := rfl
@[simp] theorem Device.wrSh_tile (d : Device) (f : Field) (i v : Nat) (m : Nat) : (d.wrSh f i v).tile m = d.tile m := rfl
@[simp] theorem Device.wrSh_byte (d : Device) (f : Field) (i v : Nat) (x : Nat) : (d.wrSh f i v).byte x = d.byte x := rfl

/-! ### `count` -/

@[simp] theorem Device.count_staged (d : Device) (f : Field) (i k : Nat) : (d.count f i k).staged = d.staged := rfl
@[simp] theorem Device.count_latches (d : Device) (f : Field) (i k : Nat) : (d.count f i k).latches = d.latches := rfl
@[simp] theorem Device.count_busRead (d : Device) (f : Field) (i k : Nat) : (d.count f i k).busRead = d.busRead := rfl
@[simp] theorem Device.count_mem (d : Device) (f : Field) (i k : Nat) : (d.count f i k).mem = d.mem := rfl
@[simp] theorem Device.count_tables (d : Device) (f : Field) (i k : Nat) : (d.count f i k).tables = d.tables := rfl
@[simp] theorem Device.count_sched (d : Device) (f : Field) (i k : Nat) : (d.count f i k).sched = d.sched := rfl
@[simp] theorem Device.count_axes (d : Device) (f : Field) (i k : Nat) : (d.count f i k).axes = d.axes := rfl
@[simp] theorem Device.count_sdi (d : Device) (f : Field) (i k : Nat) : (d.count f i k).sdi = d.sdi := rfl
@[simp] theorem Device.count_spm (d : Device) (f : Field) (i k : Nat) : (d.count f i k).spm = d.spm := rfl
@[simp] theorem Device.count_tiles (d : Device) (f : Field) (i k : Nat) : (d.count f i k).tiles = d.tiles := rfl
@[simp] theorem Device.count_events (d : Device) (f : Field) (i k : Nat) : (d.count f i k).events = d.events := rfl
@[simp] theorem Device.count_cyclic (d : Device) (f : Field) (i k : Nat) : (d.count f i k).cyclic = d.cyclic := rfl
@[simp] theorem Device.count_usb (d : Device) (f : Field) (i k : Nat) : (d.count f i k).usb = d.usb := rfl
@[simp] theorem Device.count_console (d : Device) (f : Field) (i k : Nat) : (d.count f i k).console = d.console := rfl
@[simp] theorem Device.count_power (d : Device) (f : Field) (i k : Nat) : (d.count f i k).power = d.power := rfl
@[simp] theorem Device.count_adc (d : Device) (f : Field) (i k : Nat) : (d.count f i k).adc = d.adc := rfl
@[simp] theorem Device.count_perc (d : Device) (f : Field) (i k : Nat) : (d.count f i k).perc = d.perc := rfl
@[simp] theorem Device.count_audio (d : Device) (f : Field) (i k : Nat) : (d.count f i k).audio = d.audio := rfl
@[simp] theorem Device.count_fusion (d : Device) (f : Field) (i k : Nat) : (d.count f i k).fusion = d.fusion := rfl
@[simp] theorem Device.count_sensors (d : Device) (f : Field) (i k : Nat) : (d.count f i k).sensors = d.sensors := rfl
@[simp] theorem Device.count_fans (d : Device) (f : Field) (i k : Nat) : (d.count f i k).fans = d.fans := rfl
@[simp] theorem Device.count_keep (d : Device) (f : Field) (i k : Nat) : (d.count f i k).keep = d.keep := rfl
@[simp] theorem Device.count_pads (d : Device) (f : Field) (i k : Nat) : (d.count f i k).pads = d.pads := rfl
@[simp] theorem Device.count_free (d : Device) (f : Field) (i k : Nat) : (d.count f i k).free = d.free := rfl
@[simp] theorem Device.count_ax (d : Device) (f : Field) (i k : Nat) (m : Nat) : (d.count f i k).ax m = d.ax m := rfl
@[simp] theorem Device.count_tile (d : Device) (f : Field) (i k : Nat) (m : Nat) : (d.count f i k).tile m = d.tile m := rfl
@[simp] theorem Device.count_byte (d : Device) (f : Field) (i k : Nat) (x : Nat) : (d.count f i k).byte x = d.byte x := rfl

/-! ### `countSat` -/

@[simp] theorem Device.countSat_staged (d : Device) (f : Field) (i : Nat) : (d.countSat f i).staged = d.staged := rfl
@[simp] theorem Device.countSat_latches (d : Device) (f : Field) (i : Nat) : (d.countSat f i).latches = d.latches := rfl
@[simp] theorem Device.countSat_busRead (d : Device) (f : Field) (i : Nat) : (d.countSat f i).busRead = d.busRead := rfl
@[simp] theorem Device.countSat_mem (d : Device) (f : Field) (i : Nat) : (d.countSat f i).mem = d.mem := rfl
@[simp] theorem Device.countSat_tables (d : Device) (f : Field) (i : Nat) : (d.countSat f i).tables = d.tables := rfl
@[simp] theorem Device.countSat_sched (d : Device) (f : Field) (i : Nat) : (d.countSat f i).sched = d.sched := rfl
@[simp] theorem Device.countSat_axes (d : Device) (f : Field) (i : Nat) : (d.countSat f i).axes = d.axes := rfl
@[simp] theorem Device.countSat_sdi (d : Device) (f : Field) (i : Nat) : (d.countSat f i).sdi = d.sdi := rfl
@[simp] theorem Device.countSat_spm (d : Device) (f : Field) (i : Nat) : (d.countSat f i).spm = d.spm := rfl
@[simp] theorem Device.countSat_tiles (d : Device) (f : Field) (i : Nat) : (d.countSat f i).tiles = d.tiles := rfl
@[simp] theorem Device.countSat_events (d : Device) (f : Field) (i : Nat) : (d.countSat f i).events = d.events := rfl
@[simp] theorem Device.countSat_cyclic (d : Device) (f : Field) (i : Nat) : (d.countSat f i).cyclic = d.cyclic := rfl
@[simp] theorem Device.countSat_usb (d : Device) (f : Field) (i : Nat) : (d.countSat f i).usb = d.usb := rfl
@[simp] theorem Device.countSat_console (d : Device) (f : Field) (i : Nat) : (d.countSat f i).console = d.console := rfl
@[simp] theorem Device.countSat_power (d : Device) (f : Field) (i : Nat) : (d.countSat f i).power = d.power := rfl
@[simp] theorem Device.countSat_adc (d : Device) (f : Field) (i : Nat) : (d.countSat f i).adc = d.adc := rfl
@[simp] theorem Device.countSat_perc (d : Device) (f : Field) (i : Nat) : (d.countSat f i).perc = d.perc := rfl
@[simp] theorem Device.countSat_audio (d : Device) (f : Field) (i : Nat) : (d.countSat f i).audio = d.audio := rfl
@[simp] theorem Device.countSat_fusion (d : Device) (f : Field) (i : Nat) : (d.countSat f i).fusion = d.fusion := rfl
@[simp] theorem Device.countSat_sensors (d : Device) (f : Field) (i : Nat) : (d.countSat f i).sensors = d.sensors := rfl
@[simp] theorem Device.countSat_fans (d : Device) (f : Field) (i : Nat) : (d.countSat f i).fans = d.fans := rfl
@[simp] theorem Device.countSat_keep (d : Device) (f : Field) (i : Nat) : (d.countSat f i).keep = d.keep := rfl
@[simp] theorem Device.countSat_pads (d : Device) (f : Field) (i : Nat) : (d.countSat f i).pads = d.pads := rfl
@[simp] theorem Device.countSat_free (d : Device) (f : Field) (i : Nat) : (d.countSat f i).free = d.free := rfl
@[simp] theorem Device.countSat_ax (d : Device) (f : Field) (i : Nat) (m : Nat) : (d.countSat f i).ax m = d.ax m := rfl
@[simp] theorem Device.countSat_tile (d : Device) (f : Field) (i : Nat) (m : Nat) : (d.countSat f i).tile m = d.tile m := rfl
@[simp] theorem Device.countSat_byte (d : Device) (f : Field) (i : Nat) (x : Nat) : (d.countSat f i).byte x = d.byte x := rfl

/-! ### `funcReset` -/

@[simp] theorem Device.funcReset_staged (d : Device) (lo hi : Nat) (keep : List Nat) : (d.funcReset lo hi keep).staged = d.staged := rfl
@[simp] theorem Device.funcReset_latches (d : Device) (lo hi : Nat) (keep : List Nat) : (d.funcReset lo hi keep).latches = d.latches := rfl
@[simp] theorem Device.funcReset_busRead (d : Device) (lo hi : Nat) (keep : List Nat) : (d.funcReset lo hi keep).busRead = d.busRead := rfl
@[simp] theorem Device.funcReset_mem (d : Device) (lo hi : Nat) (keep : List Nat) : (d.funcReset lo hi keep).mem = d.mem := rfl
@[simp] theorem Device.funcReset_tables (d : Device) (lo hi : Nat) (keep : List Nat) : (d.funcReset lo hi keep).tables = d.tables := rfl
@[simp] theorem Device.funcReset_sched (d : Device) (lo hi : Nat) (keep : List Nat) : (d.funcReset lo hi keep).sched = d.sched := rfl
@[simp] theorem Device.funcReset_axes (d : Device) (lo hi : Nat) (keep : List Nat) : (d.funcReset lo hi keep).axes = d.axes := rfl
@[simp] theorem Device.funcReset_sdi (d : Device) (lo hi : Nat) (keep : List Nat) : (d.funcReset lo hi keep).sdi = d.sdi := rfl
@[simp] theorem Device.funcReset_spm (d : Device) (lo hi : Nat) (keep : List Nat) : (d.funcReset lo hi keep).spm = d.spm := rfl
@[simp] theorem Device.funcReset_tiles (d : Device) (lo hi : Nat) (keep : List Nat) : (d.funcReset lo hi keep).tiles = d.tiles := rfl
@[simp] theorem Device.funcReset_events (d : Device) (lo hi : Nat) (keep : List Nat) : (d.funcReset lo hi keep).events = d.events := rfl
@[simp] theorem Device.funcReset_cyclic (d : Device) (lo hi : Nat) (keep : List Nat) : (d.funcReset lo hi keep).cyclic = d.cyclic := rfl
@[simp] theorem Device.funcReset_usb (d : Device) (lo hi : Nat) (keep : List Nat) : (d.funcReset lo hi keep).usb = d.usb := rfl
@[simp] theorem Device.funcReset_console (d : Device) (lo hi : Nat) (keep : List Nat) : (d.funcReset lo hi keep).console = d.console := rfl
@[simp] theorem Device.funcReset_power (d : Device) (lo hi : Nat) (keep : List Nat) : (d.funcReset lo hi keep).power = d.power := rfl
@[simp] theorem Device.funcReset_adc (d : Device) (lo hi : Nat) (keep : List Nat) : (d.funcReset lo hi keep).adc = d.adc := rfl
@[simp] theorem Device.funcReset_perc (d : Device) (lo hi : Nat) (keep : List Nat) : (d.funcReset lo hi keep).perc = d.perc := rfl
@[simp] theorem Device.funcReset_audio (d : Device) (lo hi : Nat) (keep : List Nat) : (d.funcReset lo hi keep).audio = d.audio := rfl
@[simp] theorem Device.funcReset_fusion (d : Device) (lo hi : Nat) (keep : List Nat) : (d.funcReset lo hi keep).fusion = d.fusion := rfl
@[simp] theorem Device.funcReset_sensors (d : Device) (lo hi : Nat) (keep : List Nat) : (d.funcReset lo hi keep).sensors = d.sensors := rfl
@[simp] theorem Device.funcReset_fans (d : Device) (lo hi : Nat) (keep : List Nat) : (d.funcReset lo hi keep).fans = d.fans := rfl
@[simp] theorem Device.funcReset_keep (d : Device) (lo hi : Nat) (keep : List Nat) : (d.funcReset lo hi keep).keep = d.keep := rfl
@[simp] theorem Device.funcReset_pads (d : Device) (lo hi : Nat) (keep : List Nat) : (d.funcReset lo hi keep).pads = d.pads := rfl
@[simp] theorem Device.funcReset_free (d : Device) (lo hi : Nat) (keep : List Nat) : (d.funcReset lo hi keep).free = d.free := rfl
@[simp] theorem Device.funcReset_ax (d : Device) (lo hi : Nat) (keep : List Nat) (m : Nat) : (d.funcReset lo hi keep).ax m = d.ax m := rfl
@[simp] theorem Device.funcReset_tile (d : Device) (lo hi : Nat) (keep : List Nat) (m : Nat) : (d.funcReset lo hi keep).tile m = d.tile m := rfl
@[simp] theorem Device.funcReset_byte (d : Device) (lo hi : Nat) (keep : List Nat) (x : Nat) : (d.funcReset lo hi keep).byte x = d.byte x := rfl

/-! ### `modAx` -/

@[simp] theorem Device.modAx_regs (d : Device) (n : Nat) (f : Axis → Axis) : (d.modAx n f).regs = d.regs := rfl
@[simp] theorem Device.modAx_staged (d : Device) (n : Nat) (f : Axis → Axis) : (d.modAx n f).staged = d.staged := rfl
@[simp] theorem Device.modAx_latches (d : Device) (n : Nat) (f : Axis → Axis) : (d.modAx n f).latches = d.latches := rfl
@[simp] theorem Device.modAx_busRead (d : Device) (n : Nat) (f : Axis → Axis) : (d.modAx n f).busRead = d.busRead := rfl
@[simp] theorem Device.modAx_mem (d : Device) (n : Nat) (f : Axis → Axis) : (d.modAx n f).mem = d.mem := rfl
@[simp] theorem Device.modAx_tables (d : Device) (n : Nat) (f : Axis → Axis) : (d.modAx n f).tables = d.tables := rfl
@[simp] theorem Device.modAx_sched (d : Device) (n : Nat) (f : Axis → Axis) : (d.modAx n f).sched = d.sched := rfl
@[simp] theorem Device.modAx_axes (d : Device) (n : Nat) (f : Axis → Axis) : (d.modAx n f).axes = modNth f n d.axes := rfl
@[simp] theorem Device.modAx_sdi (d : Device) (n : Nat) (f : Axis → Axis) : (d.modAx n f).sdi = d.sdi := rfl
@[simp] theorem Device.modAx_spm (d : Device) (n : Nat) (f : Axis → Axis) : (d.modAx n f).spm = d.spm := rfl
@[simp] theorem Device.modAx_tiles (d : Device) (n : Nat) (f : Axis → Axis) : (d.modAx n f).tiles = d.tiles := rfl
@[simp] theorem Device.modAx_events (d : Device) (n : Nat) (f : Axis → Axis) : (d.modAx n f).events = d.events := rfl
@[simp] theorem Device.modAx_cyclic (d : Device) (n : Nat) (f : Axis → Axis) : (d.modAx n f).cyclic = d.cyclic := rfl
@[simp] theorem Device.modAx_usb (d : Device) (n : Nat) (f : Axis → Axis) : (d.modAx n f).usb = d.usb := rfl
@[simp] theorem Device.modAx_console (d : Device) (n : Nat) (f : Axis → Axis) : (d.modAx n f).console = d.console := rfl
@[simp] theorem Device.modAx_power (d : Device) (n : Nat) (f : Axis → Axis) : (d.modAx n f).power = d.power := rfl
@[simp] theorem Device.modAx_adc (d : Device) (n : Nat) (f : Axis → Axis) : (d.modAx n f).adc = d.adc := rfl
@[simp] theorem Device.modAx_perc (d : Device) (n : Nat) (f : Axis → Axis) : (d.modAx n f).perc = d.perc := rfl
@[simp] theorem Device.modAx_audio (d : Device) (n : Nat) (f : Axis → Axis) : (d.modAx n f).audio = d.audio := rfl
@[simp] theorem Device.modAx_fusion (d : Device) (n : Nat) (f : Axis → Axis) : (d.modAx n f).fusion = d.fusion := rfl
@[simp] theorem Device.modAx_sensors (d : Device) (n : Nat) (f : Axis → Axis) : (d.modAx n f).sensors = d.sensors := rfl
@[simp] theorem Device.modAx_fans (d : Device) (n : Nat) (f : Axis → Axis) : (d.modAx n f).fans = d.fans := rfl
@[simp] theorem Device.modAx_keep (d : Device) (n : Nat) (f : Axis → Axis) : (d.modAx n f).keep = d.keep := rfl
@[simp] theorem Device.modAx_pads (d : Device) (n : Nat) (f : Axis → Axis) : (d.modAx n f).pads = d.pads := rfl
@[simp] theorem Device.modAx_free (d : Device) (n : Nat) (f : Axis → Axis) : (d.modAx n f).free = d.free := rfl
@[simp] theorem Device.modAx_rd (d : Device) (n : Nat) (f : Axis → Axis) (g : Field) (j : Nat) :
    (d.modAx n f).rd g j = d.rd g j := rfl
@[simp] theorem Device.modAx_rdSh (d : Device) (n : Nat) (f : Axis → Axis) (g : Field) (j : Nat) :
    (d.modAx n f).rdSh g j = d.rdSh g j := rfl
@[simp] theorem Device.modAx_on (d : Device) (n : Nat) (f : Axis → Axis) (g : Field) (j : Nat) :
    (d.modAx n f).on g j = d.on g j := rfl
@[simp] theorem Device.modAx_tile (d : Device) (n : Nat) (f : Axis → Axis) (m : Nat) : (d.modAx n f).tile m = d.tile m := rfl
@[simp] theorem Device.modAx_byte (d : Device) (n : Nat) (f : Axis → Axis) (x : Nat) : (d.modAx n f).byte x = d.byte x := rfl

/-! ### `modTile` -/

@[simp] theorem Device.modTile_regs (d : Device) (t : Nat) (f : Tile → Tile) : (d.modTile t f).regs = d.regs := rfl
@[simp] theorem Device.modTile_staged (d : Device) (t : Nat) (f : Tile → Tile) : (d.modTile t f).staged = d.staged := rfl
@[simp] theorem Device.modTile_latches (d : Device) (t : Nat) (f : Tile → Tile) : (d.modTile t f).latches = d.latches := rfl
@[simp] theorem Device.modTile_busRead (d : Device) (t : Nat) (f : Tile → Tile) : (d.modTile t f).busRead = d.busRead := rfl
@[simp] theorem Device.modTile_mem (d : Device) (t : Nat) (f : Tile → Tile) : (d.modTile t f).mem = d.mem := rfl
@[simp] theorem Device.modTile_tables (d : Device) (t : Nat) (f : Tile → Tile) : (d.modTile t f).tables = d.tables := rfl
@[simp] theorem Device.modTile_sched (d : Device) (t : Nat) (f : Tile → Tile) : (d.modTile t f).sched = d.sched := rfl
@[simp] theorem Device.modTile_axes (d : Device) (t : Nat) (f : Tile → Tile) : (d.modTile t f).axes = d.axes := rfl
@[simp] theorem Device.modTile_sdi (d : Device) (t : Nat) (f : Tile → Tile) : (d.modTile t f).sdi = d.sdi := rfl
@[simp] theorem Device.modTile_spm (d : Device) (t : Nat) (f : Tile → Tile) : (d.modTile t f).spm = d.spm := rfl
@[simp] theorem Device.modTile_tiles (d : Device) (t : Nat) (f : Tile → Tile) : (d.modTile t f).tiles = modNth f t d.tiles := rfl
@[simp] theorem Device.modTile_events (d : Device) (t : Nat) (f : Tile → Tile) : (d.modTile t f).events = d.events := rfl
@[simp] theorem Device.modTile_cyclic (d : Device) (t : Nat) (f : Tile → Tile) : (d.modTile t f).cyclic = d.cyclic := rfl
@[simp] theorem Device.modTile_usb (d : Device) (t : Nat) (f : Tile → Tile) : (d.modTile t f).usb = d.usb := rfl
@[simp] theorem Device.modTile_console (d : Device) (t : Nat) (f : Tile → Tile) : (d.modTile t f).console = d.console := rfl
@[simp] theorem Device.modTile_power (d : Device) (t : Nat) (f : Tile → Tile) : (d.modTile t f).power = d.power := rfl
@[simp] theorem Device.modTile_adc (d : Device) (t : Nat) (f : Tile → Tile) : (d.modTile t f).adc = d.adc := rfl
@[simp] theorem Device.modTile_perc (d : Device) (t : Nat) (f : Tile → Tile) : (d.modTile t f).perc = d.perc := rfl
@[simp] theorem Device.modTile_audio (d : Device) (t : Nat) (f : Tile → Tile) : (d.modTile t f).audio = d.audio := rfl
@[simp] theorem Device.modTile_fusion (d : Device) (t : Nat) (f : Tile → Tile) : (d.modTile t f).fusion = d.fusion := rfl
@[simp] theorem Device.modTile_sensors (d : Device) (t : Nat) (f : Tile → Tile) : (d.modTile t f).sensors = d.sensors := rfl
@[simp] theorem Device.modTile_fans (d : Device) (t : Nat) (f : Tile → Tile) : (d.modTile t f).fans = d.fans := rfl
@[simp] theorem Device.modTile_keep (d : Device) (t : Nat) (f : Tile → Tile) : (d.modTile t f).keep = d.keep := rfl
@[simp] theorem Device.modTile_pads (d : Device) (t : Nat) (f : Tile → Tile) : (d.modTile t f).pads = d.pads := rfl
@[simp] theorem Device.modTile_free (d : Device) (t : Nat) (f : Tile → Tile) : (d.modTile t f).free = d.free := rfl
@[simp] theorem Device.modTile_rd (d : Device) (t : Nat) (f : Tile → Tile) (g : Field) (j : Nat) :
    (d.modTile t f).rd g j = d.rd g j := rfl
@[simp] theorem Device.modTile_rdSh (d : Device) (t : Nat) (f : Tile → Tile) (g : Field) (j : Nat) :
    (d.modTile t f).rdSh g j = d.rdSh g j := rfl
@[simp] theorem Device.modTile_on (d : Device) (t : Nat) (f : Tile → Tile) (g : Field) (j : Nat) :
    (d.modTile t f).on g j = d.on g j := rfl
@[simp] theorem Device.modTile_ax (d : Device) (t : Nat) (f : Tile → Tile) (m : Nat) : (d.modTile t f).ax m = d.ax m := rfl
@[simp] theorem Device.modTile_byte (d : Device) (t : Nat) (f : Tile → Tile) (x : Nat) : (d.modTile t f).byte x = d.byte x := rfl

/-! ### `modSched` -/

@[simp] theorem Device.modSched_regs (d : Device) (f : Sched → Sched) : (d.modSched f).regs = d.regs := rfl
@[simp] theorem Device.modSched_staged (d : Device) (f : Sched → Sched) : (d.modSched f).staged = d.staged := rfl
@[simp] theorem Device.modSched_latches (d : Device) (f : Sched → Sched) : (d.modSched f).latches = d.latches := rfl
@[simp] theorem Device.modSched_busRead (d : Device) (f : Sched → Sched) : (d.modSched f).busRead = d.busRead := rfl
@[simp] theorem Device.modSched_mem (d : Device) (f : Sched → Sched) : (d.modSched f).mem = d.mem := rfl
@[simp] theorem Device.modSched_tables (d : Device) (f : Sched → Sched) : (d.modSched f).tables = d.tables := rfl
@[simp] theorem Device.modSched_sched (d : Device) (f : Sched → Sched) : (d.modSched f).sched = f d.sched := rfl
@[simp] theorem Device.modSched_axes (d : Device) (f : Sched → Sched) : (d.modSched f).axes = d.axes := rfl
@[simp] theorem Device.modSched_sdi (d : Device) (f : Sched → Sched) : (d.modSched f).sdi = d.sdi := rfl
@[simp] theorem Device.modSched_spm (d : Device) (f : Sched → Sched) : (d.modSched f).spm = d.spm := rfl
@[simp] theorem Device.modSched_tiles (d : Device) (f : Sched → Sched) : (d.modSched f).tiles = d.tiles := rfl
@[simp] theorem Device.modSched_events (d : Device) (f : Sched → Sched) : (d.modSched f).events = d.events := rfl
@[simp] theorem Device.modSched_cyclic (d : Device) (f : Sched → Sched) : (d.modSched f).cyclic = d.cyclic := rfl
@[simp] theorem Device.modSched_usb (d : Device) (f : Sched → Sched) : (d.modSched f).usb = d.usb := rfl
@[simp] theorem Device.modSched_console (d : Device) (f : Sched → Sched) : (d.modSched f).console = d.console := rfl
@[simp] theorem Device.modSched_power (d : Device) (f : Sched → Sched) : (d.modSched f).power = d.power := rfl
@[simp] theorem Device.modSched_adc (d : Device) (f : Sched → Sched) : (d.modSched f).adc = d.adc := rfl
@[simp] theorem Device.modSched_perc (d : Device) (f : Sched → Sched) : (d.modSched f).perc = d.perc := rfl
@[simp] theorem Device.modSched_audio (d : Device) (f : Sched → Sched) : (d.modSched f).audio = d.audio := rfl
@[simp] theorem Device.modSched_fusion (d : Device) (f : Sched → Sched) : (d.modSched f).fusion = d.fusion := rfl
@[simp] theorem Device.modSched_sensors (d : Device) (f : Sched → Sched) : (d.modSched f).sensors = d.sensors := rfl
@[simp] theorem Device.modSched_fans (d : Device) (f : Sched → Sched) : (d.modSched f).fans = d.fans := rfl
@[simp] theorem Device.modSched_keep (d : Device) (f : Sched → Sched) : (d.modSched f).keep = d.keep := rfl
@[simp] theorem Device.modSched_pads (d : Device) (f : Sched → Sched) : (d.modSched f).pads = d.pads := rfl
@[simp] theorem Device.modSched_free (d : Device) (f : Sched → Sched) : (d.modSched f).free = d.free := rfl
@[simp] theorem Device.modSched_rd (d : Device) (f : Sched → Sched) (g : Field) (j : Nat) :
    (d.modSched f).rd g j = d.rd g j := rfl
@[simp] theorem Device.modSched_rdSh (d : Device) (f : Sched → Sched) (g : Field) (j : Nat) :
    (d.modSched f).rdSh g j = d.rdSh g j := rfl
@[simp] theorem Device.modSched_on (d : Device) (f : Sched → Sched) (g : Field) (j : Nat) :
    (d.modSched f).on g j = d.on g j := rfl
@[simp] theorem Device.modSched_ax (d : Device) (f : Sched → Sched) (m : Nat) : (d.modSched f).ax m = d.ax m := rfl
@[simp] theorem Device.modSched_tile (d : Device) (f : Sched → Sched) (m : Nat) : (d.modSched f).tile m = d.tile m := rfl
@[simp] theorem Device.modSched_byte (d : Device) (f : Sched → Sched) (x : Nat) : (d.modSched f).byte x = d.byte x := rfl

/-! ### `modPower` -/

@[simp] theorem Device.modPower_regs (d : Device) (f : Power → Power) : (d.modPower f).regs = d.regs := rfl
@[simp] theorem Device.modPower_staged (d : Device) (f : Power → Power) : (d.modPower f).staged = d.staged := rfl
@[simp] theorem Device.modPower_latches (d : Device) (f : Power → Power) : (d.modPower f).latches = d.latches := rfl
@[simp] theorem Device.modPower_busRead (d : Device) (f : Power → Power) : (d.modPower f).busRead = d.busRead := rfl
@[simp] theorem Device.modPower_mem (d : Device) (f : Power → Power) : (d.modPower f).mem = d.mem := rfl
@[simp] theorem Device.modPower_tables (d : Device) (f : Power → Power) : (d.modPower f).tables = d.tables := rfl
@[simp] theorem Device.modPower_sched (d : Device) (f : Power → Power) : (d.modPower f).sched = d.sched := rfl
@[simp] theorem Device.modPower_axes (d : Device) (f : Power → Power) : (d.modPower f).axes = d.axes := rfl
@[simp] theorem Device.modPower_sdi (d : Device) (f : Power → Power) : (d.modPower f).sdi = d.sdi := rfl
@[simp] theorem Device.modPower_spm (d : Device) (f : Power → Power) : (d.modPower f).spm = d.spm := rfl
@[simp] theorem Device.modPower_tiles (d : Device) (f : Power → Power) : (d.modPower f).tiles = d.tiles := rfl
@[simp] theorem Device.modPower_events (d : Device) (f : Power → Power) : (d.modPower f).events = d.events := rfl
@[simp] theorem Device.modPower_cyclic (d : Device) (f : Power → Power) : (d.modPower f).cyclic = d.cyclic := rfl
@[simp] theorem Device.modPower_usb (d : Device) (f : Power → Power) : (d.modPower f).usb = d.usb := rfl
@[simp] theorem Device.modPower_console (d : Device) (f : Power → Power) : (d.modPower f).console = d.console := rfl
@[simp] theorem Device.modPower_power (d : Device) (f : Power → Power) : (d.modPower f).power = f d.power := rfl
@[simp] theorem Device.modPower_adc (d : Device) (f : Power → Power) : (d.modPower f).adc = d.adc := rfl
@[simp] theorem Device.modPower_perc (d : Device) (f : Power → Power) : (d.modPower f).perc = d.perc := rfl
@[simp] theorem Device.modPower_audio (d : Device) (f : Power → Power) : (d.modPower f).audio = d.audio := rfl
@[simp] theorem Device.modPower_fusion (d : Device) (f : Power → Power) : (d.modPower f).fusion = d.fusion := rfl
@[simp] theorem Device.modPower_sensors (d : Device) (f : Power → Power) : (d.modPower f).sensors = d.sensors := rfl
@[simp] theorem Device.modPower_fans (d : Device) (f : Power → Power) : (d.modPower f).fans = d.fans := rfl
@[simp] theorem Device.modPower_keep (d : Device) (f : Power → Power) : (d.modPower f).keep = d.keep := rfl
@[simp] theorem Device.modPower_pads (d : Device) (f : Power → Power) : (d.modPower f).pads = d.pads := rfl
@[simp] theorem Device.modPower_free (d : Device) (f : Power → Power) : (d.modPower f).free = d.free := rfl
@[simp] theorem Device.modPower_rd (d : Device) (f : Power → Power) (g : Field) (j : Nat) :
    (d.modPower f).rd g j = d.rd g j := rfl
@[simp] theorem Device.modPower_rdSh (d : Device) (f : Power → Power) (g : Field) (j : Nat) :
    (d.modPower f).rdSh g j = d.rdSh g j := rfl
@[simp] theorem Device.modPower_on (d : Device) (f : Power → Power) (g : Field) (j : Nat) :
    (d.modPower f).on g j = d.on g j := rfl
@[simp] theorem Device.modPower_ax (d : Device) (f : Power → Power) (m : Nat) : (d.modPower f).ax m = d.ax m := rfl
@[simp] theorem Device.modPower_tile (d : Device) (f : Power → Power) (m : Nat) : (d.modPower f).tile m = d.tile m := rfl
@[simp] theorem Device.modPower_byte (d : Device) (f : Power → Power) (x : Nat) : (d.modPower f).byte x = d.byte x := rfl

/-! ### `modEvents` -/

@[simp] theorem Device.modEvents_regs (d : Device) (f : Events → Events) : (d.modEvents f).regs = d.regs := rfl
@[simp] theorem Device.modEvents_staged (d : Device) (f : Events → Events) : (d.modEvents f).staged = d.staged := rfl
@[simp] theorem Device.modEvents_latches (d : Device) (f : Events → Events) : (d.modEvents f).latches = d.latches := rfl
@[simp] theorem Device.modEvents_busRead (d : Device) (f : Events → Events) : (d.modEvents f).busRead = d.busRead := rfl
@[simp] theorem Device.modEvents_mem (d : Device) (f : Events → Events) : (d.modEvents f).mem = d.mem := rfl
@[simp] theorem Device.modEvents_tables (d : Device) (f : Events → Events) : (d.modEvents f).tables = d.tables := rfl
@[simp] theorem Device.modEvents_sched (d : Device) (f : Events → Events) : (d.modEvents f).sched = d.sched := rfl
@[simp] theorem Device.modEvents_axes (d : Device) (f : Events → Events) : (d.modEvents f).axes = d.axes := rfl
@[simp] theorem Device.modEvents_sdi (d : Device) (f : Events → Events) : (d.modEvents f).sdi = d.sdi := rfl
@[simp] theorem Device.modEvents_spm (d : Device) (f : Events → Events) : (d.modEvents f).spm = d.spm := rfl
@[simp] theorem Device.modEvents_tiles (d : Device) (f : Events → Events) : (d.modEvents f).tiles = d.tiles := rfl
@[simp] theorem Device.modEvents_events (d : Device) (f : Events → Events) : (d.modEvents f).events = f d.events := rfl
@[simp] theorem Device.modEvents_cyclic (d : Device) (f : Events → Events) : (d.modEvents f).cyclic = d.cyclic := rfl
@[simp] theorem Device.modEvents_usb (d : Device) (f : Events → Events) : (d.modEvents f).usb = d.usb := rfl
@[simp] theorem Device.modEvents_console (d : Device) (f : Events → Events) : (d.modEvents f).console = d.console := rfl
@[simp] theorem Device.modEvents_power (d : Device) (f : Events → Events) : (d.modEvents f).power = d.power := rfl
@[simp] theorem Device.modEvents_adc (d : Device) (f : Events → Events) : (d.modEvents f).adc = d.adc := rfl
@[simp] theorem Device.modEvents_perc (d : Device) (f : Events → Events) : (d.modEvents f).perc = d.perc := rfl
@[simp] theorem Device.modEvents_audio (d : Device) (f : Events → Events) : (d.modEvents f).audio = d.audio := rfl
@[simp] theorem Device.modEvents_fusion (d : Device) (f : Events → Events) : (d.modEvents f).fusion = d.fusion := rfl
@[simp] theorem Device.modEvents_sensors (d : Device) (f : Events → Events) : (d.modEvents f).sensors = d.sensors := rfl
@[simp] theorem Device.modEvents_fans (d : Device) (f : Events → Events) : (d.modEvents f).fans = d.fans := rfl
@[simp] theorem Device.modEvents_keep (d : Device) (f : Events → Events) : (d.modEvents f).keep = d.keep := rfl
@[simp] theorem Device.modEvents_pads (d : Device) (f : Events → Events) : (d.modEvents f).pads = d.pads := rfl
@[simp] theorem Device.modEvents_free (d : Device) (f : Events → Events) : (d.modEvents f).free = d.free := rfl
@[simp] theorem Device.modEvents_rd (d : Device) (f : Events → Events) (g : Field) (j : Nat) :
    (d.modEvents f).rd g j = d.rd g j := rfl
@[simp] theorem Device.modEvents_rdSh (d : Device) (f : Events → Events) (g : Field) (j : Nat) :
    (d.modEvents f).rdSh g j = d.rdSh g j := rfl
@[simp] theorem Device.modEvents_on (d : Device) (f : Events → Events) (g : Field) (j : Nat) :
    (d.modEvents f).on g j = d.on g j := rfl
@[simp] theorem Device.modEvents_ax (d : Device) (f : Events → Events) (m : Nat) : (d.modEvents f).ax m = d.ax m := rfl
@[simp] theorem Device.modEvents_tile (d : Device) (f : Events → Events) (m : Nat) : (d.modEvents f).tile m = d.tile m := rfl
@[simp] theorem Device.modEvents_byte (d : Device) (f : Events → Events) (x : Nat) : (d.modEvents f).byte x = d.byte x := rfl

/-! ### `modKeep` -/

@[simp] theorem Device.modKeep_regs (d : Device) (f : Keep → Keep) : (d.modKeep f).regs = d.regs := rfl
@[simp] theorem Device.modKeep_staged (d : Device) (f : Keep → Keep) : (d.modKeep f).staged = d.staged := rfl
@[simp] theorem Device.modKeep_latches (d : Device) (f : Keep → Keep) : (d.modKeep f).latches = d.latches := rfl
@[simp] theorem Device.modKeep_busRead (d : Device) (f : Keep → Keep) : (d.modKeep f).busRead = d.busRead := rfl
@[simp] theorem Device.modKeep_mem (d : Device) (f : Keep → Keep) : (d.modKeep f).mem = d.mem := rfl
@[simp] theorem Device.modKeep_tables (d : Device) (f : Keep → Keep) : (d.modKeep f).tables = d.tables := rfl
@[simp] theorem Device.modKeep_sched (d : Device) (f : Keep → Keep) : (d.modKeep f).sched = d.sched := rfl
@[simp] theorem Device.modKeep_axes (d : Device) (f : Keep → Keep) : (d.modKeep f).axes = d.axes := rfl
@[simp] theorem Device.modKeep_sdi (d : Device) (f : Keep → Keep) : (d.modKeep f).sdi = d.sdi := rfl
@[simp] theorem Device.modKeep_spm (d : Device) (f : Keep → Keep) : (d.modKeep f).spm = d.spm := rfl
@[simp] theorem Device.modKeep_tiles (d : Device) (f : Keep → Keep) : (d.modKeep f).tiles = d.tiles := rfl
@[simp] theorem Device.modKeep_events (d : Device) (f : Keep → Keep) : (d.modKeep f).events = d.events := rfl
@[simp] theorem Device.modKeep_cyclic (d : Device) (f : Keep → Keep) : (d.modKeep f).cyclic = d.cyclic := rfl
@[simp] theorem Device.modKeep_usb (d : Device) (f : Keep → Keep) : (d.modKeep f).usb = d.usb := rfl
@[simp] theorem Device.modKeep_console (d : Device) (f : Keep → Keep) : (d.modKeep f).console = d.console := rfl
@[simp] theorem Device.modKeep_power (d : Device) (f : Keep → Keep) : (d.modKeep f).power = d.power := rfl
@[simp] theorem Device.modKeep_adc (d : Device) (f : Keep → Keep) : (d.modKeep f).adc = d.adc := rfl
@[simp] theorem Device.modKeep_perc (d : Device) (f : Keep → Keep) : (d.modKeep f).perc = d.perc := rfl
@[simp] theorem Device.modKeep_audio (d : Device) (f : Keep → Keep) : (d.modKeep f).audio = d.audio := rfl
@[simp] theorem Device.modKeep_fusion (d : Device) (f : Keep → Keep) : (d.modKeep f).fusion = d.fusion := rfl
@[simp] theorem Device.modKeep_sensors (d : Device) (f : Keep → Keep) : (d.modKeep f).sensors = d.sensors := rfl
@[simp] theorem Device.modKeep_fans (d : Device) (f : Keep → Keep) : (d.modKeep f).fans = d.fans := rfl
@[simp] theorem Device.modKeep_keep (d : Device) (f : Keep → Keep) : (d.modKeep f).keep = f d.keep := rfl
@[simp] theorem Device.modKeep_pads (d : Device) (f : Keep → Keep) : (d.modKeep f).pads = d.pads := rfl
@[simp] theorem Device.modKeep_free (d : Device) (f : Keep → Keep) : (d.modKeep f).free = d.free := rfl
@[simp] theorem Device.modKeep_rd (d : Device) (f : Keep → Keep) (g : Field) (j : Nat) :
    (d.modKeep f).rd g j = d.rd g j := rfl
@[simp] theorem Device.modKeep_rdSh (d : Device) (f : Keep → Keep) (g : Field) (j : Nat) :
    (d.modKeep f).rdSh g j = d.rdSh g j := rfl
@[simp] theorem Device.modKeep_on (d : Device) (f : Keep → Keep) (g : Field) (j : Nat) :
    (d.modKeep f).on g j = d.on g j := rfl
@[simp] theorem Device.modKeep_ax (d : Device) (f : Keep → Keep) (m : Nat) : (d.modKeep f).ax m = d.ax m := rfl
@[simp] theorem Device.modKeep_tile (d : Device) (f : Keep → Keep) (m : Nat) : (d.modKeep f).tile m = d.tile m := rfl
@[simp] theorem Device.modKeep_byte (d : Device) (f : Keep → Keep) (x : Nat) : (d.modKeep f).byte x = d.byte x := rfl

/-! ### `modPerc` -/

@[simp] theorem Device.modPerc_regs (d : Device) (f : Perc → Perc) : (d.modPerc f).regs = d.regs := rfl
@[simp] theorem Device.modPerc_staged (d : Device) (f : Perc → Perc) : (d.modPerc f).staged = d.staged := rfl
@[simp] theorem Device.modPerc_latches (d : Device) (f : Perc → Perc) : (d.modPerc f).latches = d.latches := rfl
@[simp] theorem Device.modPerc_busRead (d : Device) (f : Perc → Perc) : (d.modPerc f).busRead = d.busRead := rfl
@[simp] theorem Device.modPerc_mem (d : Device) (f : Perc → Perc) : (d.modPerc f).mem = d.mem := rfl
@[simp] theorem Device.modPerc_tables (d : Device) (f : Perc → Perc) : (d.modPerc f).tables = d.tables := rfl
@[simp] theorem Device.modPerc_sched (d : Device) (f : Perc → Perc) : (d.modPerc f).sched = d.sched := rfl
@[simp] theorem Device.modPerc_axes (d : Device) (f : Perc → Perc) : (d.modPerc f).axes = d.axes := rfl
@[simp] theorem Device.modPerc_sdi (d : Device) (f : Perc → Perc) : (d.modPerc f).sdi = d.sdi := rfl
@[simp] theorem Device.modPerc_spm (d : Device) (f : Perc → Perc) : (d.modPerc f).spm = d.spm := rfl
@[simp] theorem Device.modPerc_tiles (d : Device) (f : Perc → Perc) : (d.modPerc f).tiles = d.tiles := rfl
@[simp] theorem Device.modPerc_events (d : Device) (f : Perc → Perc) : (d.modPerc f).events = d.events := rfl
@[simp] theorem Device.modPerc_cyclic (d : Device) (f : Perc → Perc) : (d.modPerc f).cyclic = d.cyclic := rfl
@[simp] theorem Device.modPerc_usb (d : Device) (f : Perc → Perc) : (d.modPerc f).usb = d.usb := rfl
@[simp] theorem Device.modPerc_console (d : Device) (f : Perc → Perc) : (d.modPerc f).console = d.console := rfl
@[simp] theorem Device.modPerc_power (d : Device) (f : Perc → Perc) : (d.modPerc f).power = d.power := rfl
@[simp] theorem Device.modPerc_adc (d : Device) (f : Perc → Perc) : (d.modPerc f).adc = d.adc := rfl
@[simp] theorem Device.modPerc_perc (d : Device) (f : Perc → Perc) : (d.modPerc f).perc = f d.perc := rfl
@[simp] theorem Device.modPerc_audio (d : Device) (f : Perc → Perc) : (d.modPerc f).audio = d.audio := rfl
@[simp] theorem Device.modPerc_fusion (d : Device) (f : Perc → Perc) : (d.modPerc f).fusion = d.fusion := rfl
@[simp] theorem Device.modPerc_sensors (d : Device) (f : Perc → Perc) : (d.modPerc f).sensors = d.sensors := rfl
@[simp] theorem Device.modPerc_fans (d : Device) (f : Perc → Perc) : (d.modPerc f).fans = d.fans := rfl
@[simp] theorem Device.modPerc_keep (d : Device) (f : Perc → Perc) : (d.modPerc f).keep = d.keep := rfl
@[simp] theorem Device.modPerc_pads (d : Device) (f : Perc → Perc) : (d.modPerc f).pads = d.pads := rfl
@[simp] theorem Device.modPerc_free (d : Device) (f : Perc → Perc) : (d.modPerc f).free = d.free := rfl
@[simp] theorem Device.modPerc_rd (d : Device) (f : Perc → Perc) (g : Field) (j : Nat) :
    (d.modPerc f).rd g j = d.rd g j := rfl
@[simp] theorem Device.modPerc_rdSh (d : Device) (f : Perc → Perc) (g : Field) (j : Nat) :
    (d.modPerc f).rdSh g j = d.rdSh g j := rfl
@[simp] theorem Device.modPerc_on (d : Device) (f : Perc → Perc) (g : Field) (j : Nat) :
    (d.modPerc f).on g j = d.on g j := rfl
@[simp] theorem Device.modPerc_ax (d : Device) (f : Perc → Perc) (m : Nat) : (d.modPerc f).ax m = d.ax m := rfl
@[simp] theorem Device.modPerc_tile (d : Device) (f : Perc → Perc) (m : Nat) : (d.modPerc f).tile m = d.tile m := rfl
@[simp] theorem Device.modPerc_byte (d : Device) (f : Perc → Perc) (x : Nat) : (d.modPerc f).byte x = d.byte x := rfl

/-! ### `modAdc` -/

@[simp] theorem Device.modAdc_regs (d : Device) (f : Adc → Adc) : (d.modAdc f).regs = d.regs := rfl
@[simp] theorem Device.modAdc_staged (d : Device) (f : Adc → Adc) : (d.modAdc f).staged = d.staged := rfl
@[simp] theorem Device.modAdc_latches (d : Device) (f : Adc → Adc) : (d.modAdc f).latches = d.latches := rfl
@[simp] theorem Device.modAdc_busRead (d : Device) (f : Adc → Adc) : (d.modAdc f).busRead = d.busRead := rfl
@[simp] theorem Device.modAdc_mem (d : Device) (f : Adc → Adc) : (d.modAdc f).mem = d.mem := rfl
@[simp] theorem Device.modAdc_tables (d : Device) (f : Adc → Adc) : (d.modAdc f).tables = d.tables := rfl
@[simp] theorem Device.modAdc_sched (d : Device) (f : Adc → Adc) : (d.modAdc f).sched = d.sched := rfl
@[simp] theorem Device.modAdc_axes (d : Device) (f : Adc → Adc) : (d.modAdc f).axes = d.axes := rfl
@[simp] theorem Device.modAdc_sdi (d : Device) (f : Adc → Adc) : (d.modAdc f).sdi = d.sdi := rfl
@[simp] theorem Device.modAdc_spm (d : Device) (f : Adc → Adc) : (d.modAdc f).spm = d.spm := rfl
@[simp] theorem Device.modAdc_tiles (d : Device) (f : Adc → Adc) : (d.modAdc f).tiles = d.tiles := rfl
@[simp] theorem Device.modAdc_events (d : Device) (f : Adc → Adc) : (d.modAdc f).events = d.events := rfl
@[simp] theorem Device.modAdc_cyclic (d : Device) (f : Adc → Adc) : (d.modAdc f).cyclic = d.cyclic := rfl
@[simp] theorem Device.modAdc_usb (d : Device) (f : Adc → Adc) : (d.modAdc f).usb = d.usb := rfl
@[simp] theorem Device.modAdc_console (d : Device) (f : Adc → Adc) : (d.modAdc f).console = d.console := rfl
@[simp] theorem Device.modAdc_power (d : Device) (f : Adc → Adc) : (d.modAdc f).power = d.power := rfl
@[simp] theorem Device.modAdc_adc (d : Device) (f : Adc → Adc) : (d.modAdc f).adc = f d.adc := rfl
@[simp] theorem Device.modAdc_perc (d : Device) (f : Adc → Adc) : (d.modAdc f).perc = d.perc := rfl
@[simp] theorem Device.modAdc_audio (d : Device) (f : Adc → Adc) : (d.modAdc f).audio = d.audio := rfl
@[simp] theorem Device.modAdc_fusion (d : Device) (f : Adc → Adc) : (d.modAdc f).fusion = d.fusion := rfl
@[simp] theorem Device.modAdc_sensors (d : Device) (f : Adc → Adc) : (d.modAdc f).sensors = d.sensors := rfl
@[simp] theorem Device.modAdc_fans (d : Device) (f : Adc → Adc) : (d.modAdc f).fans = d.fans := rfl
@[simp] theorem Device.modAdc_keep (d : Device) (f : Adc → Adc) : (d.modAdc f).keep = d.keep := rfl
@[simp] theorem Device.modAdc_pads (d : Device) (f : Adc → Adc) : (d.modAdc f).pads = d.pads := rfl
@[simp] theorem Device.modAdc_free (d : Device) (f : Adc → Adc) : (d.modAdc f).free = d.free := rfl
@[simp] theorem Device.modAdc_rd (d : Device) (f : Adc → Adc) (g : Field) (j : Nat) :
    (d.modAdc f).rd g j = d.rd g j := rfl
@[simp] theorem Device.modAdc_rdSh (d : Device) (f : Adc → Adc) (g : Field) (j : Nat) :
    (d.modAdc f).rdSh g j = d.rdSh g j := rfl
@[simp] theorem Device.modAdc_on (d : Device) (f : Adc → Adc) (g : Field) (j : Nat) :
    (d.modAdc f).on g j = d.on g j := rfl
@[simp] theorem Device.modAdc_ax (d : Device) (f : Adc → Adc) (m : Nat) : (d.modAdc f).ax m = d.ax m := rfl
@[simp] theorem Device.modAdc_tile (d : Device) (f : Adc → Adc) (m : Nat) : (d.modAdc f).tile m = d.tile m := rfl
@[simp] theorem Device.modAdc_byte (d : Device) (f : Adc → Adc) (x : Nat) : (d.modAdc f).byte x = d.byte x := rfl

/-! ### `modAudio` -/

@[simp] theorem Device.modAudio_regs (d : Device) (f : Audio → Audio) : (d.modAudio f).regs = d.regs := rfl
@[simp] theorem Device.modAudio_staged (d : Device) (f : Audio → Audio) : (d.modAudio f).staged = d.staged := rfl
@[simp] theorem Device.modAudio_latches (d : Device) (f : Audio → Audio) : (d.modAudio f).latches = d.latches := rfl
@[simp] theorem Device.modAudio_busRead (d : Device) (f : Audio → Audio) : (d.modAudio f).busRead = d.busRead := rfl
@[simp] theorem Device.modAudio_mem (d : Device) (f : Audio → Audio) : (d.modAudio f).mem = d.mem := rfl
@[simp] theorem Device.modAudio_tables (d : Device) (f : Audio → Audio) : (d.modAudio f).tables = d.tables := rfl
@[simp] theorem Device.modAudio_sched (d : Device) (f : Audio → Audio) : (d.modAudio f).sched = d.sched := rfl
@[simp] theorem Device.modAudio_axes (d : Device) (f : Audio → Audio) : (d.modAudio f).axes = d.axes := rfl
@[simp] theorem Device.modAudio_sdi (d : Device) (f : Audio → Audio) : (d.modAudio f).sdi = d.sdi := rfl
@[simp] theorem Device.modAudio_spm (d : Device) (f : Audio → Audio) : (d.modAudio f).spm = d.spm := rfl
@[simp] theorem Device.modAudio_tiles (d : Device) (f : Audio → Audio) : (d.modAudio f).tiles = d.tiles := rfl
@[simp] theorem Device.modAudio_events (d : Device) (f : Audio → Audio) : (d.modAudio f).events = d.events := rfl
@[simp] theorem Device.modAudio_cyclic (d : Device) (f : Audio → Audio) : (d.modAudio f).cyclic = d.cyclic := rfl
@[simp] theorem Device.modAudio_usb (d : Device) (f : Audio → Audio) : (d.modAudio f).usb = d.usb := rfl
@[simp] theorem Device.modAudio_console (d : Device) (f : Audio → Audio) : (d.modAudio f).console = d.console := rfl
@[simp] theorem Device.modAudio_power (d : Device) (f : Audio → Audio) : (d.modAudio f).power = d.power := rfl
@[simp] theorem Device.modAudio_adc (d : Device) (f : Audio → Audio) : (d.modAudio f).adc = d.adc := rfl
@[simp] theorem Device.modAudio_perc (d : Device) (f : Audio → Audio) : (d.modAudio f).perc = d.perc := rfl
@[simp] theorem Device.modAudio_audio (d : Device) (f : Audio → Audio) : (d.modAudio f).audio = f d.audio := rfl
@[simp] theorem Device.modAudio_fusion (d : Device) (f : Audio → Audio) : (d.modAudio f).fusion = d.fusion := rfl
@[simp] theorem Device.modAudio_sensors (d : Device) (f : Audio → Audio) : (d.modAudio f).sensors = d.sensors := rfl
@[simp] theorem Device.modAudio_fans (d : Device) (f : Audio → Audio) : (d.modAudio f).fans = d.fans := rfl
@[simp] theorem Device.modAudio_keep (d : Device) (f : Audio → Audio) : (d.modAudio f).keep = d.keep := rfl
@[simp] theorem Device.modAudio_pads (d : Device) (f : Audio → Audio) : (d.modAudio f).pads = d.pads := rfl
@[simp] theorem Device.modAudio_free (d : Device) (f : Audio → Audio) : (d.modAudio f).free = d.free := rfl
@[simp] theorem Device.modAudio_rd (d : Device) (f : Audio → Audio) (g : Field) (j : Nat) :
    (d.modAudio f).rd g j = d.rd g j := rfl
@[simp] theorem Device.modAudio_rdSh (d : Device) (f : Audio → Audio) (g : Field) (j : Nat) :
    (d.modAudio f).rdSh g j = d.rdSh g j := rfl
@[simp] theorem Device.modAudio_on (d : Device) (f : Audio → Audio) (g : Field) (j : Nat) :
    (d.modAudio f).on g j = d.on g j := rfl
@[simp] theorem Device.modAudio_ax (d : Device) (f : Audio → Audio) (m : Nat) : (d.modAudio f).ax m = d.ax m := rfl
@[simp] theorem Device.modAudio_tile (d : Device) (f : Audio → Audio) (m : Nat) : (d.modAudio f).tile m = d.tile m := rfl
@[simp] theorem Device.modAudio_byte (d : Device) (f : Audio → Audio) (x : Nat) : (d.modAudio f).byte x = d.byte x := rfl

/-! ### `modFusion` -/

@[simp] theorem Device.modFusion_regs (d : Device) (f : Fusion → Fusion) : (d.modFusion f).regs = d.regs := rfl
@[simp] theorem Device.modFusion_staged (d : Device) (f : Fusion → Fusion) : (d.modFusion f).staged = d.staged := rfl
@[simp] theorem Device.modFusion_latches (d : Device) (f : Fusion → Fusion) : (d.modFusion f).latches = d.latches := rfl
@[simp] theorem Device.modFusion_busRead (d : Device) (f : Fusion → Fusion) : (d.modFusion f).busRead = d.busRead := rfl
@[simp] theorem Device.modFusion_mem (d : Device) (f : Fusion → Fusion) : (d.modFusion f).mem = d.mem := rfl
@[simp] theorem Device.modFusion_tables (d : Device) (f : Fusion → Fusion) : (d.modFusion f).tables = d.tables := rfl
@[simp] theorem Device.modFusion_sched (d : Device) (f : Fusion → Fusion) : (d.modFusion f).sched = d.sched := rfl
@[simp] theorem Device.modFusion_axes (d : Device) (f : Fusion → Fusion) : (d.modFusion f).axes = d.axes := rfl
@[simp] theorem Device.modFusion_sdi (d : Device) (f : Fusion → Fusion) : (d.modFusion f).sdi = d.sdi := rfl
@[simp] theorem Device.modFusion_spm (d : Device) (f : Fusion → Fusion) : (d.modFusion f).spm = d.spm := rfl
@[simp] theorem Device.modFusion_tiles (d : Device) (f : Fusion → Fusion) : (d.modFusion f).tiles = d.tiles := rfl
@[simp] theorem Device.modFusion_events (d : Device) (f : Fusion → Fusion) : (d.modFusion f).events = d.events := rfl
@[simp] theorem Device.modFusion_cyclic (d : Device) (f : Fusion → Fusion) : (d.modFusion f).cyclic = d.cyclic := rfl
@[simp] theorem Device.modFusion_usb (d : Device) (f : Fusion → Fusion) : (d.modFusion f).usb = d.usb := rfl
@[simp] theorem Device.modFusion_console (d : Device) (f : Fusion → Fusion) : (d.modFusion f).console = d.console := rfl
@[simp] theorem Device.modFusion_power (d : Device) (f : Fusion → Fusion) : (d.modFusion f).power = d.power := rfl
@[simp] theorem Device.modFusion_adc (d : Device) (f : Fusion → Fusion) : (d.modFusion f).adc = d.adc := rfl
@[simp] theorem Device.modFusion_perc (d : Device) (f : Fusion → Fusion) : (d.modFusion f).perc = d.perc := rfl
@[simp] theorem Device.modFusion_audio (d : Device) (f : Fusion → Fusion) : (d.modFusion f).audio = d.audio := rfl
@[simp] theorem Device.modFusion_fusion (d : Device) (f : Fusion → Fusion) : (d.modFusion f).fusion = f d.fusion := rfl
@[simp] theorem Device.modFusion_sensors (d : Device) (f : Fusion → Fusion) : (d.modFusion f).sensors = d.sensors := rfl
@[simp] theorem Device.modFusion_fans (d : Device) (f : Fusion → Fusion) : (d.modFusion f).fans = d.fans := rfl
@[simp] theorem Device.modFusion_keep (d : Device) (f : Fusion → Fusion) : (d.modFusion f).keep = d.keep := rfl
@[simp] theorem Device.modFusion_pads (d : Device) (f : Fusion → Fusion) : (d.modFusion f).pads = d.pads := rfl
@[simp] theorem Device.modFusion_free (d : Device) (f : Fusion → Fusion) : (d.modFusion f).free = d.free := rfl
@[simp] theorem Device.modFusion_rd (d : Device) (f : Fusion → Fusion) (g : Field) (j : Nat) :
    (d.modFusion f).rd g j = d.rd g j := rfl
@[simp] theorem Device.modFusion_rdSh (d : Device) (f : Fusion → Fusion) (g : Field) (j : Nat) :
    (d.modFusion f).rdSh g j = d.rdSh g j := rfl
@[simp] theorem Device.modFusion_on (d : Device) (f : Fusion → Fusion) (g : Field) (j : Nat) :
    (d.modFusion f).on g j = d.on g j := rfl
@[simp] theorem Device.modFusion_ax (d : Device) (f : Fusion → Fusion) (m : Nat) : (d.modFusion f).ax m = d.ax m := rfl
@[simp] theorem Device.modFusion_tile (d : Device) (f : Fusion → Fusion) (m : Nat) : (d.modFusion f).tile m = d.tile m := rfl
@[simp] theorem Device.modFusion_byte (d : Device) (f : Fusion → Fusion) (x : Nat) : (d.modFusion f).byte x = d.byte x := rfl

/-! ### `modUsb` -/

@[simp] theorem Device.modUsb_regs (d : Device) (f : Usb → Usb) : (d.modUsb f).regs = d.regs := rfl
@[simp] theorem Device.modUsb_staged (d : Device) (f : Usb → Usb) : (d.modUsb f).staged = d.staged := rfl
@[simp] theorem Device.modUsb_latches (d : Device) (f : Usb → Usb) : (d.modUsb f).latches = d.latches := rfl
@[simp] theorem Device.modUsb_busRead (d : Device) (f : Usb → Usb) : (d.modUsb f).busRead = d.busRead := rfl
@[simp] theorem Device.modUsb_mem (d : Device) (f : Usb → Usb) : (d.modUsb f).mem = d.mem := rfl
@[simp] theorem Device.modUsb_tables (d : Device) (f : Usb → Usb) : (d.modUsb f).tables = d.tables := rfl
@[simp] theorem Device.modUsb_sched (d : Device) (f : Usb → Usb) : (d.modUsb f).sched = d.sched := rfl
@[simp] theorem Device.modUsb_axes (d : Device) (f : Usb → Usb) : (d.modUsb f).axes = d.axes := rfl
@[simp] theorem Device.modUsb_sdi (d : Device) (f : Usb → Usb) : (d.modUsb f).sdi = d.sdi := rfl
@[simp] theorem Device.modUsb_spm (d : Device) (f : Usb → Usb) : (d.modUsb f).spm = d.spm := rfl
@[simp] theorem Device.modUsb_tiles (d : Device) (f : Usb → Usb) : (d.modUsb f).tiles = d.tiles := rfl
@[simp] theorem Device.modUsb_events (d : Device) (f : Usb → Usb) : (d.modUsb f).events = d.events := rfl
@[simp] theorem Device.modUsb_cyclic (d : Device) (f : Usb → Usb) : (d.modUsb f).cyclic = d.cyclic := rfl
@[simp] theorem Device.modUsb_usb (d : Device) (f : Usb → Usb) : (d.modUsb f).usb = f d.usb := rfl
@[simp] theorem Device.modUsb_console (d : Device) (f : Usb → Usb) : (d.modUsb f).console = d.console := rfl
@[simp] theorem Device.modUsb_power (d : Device) (f : Usb → Usb) : (d.modUsb f).power = d.power := rfl
@[simp] theorem Device.modUsb_adc (d : Device) (f : Usb → Usb) : (d.modUsb f).adc = d.adc := rfl
@[simp] theorem Device.modUsb_perc (d : Device) (f : Usb → Usb) : (d.modUsb f).perc = d.perc := rfl
@[simp] theorem Device.modUsb_audio (d : Device) (f : Usb → Usb) : (d.modUsb f).audio = d.audio := rfl
@[simp] theorem Device.modUsb_fusion (d : Device) (f : Usb → Usb) : (d.modUsb f).fusion = d.fusion := rfl
@[simp] theorem Device.modUsb_sensors (d : Device) (f : Usb → Usb) : (d.modUsb f).sensors = d.sensors := rfl
@[simp] theorem Device.modUsb_fans (d : Device) (f : Usb → Usb) : (d.modUsb f).fans = d.fans := rfl
@[simp] theorem Device.modUsb_keep (d : Device) (f : Usb → Usb) : (d.modUsb f).keep = d.keep := rfl
@[simp] theorem Device.modUsb_pads (d : Device) (f : Usb → Usb) : (d.modUsb f).pads = d.pads := rfl
@[simp] theorem Device.modUsb_free (d : Device) (f : Usb → Usb) : (d.modUsb f).free = d.free := rfl
@[simp] theorem Device.modUsb_rd (d : Device) (f : Usb → Usb) (g : Field) (j : Nat) :
    (d.modUsb f).rd g j = d.rd g j := rfl
@[simp] theorem Device.modUsb_rdSh (d : Device) (f : Usb → Usb) (g : Field) (j : Nat) :
    (d.modUsb f).rdSh g j = d.rdSh g j := rfl
@[simp] theorem Device.modUsb_on (d : Device) (f : Usb → Usb) (g : Field) (j : Nat) :
    (d.modUsb f).on g j = d.on g j := rfl
@[simp] theorem Device.modUsb_ax (d : Device) (f : Usb → Usb) (m : Nat) : (d.modUsb f).ax m = d.ax m := rfl
@[simp] theorem Device.modUsb_tile (d : Device) (f : Usb → Usb) (m : Nat) : (d.modUsb f).tile m = d.tile m := rfl
@[simp] theorem Device.modUsb_byte (d : Device) (f : Usb → Usb) (x : Nat) : (d.modUsb f).byte x = d.byte x := rfl

/-! ### `modCyclic` -/

@[simp] theorem Device.modCyclic_regs (d : Device) (f : Cyclic → Cyclic) : (d.modCyclic f).regs = d.regs := rfl
@[simp] theorem Device.modCyclic_staged (d : Device) (f : Cyclic → Cyclic) : (d.modCyclic f).staged = d.staged := rfl
@[simp] theorem Device.modCyclic_latches (d : Device) (f : Cyclic → Cyclic) : (d.modCyclic f).latches = d.latches := rfl
@[simp] theorem Device.modCyclic_busRead (d : Device) (f : Cyclic → Cyclic) : (d.modCyclic f).busRead = d.busRead := rfl
@[simp] theorem Device.modCyclic_mem (d : Device) (f : Cyclic → Cyclic) : (d.modCyclic f).mem = d.mem := rfl
@[simp] theorem Device.modCyclic_tables (d : Device) (f : Cyclic → Cyclic) : (d.modCyclic f).tables = d.tables := rfl
@[simp] theorem Device.modCyclic_sched (d : Device) (f : Cyclic → Cyclic) : (d.modCyclic f).sched = d.sched := rfl
@[simp] theorem Device.modCyclic_axes (d : Device) (f : Cyclic → Cyclic) : (d.modCyclic f).axes = d.axes := rfl
@[simp] theorem Device.modCyclic_sdi (d : Device) (f : Cyclic → Cyclic) : (d.modCyclic f).sdi = d.sdi := rfl
@[simp] theorem Device.modCyclic_spm (d : Device) (f : Cyclic → Cyclic) : (d.modCyclic f).spm = d.spm := rfl
@[simp] theorem Device.modCyclic_tiles (d : Device) (f : Cyclic → Cyclic) : (d.modCyclic f).tiles = d.tiles := rfl
@[simp] theorem Device.modCyclic_events (d : Device) (f : Cyclic → Cyclic) : (d.modCyclic f).events = d.events := rfl
@[simp] theorem Device.modCyclic_cyclic (d : Device) (f : Cyclic → Cyclic) : (d.modCyclic f).cyclic = f d.cyclic := rfl
@[simp] theorem Device.modCyclic_usb (d : Device) (f : Cyclic → Cyclic) : (d.modCyclic f).usb = d.usb := rfl
@[simp] theorem Device.modCyclic_console (d : Device) (f : Cyclic → Cyclic) : (d.modCyclic f).console = d.console := rfl
@[simp] theorem Device.modCyclic_power (d : Device) (f : Cyclic → Cyclic) : (d.modCyclic f).power = d.power := rfl
@[simp] theorem Device.modCyclic_adc (d : Device) (f : Cyclic → Cyclic) : (d.modCyclic f).adc = d.adc := rfl
@[simp] theorem Device.modCyclic_perc (d : Device) (f : Cyclic → Cyclic) : (d.modCyclic f).perc = d.perc := rfl
@[simp] theorem Device.modCyclic_audio (d : Device) (f : Cyclic → Cyclic) : (d.modCyclic f).audio = d.audio := rfl
@[simp] theorem Device.modCyclic_fusion (d : Device) (f : Cyclic → Cyclic) : (d.modCyclic f).fusion = d.fusion := rfl
@[simp] theorem Device.modCyclic_sensors (d : Device) (f : Cyclic → Cyclic) : (d.modCyclic f).sensors = d.sensors := rfl
@[simp] theorem Device.modCyclic_fans (d : Device) (f : Cyclic → Cyclic) : (d.modCyclic f).fans = d.fans := rfl
@[simp] theorem Device.modCyclic_keep (d : Device) (f : Cyclic → Cyclic) : (d.modCyclic f).keep = d.keep := rfl
@[simp] theorem Device.modCyclic_pads (d : Device) (f : Cyclic → Cyclic) : (d.modCyclic f).pads = d.pads := rfl
@[simp] theorem Device.modCyclic_free (d : Device) (f : Cyclic → Cyclic) : (d.modCyclic f).free = d.free := rfl
@[simp] theorem Device.modCyclic_rd (d : Device) (f : Cyclic → Cyclic) (g : Field) (j : Nat) :
    (d.modCyclic f).rd g j = d.rd g j := rfl
@[simp] theorem Device.modCyclic_rdSh (d : Device) (f : Cyclic → Cyclic) (g : Field) (j : Nat) :
    (d.modCyclic f).rdSh g j = d.rdSh g j := rfl
@[simp] theorem Device.modCyclic_on (d : Device) (f : Cyclic → Cyclic) (g : Field) (j : Nat) :
    (d.modCyclic f).on g j = d.on g j := rfl
@[simp] theorem Device.modCyclic_ax (d : Device) (f : Cyclic → Cyclic) (m : Nat) : (d.modCyclic f).ax m = d.ax m := rfl
@[simp] theorem Device.modCyclic_tile (d : Device) (f : Cyclic → Cyclic) (m : Nat) : (d.modCyclic f).tile m = d.tile m := rfl
@[simp] theorem Device.modCyclic_byte (d : Device) (f : Cyclic → Cyclic) (x : Nat) : (d.modCyclic f).byte x = d.byte x := rfl

/-! ### `setScsN` -/

@[simp] theorem Device.setScsN_regs (d : Device) (level : Bool) : (d.setScsN level).regs = d.regs := rfl
@[simp] theorem Device.setScsN_staged (d : Device) (level : Bool) : (d.setScsN level).staged = d.staged := rfl
@[simp] theorem Device.setScsN_latches (d : Device) (level : Bool) : (d.setScsN level).latches = d.latches := rfl
@[simp] theorem Device.setScsN_busRead (d : Device) (level : Bool) : (d.setScsN level).busRead = d.busRead := rfl
@[simp] theorem Device.setScsN_mem (d : Device) (level : Bool) : (d.setScsN level).mem = d.mem := rfl
@[simp] theorem Device.setScsN_tables (d : Device) (level : Bool) : (d.setScsN level).tables = d.tables := rfl
@[simp] theorem Device.setScsN_sched (d : Device) (level : Bool) : (d.setScsN level).sched = d.sched := rfl
@[simp] theorem Device.setScsN_axes (d : Device) (level : Bool) : (d.setScsN level).axes = d.axes := rfl
@[simp] theorem Device.setScsN_sdi (d : Device) (level : Bool) : (d.setScsN level).sdi = d.sdi := rfl
@[simp] theorem Device.setScsN_spm (d : Device) (level : Bool) : (d.setScsN level).spm = d.spm := rfl
@[simp] theorem Device.setScsN_tiles (d : Device) (level : Bool) : (d.setScsN level).tiles = d.tiles := rfl
@[simp] theorem Device.setScsN_events (d : Device) (level : Bool) : (d.setScsN level).events = d.events := rfl
@[simp] theorem Device.setScsN_cyclic (d : Device) (level : Bool) : (d.setScsN level).cyclic = d.cyclic := rfl
@[simp] theorem Device.setScsN_usb (d : Device) (level : Bool) : (d.setScsN level).usb = d.usb := rfl
@[simp] theorem Device.setScsN_console (d : Device) (level : Bool) : (d.setScsN level).console = d.console := rfl
@[simp] theorem Device.setScsN_power (d : Device) (level : Bool) : (d.setScsN level).power = d.power := rfl
@[simp] theorem Device.setScsN_adc (d : Device) (level : Bool) : (d.setScsN level).adc = d.adc := rfl
@[simp] theorem Device.setScsN_perc (d : Device) (level : Bool) : (d.setScsN level).perc = d.perc := rfl
@[simp] theorem Device.setScsN_audio (d : Device) (level : Bool) : (d.setScsN level).audio = d.audio := rfl
@[simp] theorem Device.setScsN_fusion (d : Device) (level : Bool) : (d.setScsN level).fusion = d.fusion := rfl
@[simp] theorem Device.setScsN_sensors (d : Device) (level : Bool) : (d.setScsN level).sensors = d.sensors := rfl
@[simp] theorem Device.setScsN_fans (d : Device) (level : Bool) : (d.setScsN level).fans = d.fans := rfl
@[simp] theorem Device.setScsN_keep (d : Device) (level : Bool) : (d.setScsN level).keep = d.keep := rfl
@[simp] theorem Device.setScsN_pads (d : Device) (level : Bool) : (d.setScsN level).pads = { d.pads with scsN := level } := rfl
@[simp] theorem Device.setScsN_free (d : Device) (level : Bool) : (d.setScsN level).free = d.free := rfl
@[simp] theorem Device.setScsN_rd (d : Device) (level : Bool) (g : Field) (j : Nat) :
    (d.setScsN level).rd g j = d.rd g j := rfl
@[simp] theorem Device.setScsN_rdSh (d : Device) (level : Bool) (g : Field) (j : Nat) :
    (d.setScsN level).rdSh g j = d.rdSh g j := rfl
@[simp] theorem Device.setScsN_on (d : Device) (level : Bool) (g : Field) (j : Nat) :
    (d.setScsN level).on g j = d.on g j := rfl
@[simp] theorem Device.setScsN_ax (d : Device) (level : Bool) (m : Nat) : (d.setScsN level).ax m = d.ax m := rfl
@[simp] theorem Device.setScsN_tile (d : Device) (level : Bool) (m : Nat) : (d.setScsN level).tile m = d.tile m := rfl
@[simp] theorem Device.setScsN_byte (d : Device) (level : Bool) (x : Nat) : (d.setScsN level).byte x = d.byte x := rfl

/-! ### `put` -/

@[simp] theorem Device.put_regs (d : Device) (a : Nat) (bs : List Byte) : (d.put a bs).regs = d.regs := rfl
@[simp] theorem Device.put_staged (d : Device) (a : Nat) (bs : List Byte) : (d.put a bs).staged = d.staged := rfl
@[simp] theorem Device.put_latches (d : Device) (a : Nat) (bs : List Byte) : (d.put a bs).latches = d.latches := rfl
@[simp] theorem Device.put_busRead (d : Device) (a : Nat) (bs : List Byte) : (d.put a bs).busRead = d.busRead := rfl
@[simp] theorem Device.put_mem (d : Device) (a : Nat) (bs : List Byte) : (d.put a bs).mem = memPutAll d.mem a bs := rfl
@[simp] theorem Device.put_tables (d : Device) (a : Nat) (bs : List Byte) : (d.put a bs).tables = d.tables := rfl
@[simp] theorem Device.put_sched (d : Device) (a : Nat) (bs : List Byte) : (d.put a bs).sched = d.sched := rfl
@[simp] theorem Device.put_axes (d : Device) (a : Nat) (bs : List Byte) : (d.put a bs).axes = d.axes := rfl
@[simp] theorem Device.put_sdi (d : Device) (a : Nat) (bs : List Byte) : (d.put a bs).sdi = d.sdi := rfl
@[simp] theorem Device.put_spm (d : Device) (a : Nat) (bs : List Byte) : (d.put a bs).spm = d.spm := rfl
@[simp] theorem Device.put_tiles (d : Device) (a : Nat) (bs : List Byte) : (d.put a bs).tiles = d.tiles := rfl
@[simp] theorem Device.put_events (d : Device) (a : Nat) (bs : List Byte) : (d.put a bs).events = d.events := rfl
@[simp] theorem Device.put_cyclic (d : Device) (a : Nat) (bs : List Byte) : (d.put a bs).cyclic = d.cyclic := rfl
@[simp] theorem Device.put_usb (d : Device) (a : Nat) (bs : List Byte) : (d.put a bs).usb = d.usb := rfl
@[simp] theorem Device.put_console (d : Device) (a : Nat) (bs : List Byte) : (d.put a bs).console = d.console := rfl
@[simp] theorem Device.put_power (d : Device) (a : Nat) (bs : List Byte) : (d.put a bs).power = d.power := rfl
@[simp] theorem Device.put_adc (d : Device) (a : Nat) (bs : List Byte) : (d.put a bs).adc = d.adc := rfl
@[simp] theorem Device.put_perc (d : Device) (a : Nat) (bs : List Byte) : (d.put a bs).perc = d.perc := rfl
@[simp] theorem Device.put_audio (d : Device) (a : Nat) (bs : List Byte) : (d.put a bs).audio = d.audio := rfl
@[simp] theorem Device.put_fusion (d : Device) (a : Nat) (bs : List Byte) : (d.put a bs).fusion = d.fusion := rfl
@[simp] theorem Device.put_sensors (d : Device) (a : Nat) (bs : List Byte) : (d.put a bs).sensors = d.sensors := rfl
@[simp] theorem Device.put_fans (d : Device) (a : Nat) (bs : List Byte) : (d.put a bs).fans = d.fans := rfl
@[simp] theorem Device.put_keep (d : Device) (a : Nat) (bs : List Byte) : (d.put a bs).keep = d.keep := rfl
@[simp] theorem Device.put_pads (d : Device) (a : Nat) (bs : List Byte) : (d.put a bs).pads = d.pads := rfl
@[simp] theorem Device.put_free (d : Device) (a : Nat) (bs : List Byte) : (d.put a bs).free = d.free := rfl
@[simp] theorem Device.put_rd (d : Device) (a : Nat) (bs : List Byte) (g : Field) (j : Nat) :
    (d.put a bs).rd g j = d.rd g j := rfl
@[simp] theorem Device.put_rdSh (d : Device) (a : Nat) (bs : List Byte) (g : Field) (j : Nat) :
    (d.put a bs).rdSh g j = d.rdSh g j := rfl
@[simp] theorem Device.put_on (d : Device) (a : Nat) (bs : List Byte) (g : Field) (j : Nat) :
    (d.put a bs).on g j = d.on g j := rfl
@[simp] theorem Device.put_ax (d : Device) (a : Nat) (bs : List Byte) (m : Nat) : (d.put a bs).ax m = d.ax m := rfl
@[simp] theorem Device.put_tile (d : Device) (a : Nat) (bs : List Byte) (m : Nat) : (d.put a bs).tile m = d.tile m := rfl

end Sys2Proof.Machine
end

