-- ==== Sys2Proof/Laws/Registers.lean ====
section
/-! SUPPORT. Reading a register field after a write of the same or of another: the live value, the shadow, and the flags,
counters and queues that the shared operations keep beside them. -/
namespace Sys2Proof.Machine

/-- Which register file holds the live value of an access code. -/
def Acc.bank : Acc → Nat
  | .rcBG => 1
  | .rcD => 2
  | .rcS => 3
  | .rw => 0
  | .ro => 0
  | .w1c => 0
  | .wo => 0
  | .sh => 0
  | .wd => 0

/-- Register `i` of field `f` and register `j` of field `g` lie in different places. -/
def apart (f : Field) (i : Nat) (g : Field) (j : Nat) : Prop := f.acc.bank ≠ g.acc.bank ∨ f.key i ≠ g.key j

@[simp] theorem Regs.live_setLive_same (r : Regs) (a : Acc) (t : RegFile) : (r.setLive a t).live a = t := by
  cases a <;> rfl

theorem Regs.live_setLive_bank {a b : Acc} (h : a.bank = b.bank) (r : Regs) (t : RegFile) :
    (r.setLive a t).live b = t := by
  cases a <;> cases b <;> first | rfl | simp [Acc.bank] at h

theorem Regs.live_setLive_other {a b : Acc} (h : a.bank ≠ b.bank) (r : Regs) (t : RegFile) :
    (r.setLive a t).live b = r.live b := by
  cases a <;> cases b <;> first | rfl | simp [Acc.bank] at h

theorem Regs.live_bank {a b : Acc} (h : a.bank = b.bank) (r : Regs) : r.live a = r.live b := by
  cases a <;> cases b <;> first | rfl | simp [Acc.bank] at h

/-- A field just written reads the value written, cut to its width. -/
@[simp] theorem Device.rd_wr_same (d : Device) (f : Field) (i v : Nat) : (d.wr f i v).rd f i = v % 2 ^ f.width := by
  simp [Device.rd, Device.wr]

/-- A write leaves every field in another place as it was. -/
theorem Device.rd_wr_other (d : Device) {f g : Field} {i j : Nat} (h : apart f i g j) (v : Nat) :
    (d.wr f i v).rd g j = d.rd g j := by
  rcases Classical.em (f.acc.bank = g.acc.bank) with hb | hb
  · have hk : g.key j ≠ f.key i := by
      rcases h with h | h
      · exact absurd hb h
      · exact fun e => h e.symm
    simp [Device.rd, Device.wr, Regs.live_setLive_bank hb, sparseGet_put_other hk, Regs.live_bank hb]
  · simp [Device.rd, Device.wr, Regs.live_setLive_other hb]

/-- A live write leaves the shadows' file alone. -/
@[simp] theorem Regs.sh_setLive (r : Regs) (a : Acc) (t : RegFile) : (r.setLive a t).sh = r.sh := by cases a <;> rfl

/-- A shadow write gives no live value. -/
@[simp] theorem Device.rd_wrSh (d : Device) (f g : Field) (i j v : Nat) : (d.wrSh f i v).rd g j = d.rd g j := by
  unfold Device.rd Device.wrSh Regs.live
  cases g.acc <;> rfl

/-- A shadow just written reads the value written, cut to its width. -/
@[simp] theorem Device.rdSh_wrSh_same (d : Device) (f : Field) (i v : Nat) :
    (d.wrSh f i v).rdSh f i = v % 2 ^ f.width := by
  simp [Device.rdSh, Device.wrSh]

/-- A shadow write leaves the shadows under other keys as they were. -/
theorem Device.rdSh_wrSh_other (d : Device) {f g : Field} {i j : Nat} (h : g.key j ≠ f.key i) (v : Nat) :
    (d.wrSh f i v).rdSh g j = d.rdSh g j := by
  have : (d.wrSh f i v).rd g j = d.rd g j := d.rd_wrSh f g i j v
  simp only [Device.rdSh, this]
  simp [Device.wrSh, sparseGet_put_other h]

end Sys2Proof.Machine
end

