-- ==== Sys2Proof/Laws/Blocks.lean ====
section
/-! SUPPORT. What shared operations of the blocks can do, said once each: showing the clocks, a write of perception, and an
acknowledged packet of the USB port. -/
namespace Sys2Proof.Machine

/-- Showing the clocks writes CLK_STAT alone. -/
theorem Device.showClocks_rd (d : Device) {g : Field} {j : Nat}
    (h : apart Reg.CLK_STAT_L.RUN 0 g j ∧ apart Reg.CLK_STAT_H.RUN 0 g j) : d.showClocks.rd g j = d.rd g j := by
  unfold Device.showClocks
  rw [Device.rd_wr_other _ h.2, Device.rd_wr_other _ h.1]
  rfl

/-- Showing the clocks takes one free value. -/
theorem Device.showClocks_keeps (d : Device) :
    d.showClocks.mem = d.mem ∧ d.showClocks.axes = d.axes ∧ d.showClocks.tiles = d.tiles ∧ d.showClocks.sched = d.sched
      ∧ d.showClocks.power = d.power ∧ d.showClocks.free = d.free + 1 := ⟨rfl, rfl, rfl, rfl, rfl, rfl⟩

/-- A write of perception changes its buffer alone, and nothing in the chain memory (R16). -/
theorem Device.perceptionWrite_byte (d : Device) {a x : Nat} {bs : List Byte}
    (h : x < a ∨ a + bs.length ≤ x ∨ (0x10080000 ≤ x ∧ x < 0x100E4000)) : (d.perceptionWrite a bs).byte x = d.byte x := by
  unfold Device.perceptionWrite
  split
  · show memByte (memPutAll (memPutAll d.mem a _) _ _) x = memByte d.mem x
    rw [memByte_memPutAll_outside, memByte_memPutAll_outside]
    all_goals simp only [List.length_take, List.length_drop]; omega
  · rfl

/-- An acknowledged packet moves the transfer's ring alone, and the transfer on by a packet at most (R282). -/
theorem Device.ackPacket_cases (d : Device) (x : InXfer) :
    ((d.ackPacket x).1 = none ∨ ∃ n ≤ x.acked + d.bulkPacket, (d.ackPacket x).1 = some { x with acked := n })
      ∧ (∀ {g : Field} {j : Nat}, apart Reg.RING_CI.CI x.ring g j → (d.ackPacket x).2.rd g j = d.rd g j) := by
  unfold Device.ackPacket
  refine ⟨?_, fun {g j} h => ?_⟩
  · simp only
    split
    · exact .inl rfl
    · exact .inr ⟨_, Nat.min_le_right _ _, rfl⟩
  · simp only
    split
    · exact Device.rd_wr_other _ h _
    · rfl

end Sys2Proof.Machine
end

