-- ==== Sys2Proof/Laws/Bus.lean ====
section
/-! SUPPORT. What a write of a register word does, said once: nothing while no requester reaches the bus, else the fields
take it and the address's own effect follows. -/
namespace Sys2Proof.Machine

/-- A word write in the window is a bus write. -/
theorem Device.writeAt_window {a : Nat} (h : a < 0x10000) (d : Device) (v : Nat) :
    d.writeAt false a v = d.busWrite a v := by
  simp [Device.writeAt, h, Device.busWrite]

/-- REGISTER_WRITE at a word address of the window is a bus write. -/
theorem exec_registerWrite {a : Nat} (h4 : a % 4 = 0) (h : a < 0x10000) (v : Word) (s : State) :
    exec (.registerWrite (BitVec.ofNat 32 a) v) s = s.devStep (fun d => d.busWrite a v.toNat) := by
  have h1 : (BitVec.ofNat 32 a).toNat = a := by simp; omega
  have h2 : mapped a = true := by simp [mapped]; omega
  simp only [exec, execRegisterWrite, h1, h2, h4, Device.writeAt_window h]
  simp

/-- While no requester reaches the bus a write has no effect. -/
theorem Device.busWrite_off {d : Device} (h : d.busOff = true) (a v : Nat) : d.busWrite a v = d := by
  simp [Device.busWrite, Device.writeReg, h]

/-- Only addresses of the USB block can be hidden. -/
theorem Device.usbHidden_outside (d : Device) {a : Nat} (h : a < 0xD100 ∨ 0xD200 ≤ a) : d.usbHidden a = false := by
  simp [Device.usbHidden]; omega

/-- A write at an address that is no WO action, mapped direction, routing byte, scruple or staging area: the fields take
it, and what follows is `afterWrite`. -/
theorem Device.busWrite_eq {d : Device} {a : Nat} (hb : d.busOff = false) (hh : d.usbHidden a = false)
    (hn : ownEffect a = false ∨ a ∈ [0x404, 0x408, 0x608, 0x60C, 0xB084, 0xB088, 0xD000, 0xD100, 0xD118]
      ∨ (0x1200 ≤ a ∧ a < 0x1254)) (v : Nat) :
    d.busWrite a v = (d.writeFields a v 0xFFFFFFFF).afterWrite d false a v 0xFFFFFFFF := by
  have : a ≠ 0x3000 ∧ a ≠ 0x100 ∧ a ≠ 0x3C ∧ ¬ (0x1000 ≤ a ∧ a < 0x1200) ∧ ¬ (0x1300 ≤ a ∧ a < 0x1380) ∧ a ≠ 0x610
      ∧ a ≠ 0x614 ∧ ¬ (0xC400 ≤ a ∧ a < 0xCC00) := by
    simp [ownEffect] at hn; omega
  obtain ⟨h1, h2, h3, h4, h5, h6, h7, h8⟩ := this
  unfold Device.busWrite Device.writeReg
  rw [hb, hh, if_neg (by simp), if_neg h1, if_neg h2, if_neg h3, if_neg h4, if_neg h5, if_neg h6, if_neg h7,
    if_neg (by tauto)]

/-- What follows the write of an enable that RESTRICTED mode ignores (R531): nothing where it stays, back to 0 where it
may not be set, else its action. -/
theorem Device.enableWritten_cases (w d : Device) (f : Field) (i : Nat) (act : Bool → Device → Device) :
    (w.on f i = d.on f i → w.enableWritten d f i act = w)
    ∧ (d.on f i = false → w.on f i = true → w.on Reg.IMG_STAT.RESTRICTED = true → w.enableWritten d f i act = w.wr f i 0)
    ∧ (d.on f i = false → w.on f i = true → w.on Reg.IMG_STAT.RESTRICTED = false → w.enableWritten d f i act = act true w)
    ∧ (d.on f i = true → w.on f i = false → w.enableWritten d f i act = act false w) := by
  have h0 : (w.wr f i 0).on f i = false := by simp only [Device.on, Device.rd_wr_same, Nat.zero_mod]; rfl
  refine ⟨fun h => ?_, fun h h1 h2 => ?_, fun h h1 h2 => ?_, fun h h1 => ?_⟩ <;>
    simp [Device.enableWritten, Device.unrestricted, rose, turned, *]

end Sys2Proof.Machine
end

