-- ==== Sys2Proof/Laws/Taking.lean ====
section
/-! SUPPORT. The taking of a command entry: what an accepted entry leads to, said once for every command. -/
namespace Sys2Proof.Machine

/-- Register `j` of field `g` is none of the scheduler's own status registers. -/
def beyondSched (g : Field) (j : Nat) : Prop :=
  g.acc.bank ≠ 0 ∨ ((g.key j < 0x18180 ∨ 0x18280 ≤ g.key j) ∧ g.key j ≠ Reg.MB_STAT.IN_FLIGHT.key 0)

/-- A QP_STAT field of a pair is apart from every register beyond the scheduler's own. -/
theorem apart_qpStat {f g : Field} {i j : Nat} (hb : f.acc.bank = 0) (hi : i < 8)
    (hf : f.base = 0x3030 ∧ f.stride = 4 ∧ f.lsb < 32) (h : beyondSched g j) : apart f i g j := by
  rcases h with h | ⟨h, -⟩
  · exact .inl (by rw [hb]; exact fun e => h e.symm)
  · obtain ⟨h1, h2, h3⟩ := hf
    refine .inr fun e => ?_
    have : f.key i = (0x3030 + 4 * i) * 8 + f.lsb := by simp [Field.key, Field.addr, h1, h2]
    omega

/-- The refreshed status registers leave every other register as it was. -/
theorem Device.refreshSched_rd (d : Device) {g : Field} {j : Nat} (h : beyondSched g j) :
    d.refreshSched.rd g j = d.rd g j := by
  have h0 : apart Reg.MB_STAT.IN_FLIGHT 0 g j := by
    rcases h with h | ⟨-, h⟩
    · exact .inl (fun e => h (by rw [← e]; rfl))
    · exact .inr (fun e => h e.symm)
  have key : ∀ (l : List Nat), (∀ i ∈ l, i < 8) → ∀ x : Device,
      (l.foldl (fun d q =>
        let held := (d.sched.held.filter (fun (h : HeldCpl) => h.pair == q)).length
        let d := d.wr Reg.QP_STAT.TASKS q (d.sched.tasks.filter (fun (t : Task) => t.pair == q)).length
        let d := d.wr Reg.QP_STAT.HELD q held
        let d := if (d.freeTag q).isSome then d.wr Reg.QP_STAT.TAG_WAIT q 0 else d
        d.wr Reg.QP_STAT.CPL_FULL q (b2n (0 < held))) x).rd g j = x.rd g j := by
    intro l hl
    induction l with
    | nil => intro x; rfl
    | cons i t ih =>
      intro x
      have hi : i < 8 := hl i (by simp)
      rw [List.foldl_cons, ih (fun k hk => hl k (by simp [hk]))]
      have hw (y : Device) : (if (y.freeTag i).isSome then y.wr Reg.QP_STAT.TAG_WAIT i 0 else y).rd g j = y.rd g j := by
        split
        · exact Device.rd_wr_other _ (apart_qpStat rfl hi ⟨rfl, rfl, by decide⟩ h) _
        · rfl
      dsimp only
      rw [Device.rd_wr_other _ (apart_qpStat rfl hi ⟨rfl, rfl, by decide⟩ h), hw,
        Device.rd_wr_other _ (apart_qpStat rfl hi ⟨rfl, rfl, by decide⟩ h),
        Device.rd_wr_other _ (apart_qpStat rfl hi ⟨rfl, rfl, by decide⟩ h)]
  have := key (List.range 8) (by simp) (d.wr Reg.MB_STAT.IN_FLIGHT 0 d.sched.tasks.length)
  unfold Device.refreshSched Device.each
  exact this.trans (d.rd_wr_other h0 _)

/-- What no turn of a loop over units changes, the loop does not change. -/
theorem Device.each_keeps {α : Type} (g : Device → α) {f : Nat → Device → Device} (h : ∀ i x, g (f i x) = g x)
    (d : Device) (n : Nat) : g (d.each n f) = g d := by
  unfold Device.each
  generalize List.range n = l
  induction l generalizing d with
  | nil => rfl
  | cons i t ih => rw [List.foldl_cons, ih, h]

@[simp] theorem Device.refreshSched_mem (d : Device) : d.refreshSched.mem = d.mem := by
  unfold Device.refreshSched
  exact Device.each_keeps Device.mem (fun i x => by simp only [Device.wr_mem]; split <;> rfl) _ 8
@[simp] theorem Device.refreshSched_events (d : Device) : d.refreshSched.events = d.events := by
  unfold Device.refreshSched
  exact Device.each_keeps Device.events (fun i x => by simp only [Device.wr_events]; split <;> rfl) _ 8
@[simp] theorem Device.refreshSched_usb (d : Device) : d.refreshSched.usb = d.usb := by
  unfold Device.refreshSched
  exact Device.each_keeps Device.usb (fun i x => by simp only [Device.wr_usb]; split <;> rfl) _ 8

@[simp] theorem Device.refreshSched_sched (d : Device) : d.refreshSched.sched = d.sched := by
  exact Device.reports.sched d.refreshSched_reports

/-- The device with an entry's task reads every register beyond the scheduler's own as before. -/
theorem Device.tagged_rd (d : Device) (op : Nat) (e : Entry) {g : Field} {j : Nat} (h : beyondSched g j) :
    (d.tagged op e).rd g j = d.rd g j := by
  unfold Device.tagged
  rw [Device.refreshSched_rd _ h, Device.modSched_rd]

/-- The device once the task executes reads every register beyond the scheduler's own as before. -/
theorem Device.begun_rd (d : Device) (op : Nat) (e : Entry) {g : Field} {j : Nat} (h : beyondSched g j) :
    (d.begun op e).rd g j = d.rd g j := by
  unfold Device.begun Device.passBegins Device.modTask
  rw [Device.modSched_rd, Device.modSched_rd, d.tagged_rd op e h]

/-- A begun task has changed the scheduler and its status registers, and nothing else. -/
theorem Device.begun_schedules (d : Device) (op : Nat) (e : Entry) : d.schedules (d.begun op e) := by
  unfold Device.begun Device.tagged
  exact Device.schedules.trans (Device.modSched_schedules ..) (Device.schedules.trans
    (Device.schedules_of_reports (Device.refreshSched_reports _))
    (Device.schedules.trans (Device.modTask_schedules ..) (Device.modSched_schedules ..)))

@[simp] theorem Device.begun_mem (d : Device) (op : Nat) (e : Entry) : (d.begun op e).mem = d.mem := by
  unfold Device.begun Device.passBegins Device.modTask Device.tagged
  simp
@[simp] theorem Device.begun_events (d : Device) (op : Nat) (e : Entry) : (d.begun op e).events = d.events := by
  unfold Device.begun Device.passBegins Device.modTask Device.tagged
  simp
@[simp] theorem Device.begun_usb (d : Device) (op : Nat) (e : Entry) : (d.begun op e).usb = d.usb := by
  unfold Device.begun Device.passBegins Device.modTask Device.tagged
  simp
@[simp] theorem Device.begun_power (d : Device) (op : Nat) (e : Entry) : (d.begun op e).power = d.power :=
  Device.schedules.power (d.begun_schedules op e)
@[simp] theorem Device.begun_keep (d : Device) (op : Nat) (e : Entry) : (d.begun op e).keep = d.keep :=
  Device.schedules.keep (d.begun_schedules op e)
@[simp] theorem Device.begun_axes (d : Device) (op : Nat) (e : Entry) : (d.begun op e).axes = d.axes :=
  Device.schedules.axes (d.begun_schedules op e)
@[simp] theorem Device.begun_tiles (d : Device) (op : Nat) (e : Entry) : (d.begun op e).tiles = d.tiles :=
  Device.schedules.tiles (d.begun_schedules op e)
@[simp] theorem Device.begun_tables (d : Device) (op : Nat) (e : Entry) : (d.begun op e).tables = d.tables :=
  Device.schedules.tables (d.begun_schedules op e)
@[simp] theorem Device.begun_adc (d : Device) (op : Nat) (e : Entry) : (d.begun op e).adc = d.adc :=
  Device.schedules.adc (d.begun_schedules op e)
@[simp] theorem Device.begun_audio (d : Device) (op : Nat) (e : Entry) : (d.begun op e).audio = d.audio :=
  Device.schedules.audio (d.begun_schedules op e)
@[simp] theorem Device.begun_perc (d : Device) (op : Nat) (e : Entry) : (d.begun op e).perc = d.perc :=
  Device.schedules.perc (d.begun_schedules op e)

/-- A task that has just begun runs in a pass that has written no task flag yet. -/
@[simp] theorem Device.begun_onOk (d : Device) (op : Nat) (e : Entry) : (d.begun op e).sched.onOk = [] := rfl
@[simp] theorem Device.begun_grain (d : Device) (op : Nat) (e : Entry) : (d.begun op e).grain = d.grain := by
  have h1 := d.begun_rd op e (g := Reg.GRAIN_CNT_L.COUNT) (j := 0) (by unfold beyondSched; decide)
  have h2 := d.begun_rd op e (g := Reg.GRAIN_CNT_H.COUNT) (j := 0) (by unfold beyondSched; decide)
  simp only [Device.grain, h1, h2]
@[simp] theorem Device.begun_loops (d : Device) (op : Nat) (e : Entry) : (d.begun op e).loops = d.loops := by
  unfold Device.loops
  rw [d.begun_grain, d.begun_power]
@[simp] theorem Device.begun_mode (d : Device) (op : Nat) (e : Entry) : (d.begun op e).mode = d.mode := by
  have h1 := d.begun_rd op e (g := Reg.PWR_STAT.MODE) (j := 0) (by unfold beyondSched; decide)
  simp only [Device.mode, h1, d.begun_power]
@[simp] theorem Device.begun_taskFlags (d : Device) (op : Nat) (e : Entry) : (d.begun op e).taskFlags = d.taskFlags := by
  have h1 := d.begun_rd op e (g := Reg.TASK_FLAGS.FLAGS) (j := 0) (by unfold beyondSched; decide)
  have h2 := d.begun_rd op e (g := Reg.TASK_FLAGS.FLAGS) (j := 1) (by unfold beyondSched; decide)
  simp only [Device.taskFlags, h1, h2]
@[simp] theorem Device.begun_motionRuns (d : Device) (op : Nat) (e : Entry) : (d.begun op e).motionRuns = d.motionRuns := by
  simp only [Device.motionRuns, Device.running, Device.begun_mode, d.begun_power]

/-- The tag of an entry that is taken is free. -/
theorem Device.tagOk_free {d : Device} {e : Entry} (h : d.tagOk e) : d.task? (d.tagFor e) = none := by
  obtain ⟨h1, h2⟩ := h
  unfold Device.tagFor
  split
  · have hs : (d.freeTag e.pair.val).isSome = true := by
      simp only [Device.canTake, Bool.and_eq_true] at h1
      exact h1.1.2
    obtain ⟨t, ht⟩ := Option.isSome_iff_exists.mp hs
    rw [ht, Option.getD_some]
    have := List.find?_some ht
    simp only [Bool.and_eq_true, Option.isNone_iff_eq_none] at this
    exact this.1
  · exact (h2 (by assumption)).2

/-- The tasks of the device that an entry has joined. -/
theorem Device.tagged_tasks (d : Device) (op : Nat) (e : Entry) :
    (d.tagged op e).sched.tasks = d.sched.tasks ++ [d.newTask op e] := by
  simp [Device.tagged]

/-- The task of an entry that has been taken is found under its tag. -/
theorem Device.tagged_task {d : Device} {e : Entry} (h : d.tagOk e) (op : Nat) :
    (d.tagged op e).task? (d.tagFor e) = some (d.newTask op e) := by
  have hf := Device.tagOk_free h
  unfold Device.task? at hf ⊢
  rw [d.tagged_tasks op e, List.find?_append, hf]
  simp [Device.newTask]

/-- The entry's judgement does not depend on the scheduler's own registers. -/
theorem Device.judge_tagged (d : Device) (op : Nat) (e : Entry) : (d.tagged op e).judge op e = d.judge op e := by
  have : (d.tagged op e).on Reg.IMG_STAT.RESTRICTED = d.on Reg.IMG_STAT.RESTRICTED := by
    unfold Device.on
    rw [d.tagged_rd op e (.inr (by decide))]
  simp only [Device.judge, this]

/-- The taking of an entry with its tag. -/
theorem Device.admit_tagOk {d : Device} {e : Entry} (h : d.tagOk e) (op : Nat) :
    d.admitEntry op e = (match d.judge op e with
      | some (st, r) => (((d.tagged op e).complete (d.tagFor e) st true r), none)
      | none => (d.tagged op e, some (d.tagFor e))) := by
  obtain ⟨h1, h2⟩ := h
  have ht : (if (e.tag != 0xFF) = true then e.tag.toNat else (d.freeTag e.pair.val).getD 0) = d.tagFor e := by
    unfold Device.tagFor
    by_cases hx : e.tag = 0xFF <;> simp [hx]
  have hno : (e.tag != 0xFF && (!(d.ownTags e.pair.val).contains (d.tagFor e) || (d.task? (d.tagFor e)).isSome)) = false := by
    by_cases hx : e.tag = 0xFF
    · simp [hx]
    · have h3 := h2 hx
      have htag : d.tagFor e = e.tag.toNat := if_neg hx
      rw [htag, h3.1, h3.2]
      simp
  have hj := d.judge_tagged op e
  unfold Device.admitEntry
  simp only [h1, Bool.not_true, Bool.false_eq_true, ↓reduceIte]
  rw [ht, hno]
  simp only [Bool.false_eq_true, ↓reduceIte]
  have hd : (d.modSched (fun s => { s with
      tasks := s.tasks ++ [(⟨e.pair.val, d.tagFor e, !(e.tag != 0xFF), op, e, .waiting,
        d.waitHolds e, d.sched.clock, none, false⟩ : Task)] })).refreshSched
      = d.tagged op e := by
    unfold Device.tagged Device.newTask
    all_goals simp [bne]
  rw [hd, hj]
  all_goals (cases d.judge op e <;> rfl)

/-- An accepted entry starts: the command's effect is the effect on the device in which its task executes. -/
theorem Device.submit_accepts {d : Device} {op : Nat} {e : Entry} (h : d.accepts op e) (run : Nat → Device → Device) :
    d.submit op run e = run (d.tagFor e) (d.begun op e) := by
  obtain ⟨h1, h2, h3, h4⟩ := h
  have hw : ∀ x : Device, x.waitHolds e = true := fun x => by simp [Device.waitHolds, h3]
  have hr : (d.tagged op e).ready (d.newTask op e) = true := by
    simp [Device.ready, Device.newTask, hw, h4]
  have ha := Device.admit_tagOk h1 op
  rw [h2] at ha
  unfold Device.submit
  rw [ha]
  dsimp only
  unfold Device.begin
  rw [Device.tagged_task h1 op]
  simp only [hr, ↓reduceIte]
  rfl

/-- A command row whose entry is accepted goes on with the command's effect. -/
theorem devStep_submit {s : State} {op : Nat} {e : Entry} (h : s.dev.accepts op e) (run : Nat → Device → Device) :
    s.devStep (Device.submit op run e) = s.gives (run (s.dev.tagFor e) (s.dev.begun op e)) := by
  simp only [State.devStep, State.gives, Device.submit_accepts h]

/-- The tasks of the device once an accepted entry executes: the old ones, and the new one at the end. -/
theorem Device.begun_tasks {d : Device} {e : Entry} (h : d.tagOk e) (op : Nat) :
    (d.begun op e).sched.tasks = d.sched.tasks ++ [{ d.newTask op e with
      state := .executing }] := by
  have hf := Device.tagOk_free h
  unfold Device.task? at hf
  rw [List.find?_eq_none] at hf
  unfold Device.begun Device.passBegins Device.modTask
  rw [Device.modSched_sched, Device.modSched_sched]
  dsimp only
  rw [d.tagged_tasks op e, List.map_append]
  congr 1
  · rw [List.map_congr_left (g := id)]
    · simp
    · intro t ht
      have := hf t ht
      simp only [beq_iff_eq] at this
      simp [this]
  · simp [Device.newTask]

/-- The executing task of an accepted entry is found under its tag. -/
theorem Device.begun_task {d : Device} {e : Entry} (h : d.tagOk e) (op : Nat) :
    (d.begun op e).task? (d.tagFor e) = some { d.newTask op e with
      state := .executing } := by
  have hf := Device.tagOk_free h
  unfold Device.task? at hf ⊢
  rw [Device.begun_tasks h op, List.find?_append, hf]
  simp [Device.newTask]

/-- An accepted entry's task carries it. -/
@[simp] theorem Device.begun_entryOf {d : Device} {e : Entry} (h : d.tagOk e) (op : Nat) :
    (d.begun op e).entryOf (d.tagFor e) = e := by
  simp [Device.entryOf, Device.begun_task h op, Device.newTask]

end Sys2Proof.Machine
end

