-- ==== Sys2Proof/Laws/Events.lean ====
section
/-! SUPPORT. What the latching of an event, a cause and an entry in a ring change of the registers and the memory: the event
latches and their sums, the interrupt status, the event log, the cause itself and the ring's index; all else reads as before. -/
namespace Sys2Proof.Machine

/-- Register `j` of field `g` is no event latch, event sum or interrupt status. -/
def beyondLatches (g : Field) (j : Nat) : Prop :=
  g.acc.bank ≠ 0 ∨ ((g.key j < 0x9000 ∨ 0x9220 ≤ g.key j) ∧ g.key j ≠ Reg.INT_STAT.ACTIVE.key 0)

/-- Nor is it the event log's index, its drop counter or the fault causes. -/
def beyondEvents (g : Field) (j : Nat) : Prop :=
  beyondLatches g j ∧ (g.acc.bank ≠ 0 ∨ (g.key j ≠ Reg.RING_PI.PI.key 144 ∧ g.key j ≠ Reg.LOG_STAT.EV_DROPS.key 0
    ∧ g.key j ≠ Reg.FAULT_EVT.CAUSE.key 0))

theorem apart_bank0 {f g : Field} {i j : Nat} (hf : f.acc.bank = 0) (h : g.acc.bank ≠ 0 ∨ g.key j ≠ f.key i) :
    apart f i g j := by
  rcases h with h | h
  · exact .inl (by rw [hf]; exact fun e => h e.symm)
  · exact .inr (fun e => h e.symm)

theorem Device.refreshSum_rd (d : Device) {g : Field} {j : Nat} (h : beyondLatches g j) :
    d.refreshSum.rd g j = d.rd g j := by
  refine d.rd_wr_other (apart_bank0 rfl ?_) _
  rcases h with h | h
  · exact .inl h
  · exact .inr (fun e => by rw [e] at h; revert h; decide)

theorem Device.refreshInts_rd (d : Device) {g : Field} {j : Nat} (h : beyondLatches g j) :
    d.refreshInts.rd g j = d.rd g j := by
  refine d.rd_wr_other (apart_bank0 rfl ?_) _
  rcases h with h | h
  · exact .inl h
  · exact .inr h.2

/-- The registers and the memory once event `e` has latched, but for the log. -/
theorem Device.latchEvent_quiet (d : Device) (e : Nat) (hq : bitOf (d.route e) 6 = false) :
    (d.latchEvent e).mem = d.mem
      ∧ ∀ (g : Field) (j : Nat), beyondLatches g j → (d.latchEvent e).rd g j = d.rd g j := by
  unfold Device.latchEvent
  split
  · exact ⟨rfl, fun _ _ _ => rfl⟩
  · rename_i hl
    have he : e < 512 := by
      simp only [Bool.or_eq_true, Bool.not_eq_true', not_or] at hl
      have : eventListed e = true := by simpa using hl.1
      simp [eventListed] at this
      omega
    extract_lets rt d1 d2 d3 d4
    have h4 : d4 = d3 := if_neg (by unfold rt; rw [hq]; simp)
    rw [h4]
    have hm : d3.mem = d.mem ∧ ∀ (g : Field) (j : Nat), beyondLatches g j → d3.rd g j = d.rd g j := by
      have h1 : ∀ (g : Field) (j : Nat), beyondLatches g j → d1.rd g j = d.rd g j := by
        intro g j h
        refine d.rd_wr_other (apart_bank0 rfl ?_) _
        rcases h with h | ⟨h, -⟩
        · exact .inl h
        · refine .inr (fun x => ?_)
          have : Reg.EV_LAT.LAT.key (e / 32) = 0x9000 + 32 * (e / 32) := by
            simp only [Field.key, Field.addr, Reg.EV_LAT.LAT]; omega
          omega
      unfold d3
      split
      · exact ⟨by simp [d2, d1], fun g j h => by simp only [Device.modUsb_rd, d2, Device.modEvents_rd]; exact h1 g j h⟩
      · exact ⟨by simp [d2, d1], fun g j h => by simp only [d2, Device.modEvents_rd]; exact h1 g j h⟩
    refine ⟨?_, fun g j h => ?_⟩
    · rw [Device.refreshInts, Device.wr_mem, Device.refreshSum, Device.wr_mem]
      exact hm.1
    · rw [Device.refreshInts_rd _ h, Device.refreshSum_rd _ h, hm.2 g j h]

/-- An entry put in a ring changes the ring's producer index, and no register else. -/
theorem Device.ringPut_rd (d : Device) (r : Nat) (bs : List Byte) {g : Field} {j : Nat}
    (h : apart Reg.RING_PI.PI r g j) : (d.ringPut r bs).rd g j = d.rd g j := by
  unfold Device.ringPut
  dsimp only
  rw [Device.rd_wr_other _ h]
  split <;> simp

/-- The log changes its index, its drop counter and the fault causes. -/
theorem Device.logEvent_rd (d : Device) (e : Nat) {g : Field} {j : Nat} (h : beyondEvents g j) :
    (d.logEvent e).rd g j = d.rd g j := by
  obtain ⟨-, h⟩ := h
  unfold Device.logEvent
  dsimp only
  split
  · rw [Device.ringPut_rd _ _ _ (apart_bank0 rfl (h.imp id (·.1))), Device.modEvents_rd]
  · rw [Device.rd_wr_other _ (apart_bank0 rfl (h.imp id (·.2.2))), Device.countSat,
      Device.rd_wr_other _ (apart_bank0 rfl (h.imp id (·.2.1))), Device.modEvents_rd]

/-- A latching leaves every register beyond the events' own as it was. -/
theorem Device.latchEvent_rd (d : Device) (e : Nat) {g : Field} {j : Nat} (h : beyondEvents g j) :
    (d.latchEvent e).rd g j = d.rd g j := by
  unfold Device.latchEvent
  split
  · rfl
  · rename_i hl
    have he : e < 512 := by
      simp only [Bool.or_eq_true, Bool.not_eq_true', not_or] at hl
      have : eventListed e = true := by simpa using hl.1
      simp [eventListed] at this
      omega
    extract_lets rt d1 d2 d3 d4
    have h1 : d1.rd g j = d.rd g j := by
      refine d.rd_wr_other (apart_bank0 rfl ?_) _
      rcases h.1 with h | ⟨h, -⟩
      · exact .inl h
      · refine .inr (fun x => ?_)
        have : Reg.EV_LAT.LAT.key (e / 32) = 0x9000 + 32 * (e / 32) := by
          simp only [Field.key, Field.addr, Reg.EV_LAT.LAT]; omega
        omega
    have h3 : d3.rd g j = d.rd g j := by
      unfold d3
      split <;> simp only [Device.modUsb_rd, d2, Device.modEvents_rd, h1]
    have h4 : d4.rd g j = d.rd g j := by
      unfold d4
      split
      · rw [Device.logEvent_rd _ _ h, h3]
      · exact h3
    rw [Device.refreshInts_rd _ h.1, Device.refreshSum_rd _ h.1, h4]

/-- A cause leaves every register beyond the events' own and its own field as it was. -/
theorem Device.cause_rd (d : Device) (f : Field) (i b : Nat) (en : Bool) (ev : Nat) {g : Field} {j : Nat}
    (h : beyondEvents g j) (hf : apart f i g j) : (d.cause f i b en ev).rd g j = d.rd g j := by
  have hr : (d.raise f i b en ev).rd g j = d.rd g j := by
    unfold Device.raise
    dsimp only
    split
    · rfl
    · split
      · rw [Device.latchEvent_rd _ _ h, Device.rd_wr_other _ hf]
      · exact Device.rd_wr_other _ hf _
  unfold Device.cause Device.reportLogDrop
  split
  · rw [Device.latchEvent_rd _ _ h, hr]
  · exact hr

/-- A cause that has been set is set. -/
theorem Device.cause_set (d : Device) (f : Field) (i b : Nat) (en : Bool) (ev : Nat) (hf : beyondEvents f i)
    (hb : b < f.width) : bitOf ((d.cause f i b en ev).rd f i) b = true := by
  have hset : ∀ v : Nat, bitOf (setBitOf v b % 2 ^ f.width) b = true := by
    intro v
    simp only [bitOf, Nat.testBit_mod_two_pow, hb, decide_true, Bool.true_and]
    simp [setBitOf]
  have hr : bitOf ((d.raise f i b en ev).rd f i) b = true := by
    unfold Device.raise
    dsimp only
    split
    · assumption
    · split
      · rw [Device.latchEvent_rd _ _ hf, Device.rd_wr_same]
        exact hset _
      · rw [Device.rd_wr_same]
        exact hset _
  unfold Device.cause Device.reportLogDrop
  split
  · rw [Device.latchEvent_rd _ _ hf]
    exact hr
  · exact hr

end Sys2Proof.Machine
end

