-- ==== Sys2Proof/Laws/PerInstr.lean ====
section
/-! SUPPORT. For every constructor of Instr: the opcode of a command that carries an entry is one that the chapters define
(R215), and it fits the entry's two bytes (Table 7.3). -/
namespace Sys2Proof.Laws.KnownOpcode
open Sys2Proof Sys2Proof.Machine

/-- A command with an entry carries a defined opcode of 16 bits (R212, R215). -/
def Statement (i : Instr) : Prop := ∀ op e, entryOf? i = some (op, e) → opKnown op = true ∧ op < 65536

theorem registerWrite (addr : BitVec 32) (data : Word) : Statement (.registerWrite addr data) := by
  intro _ _ h; cases h
theorem bitAliasWrite (addr : BitVec 32) (data : Word) : Statement (.bitAliasWrite addr data) := by
  intro _ _ h; cases h
theorem latchedLowWordRead (req : Requester) (addr : BitVec 32) : Statement (.latchedLowWordRead req addr) := by
  intro _ _ h; cases h
theorem doorbell (data : Word) : Statement (.doorbell data) := by
  intro _ _ h; cases h
theorem update (data : Word) : Statement (.update data) := by
  intro _ _ h; cases h
theorem arbClr (data : Word) : Statement (.arbClr data) := by
  intro _ _ h; cases h
theorem ringEnable (r : Fin 256) (data : Word) : Statement (.ringEnable r data) := by
  intro _ _ h; cases h
theorem tlCtrlEnWrite (t : Fin 16) (data : Word) : Statement (.tlCtrlEnWrite t data) := by
  intro _ _ h; cases h
theorem cycReinit (data : Word) : Statement (.cycReinit data) := by
  intro _ _ h; cases h
theorem cycEnable (data : Word) : Statement (.cycEnable data) := by
  intro _ _ h; cases h
theorem usbReinit (data : Word) : Statement (.usbReinit data) := by
  intro _ _ h; cases h
theorem softDetachWrite (data : Word) : Statement (.softDetachWrite data) := by
  intro _ _ h; cases h
theorem usbStreamEnable (k : Fin 8) (data : Word) : Statement (.usbStreamEnable k data) := by
  intro _ _ h; cases h
theorem scanEnable (data : Word) : Statement (.scanEnable data) := by
  intro _ _ h; cases h
theorem refbufEnable (data : Word) : Statement (.refbufEnable data) := by
  intro _ _ h; cases h
theorem camEnable (c : Fin 2) (data : Word) : Statement (.camEnable c data) := by
  intro _ _ h; cases h
theorem neEnable (data : Word) : Statement (.neEnable data) := by
  intro _ _ h; cases h
theorem bmEnable (data : Word) : Statement (.bmEnable data) := by
  intro _ _ h; cases h
theorem cdEnable (k : Fin 2) (data : Word) : Statement (.cdEnable k data) := by
  intro _ _ h; cases h
theorem audEnable (data : Word) : Statement (.audEnable data) := by
  intro _ _ h; cases h
theorem kwsEnable (data : Word) : Statement (.kwsEnable data) := by
  intro _ _ h; cases h
theorem clipEnChange (data : Word) : Statement (.clipEnChange data) := by
  intro _ _ h; cases h
theorem fusEnable (data : Word) : Statement (.fusEnable data) := by
  intro _ _ h; cases h
theorem advEnable (c : Fin 8) (data : Word) : Statement (.advEnable c data) := by
  intro _ _ h; cases h
theorem fanEnable (f : Fin 6) (data : Word) : Statement (.fanEnable f data) := by
  intro _ _ h; cases h
theorem checkerEnable (data : Word) : Statement (.checkerEnable data) := by
  intro _ _ h; cases h
theorem sdiEnable (m : Fin 16) (data : Word) : Statement (.sdiEnable m data) := by
  intro _ _ h; cases h
theorem qeEnable (k : Fin 8) (data : Word) : Statement (.qeEnable k data) := by
  intro _ _ h; cases h
theorem spmEnable (p : Fin 4) (data : Word) : Statement (.spmEnable p data) := by
  intro _ _ h; cases h
theorem bmHintWrite (c : Fin 2) (data : Word) : Statement (.bmHintWrite c data) := by
  intro _ _ h; cases h
theorem wakeReasonClear (data : Word) : Statement (.wakeReasonClear data) := by
  intro _ _ h; cases h
theorem gpioOeWrite (high : Bool) (data : Word) : Statement (.gpioOeWrite high data) := by
  intro _ _ h; cases h
theorem sysIdent (e : Entry) : Statement (.sysIdent e) := by
  intro _ _ h; cases h; decide
theorem echo (e : Entry) : Statement (.echo e) := by
  intro _ _ h; cases h; decide
theorem cancel (e : Entry) : Statement (.cancel e) := by
  intro _ _ h; cases h; decide
theorem tagQuery (e : Entry) : Statement (.tagQuery e) := by
  intro _ _ h; cases h; decide
theorem lostTags (e : Entry) : Statement (.lostTags e) := by
  intro _ _ h; cases h; decide
theorem deviceReset (e : Entry) : Statement (.deviceReset e) := by
  intro _ _ h; cases h; decide
theorem flagSet (e : Entry) : Statement (.flagSet e) := by
  intro _ _ h; cases h; decide
theorem timeQuery (e : Entry) : Statement (.timeQuery e) := by
  intro _ _ h; cases h; decide
theorem modeSet (e : Entry) : Statement (.modeSet e) := by
  intro _ _ h; cases h; decide
theorem modeQuery (e : Entry) : Statement (.modeQuery e) := by
  intro _ _ h; cases h; decide
theorem chainStart (e : Entry) : Statement (.chainStart e) := by
  intro _ _ h; cases h; decide
theorem stop (e : Entry) : Statement (.stop e) := by
  intro _ _ h; cases h; decide
theorem scaleSet (e : Entry) : Statement (.scaleSet e) := by
  intro _ _ h; cases h; decide
theorem chainLoad (e : Entry) : Statement (.chainLoad e) := by
  intro _ _ h; cases h; decide
theorem chainCheck (e : Entry) : Statement (.chainCheck e) := by
  intro _ _ h; cases h; decide
theorem axisQuery (e : Entry) : Statement (.axisQuery e) := by
  intro _ _ h; cases h; decide
theorem axisEnable (e : Entry) : Statement (.axisEnable e) := by
  intro _ _ h; cases h; decide
theorem followEnter (e : Entry) : Statement (.followEnter e) := by
  intro _ _ h; cases h; decide
theorem followLeave (e : Entry) : Statement (.followLeave e) := by
  intro _ _ h; cases h; decide
theorem mtLoad (e : Entry) : Statement (.mtLoad e) := by
  intro _ _ h; cases h; decide
theorem pendingClear (e : Entry) : Statement (.pendingClear e) := by
  intro _ _ h; cases h; decide
theorem curPolicySet (e : Entry) : Statement (.curPolicySet e) := by
  intro _ _ h; cases h; decide
theorem curQuery (e : Entry) : Statement (.curQuery e) := by
  intro _ _ h; cases h; decide
theorem ledgerRead (e : Entry) : Statement (.ledgerRead e) := by
  intro _ _ h; cases h; decide
theorem ledgerClear (e : Entry) : Statement (.ledgerClear e) := by
  intro _ _ h; cases h; decide
theorem motorIdent (e : Entry) : Statement (.motorIdent e) := by
  intro _ _ h; cases h; decide
theorem homeStart (e : Entry) : Statement (.homeStart e) := by
  intro _ _ h; cases h; decide
theorem homeVerify (e : Entry) : Statement (.homeVerify e) := by
  intro _ _ h; cases h; decide
theorem posInvalidate (e : Entry) : Statement (.posInvalidate e) := by
  intro _ _ h; cases h; decide
theorem tileStart (e : Entry) : Statement (.tileStart e) := by
  intro _ _ h; cases h; decide
theorem tileStop (e : Entry) : Statement (.tileStop e) := by
  intro _ _ h; cases h; decide
theorem tileReinit (e : Entry) : Statement (.tileReinit e) := by
  intro _ _ h; cases h; decide
theorem filterSync (e : Entry) : Statement (.filterSync e) := by
  intro _ _ h; cases h; decide
theorem tileQuery (e : Entry) : Statement (.tileQuery e) := by
  intro _ _ h; cases h; decide
theorem adcUrgent (e : Entry) : Statement (.adcUrgent e) := by
  intro _ _ h; cases h; decide
theorem bushelRead (e : Entry) : Statement (.bushelRead e) := by
  intro _ _ h; cases h; decide
theorem bushelClear (e : Entry) : Statement (.bushelClear e) := by
  intro _ _ h; cases h; decide
theorem adcReinit (e : Entry) : Statement (.adcReinit e) := by
  intro _ _ h; cases h; decide
theorem neLoad (e : Entry) : Statement (.neLoad e) := by
  intro _ _ h; cases h; decide
theorem neUnload (e : Entry) : Statement (.neUnload e) := by
  intro _ _ h; cases h; decide
theorem neFlush (e : Entry) : Statement (.neFlush e) := by
  intro _ _ h; cases h; decide
theorem percQuery (e : Entry) : Statement (.percQuery e) := by
  intro _ _ h; cases h; decide
theorem camReinit (e : Entry) : Statement (.camReinit e) := by
  intro _ _ h; cases h; decide
theorem bmReinit (e : Entry) : Statement (.bmReinit e) := by
  intro _ _ h; cases h; decide
theorem neReinit (e : Entry) : Statement (.neReinit e) := by
  intro _ _ h; cases h; decide
theorem audQuery (e : Entry) : Statement (.audQuery e) := by
  intro _ _ h; cases h; decide
theorem kwsAbort (e : Entry) : Statement (.kwsAbort e) := by
  intro _ _ h; cases h; decide
theorem audReinit (e : Entry) : Statement (.audReinit e) := by
  intro _ _ h; cases h; decide
theorem fusQuery (e : Entry) : Statement (.fusQuery e) := by
  intro _ _ h; cases h; decide
theorem streamAges (e : Entry) : Statement (.streamAges e) := by
  intro _ _ h; cases h; decide
theorem trackClear (e : Entry) : Statement (.trackClear e) := by
  intro _ _ h; cases h; decide
theorem fusReinit (e : Entry) : Statement (.fusReinit e) := by
  intro _ _ h; cases h; decide
theorem thermQuery (e : Entry) : Statement (.thermQuery e) := by
  intro _ _ h; cases h; decide
theorem fanQuery (e : Entry) : Statement (.fanQuery e) := by
  intro _ _ h; cases h; decide
theorem fanRestart (e : Entry) : Statement (.fanRestart e) := by
  intro _ _ h; cases h; decide
theorem fanMapClear (e : Entry) : Statement (.fanMapClear e) := by
  intro _ _ h; cases h; decide
theorem thermReinit (e : Entry) : Statement (.thermReinit e) := by
  intro _ _ h; cases h; decide
theorem fanMapRead (e : Entry) : Statement (.fanMapRead e) := by
  intro _ _ h; cases h; decide
theorem store (e : Entry) : Statement (.store e) := by
  intro _ _ h; cases h; decide
theorem storeQuery (e : Entry) : Statement (.storeQuery e) := by
  intro _ _ h; cases h; decide
theorem paramRecall (e : Entry) : Statement (.paramRecall e) := by
  intro _ _ h; cases h; decide
theorem storeInvalidate (e : Entry) : Statement (.storeInvalidate e) := by
  intro _ _ h; cases h; decide
theorem recordNote (e : Entry) : Statement (.recordNote e) := by
  intro _ _ h; cases h; decide
theorem recordExport (e : Entry) : Statement (.recordExport e) := by
  intro _ _ h; cases h; decide
theorem recordRelease (e : Entry) : Statement (.recordRelease e) := by
  intro _ _ h; cases h; decide
theorem imgQuery (e : Entry) : Statement (.imgQuery e) := by
  intro _ _ h; cases h; decide
theorem imgWrite (e : Entry) : Statement (.imgWrite e) := by
  intro _ _ h; cases h; decide
theorem imgCopy (e : Entry) : Statement (.imgCopy e) := by
  intro _ _ h; cases h; decide
theorem imgVerify (e : Entry) : Statement (.imgVerify e) := by
  intro _ _ h; cases h; decide
theorem imgActivate (e : Entry) : Statement (.imgActivate e) := by
  intro _ _ h; cases h; decide
theorem imgConfirm (e : Entry) : Statement (.imgConfirm e) := by
  intro _ _ h; cases h; decide
theorem secCert (e : Entry) : Statement (.secCert e) := by
  intro _ _ h; cases h; decide
theorem evtQuery (e : Entry) : Statement (.evtQuery e) := by
  intro _ _ h; cases h; decide
theorem evtClear (e : Entry) : Statement (.evtClear e) := by
  intro _ _ h; cases h; decide
theorem evtRoute (e : Entry) : Statement (.evtRoute e) := by
  intro _ _ h; cases h; decide
theorem scrupleSet (e : Entry) : Statement (.scrupleSet e) := by
  intro _ _ h; cases h; decide
theorem axisReinit (e : Entry) : Statement (.axisReinit e) := by
  intro _ _ h; cases h; decide
theorem engineReinit (e : Entry) : Statement (.engineReinit e) := by
  intro _ _ h; cases h; decide
theorem checkerReinit (e : Entry) : Statement (.checkerReinit e) := by
  intro _ _ h; cases h; decide
theorem faultQuery (e : Entry) : Statement (.faultQuery e) := by
  intro _ _ h; cases h; decide
theorem faultAck (e : Entry) : Statement (.faultAck e) := by
  intro _ _ h; cases h; decide
theorem dispatchPass : Statement (.dispatchPass) := by
  intro _ _ h; cases h
theorem waitExpired (tag : Fin 128) : Statement (.waitExpired tag) := by
  intro _ _ h; cases h
theorem heldCompletionWrite (q : Fin 8) : Statement (.heldCompletionWrite q) := by
  intro _ _ h; cases h
theorem ringHeadTake (n : Fin 64) : Statement (.ringHeadTake n) := by
  intro _ _ h; cases h
theorem trajectoryTick (mismatch : Bool) : Statement (.trajectoryTick mismatch) := by
  intro _ _ h; cases h
theorem chainEnd (n : Fin 64) : Statement (.chainEnd n) := by
  intro _ _ h; cases h
theorem stopChainEnd (n : Fin 64) : Statement (.stopChainEnd n) := by
  intro _ _ h; cases h
theorem settleDone (n : Fin 64) : Statement (.settleDone n) := by
  intro _ _ h; cases h
theorem strobeApply : Statement (.strobeApply) := by
  intro _ _ h; cases h
theorem autoStrobe : Statement (.autoStrobe) := by
  intro _ _ h; cases h
theorem loopPeriod : Statement (.loopPeriod) := by
  intro _ _ h; cases h
theorem stallDetected (n : Fin 64) : Statement (.stallDetected n) := by
  intro _ _ h; cases h
theorem holdDwellExpired (n : Fin 64) : Statement (.holdDwellExpired n) := by
  intro _ _ h; cases h
theorem energiseRampEnd (n : Fin 64) : Statement (.energiseRampEnd n) := by
  intro _ _ h; cases h
theorem positionRedefine (n : Fin 64) : Statement (.positionRedefine n) := by
  intro _ _ h; cases h
theorem homeMaxdist (n : Fin 64) : Statement (.homeMaxdist n) := by
  intro _ _ h; cases h
theorem followIdleExit (n : Fin 64) : Statement (.followIdleExit n) := by
  intro _ _ h; cases h
theorem followIdlePreset (n : Fin 64) : Statement (.followIdlePreset n) := by
  intro _ _ h; cases h
theorem sdiStepEdge (m : Fin 16) (dir : Bool) (delay : BitVec 32) : Statement (.sdiStepEdge m dir delay) := by
  intro _ _ h; cases h
theorem qeCountStep (k : Fin 8) (a b i : Bool) : Statement (.qeCountStep k a b i) := by
  intro _ _ h; cases h
theorem indexEdge (k : Fin 8) (a b : Bool) : Statement (.indexEdge k a b) := by
  intro _ _ h; cases h
theorem limitInput (g : Fin 48) (level : Bool) : Statement (.limitInput g level) := by
  intro _ _ h; cases h
theorem sstopNChange (level : Bool) : Statement (.sstopNChange level) := by
  intro _ _ h; cases h
theorem rstNLow (level : Bool) : Statement (.rstNLow level) := by
  intro _ _ h; cases h
theorem testHigh (level : Bool) : Statement (.testHigh level) := by
  intro _ _ h; cases h
theorem porRelease : Statement (.porRelease) := by
  intro _ _ h; cases h
theorem devrstRelease (straps : Straps) : Statement (.devrstRelease straps) := by
  intro _ _ h; cases h
theorem devrstAssert (cause : ResetCause) : Statement (.devrstAssert cause) := by
  intro _ _ h; cases h
theorem boot (report : BootReport) : Statement (.boot report) := by
  intro _ _ h; cases h
theorem brownOutWarn (low : WarnSupply) : Statement (.brownOutWarn low) := by
  intro _ _ h; cases h
theorem brownOutReset (supply : ResetSupply) : Statement (.brownOutReset supply) := by
  intro _ _ h; cases h
theorem vbatLow : Statement (.vbatLow) := by
  intro _ _ h; cases h
theorem vddaLow (low : Bool) : Statement (.vddaLow low) := by
  intro _ _ h; cases h
theorem refclkFail : Statement (.refclkFail) := by
  intro _ _ h; cases h
theorem grainClockSubstitute : Statement (.grainClockSubstitute) := by
  intro _ _ h; cases h
theorem grainCrystalLock : Statement (.grainCrystalLock) := by
  intro _ _ h; cases h
theorem grainCrystalTimeout : Statement (.grainCrystalTimeout) := by
  intro _ _ h; cases h
theorem apWatchdogExpiry : Statement (.apWatchdogExpiry) := by
  intro _ _ h; cases h
theorem gcRestart : Statement (.gcRestart) := by
  intro _ _ h; cases h
theorem wakeSource (source : Fin 16) : Statement (.wakeSource source) := by
  intro _ _ h; cases h
theorem grainAlarm : Statement (.grainAlarm) := by
  intro _ _ h; cases h
theorem qeWakeCount : Statement (.qeWakeCount) := by
  intro _ _ h; cases h
theorem modeStepDone (micros : BitVec 32) : Statement (.modeStepDone micros) := by
  intro _ _ h; cases h
theorem modeDeferralEnd : Statement (.modeDeferralEnd) := by
  intro _ _ h; cases h
theorem grainCommitPoint : Statement (.grainCommitPoint) := by
  intro _ _ h; cases h
theorem grainExit : Statement (.grainExit) := by
  intro _ _ h; cases h
theorem excursionReturn : Statement (.excursionReturn) := by
  intro _ _ h; cases h
theorem replyFreeze : Statement (.replyFreeze) := by
  intro _ _ h; cases h
theorem cyclicFrame (sck : SckPulses) (frame : List Word) : Statement (.cyclicFrame sck frame) := by
  intro _ _ h; cases h
theorem masterLost : Statement (.masterLost) := by
  intro _ _ h; cases h
theorem usbOutTransfer (bytes : List Byte) : Statement (.usbOutTransfer bytes) := by
  intro _ _ h; cases h
theorem usbInAck (ep : InEndpoint) : Statement (.usbInAck ep) := by
  intro _ _ h; cases h
theorem ep2Poll : Statement (.ep2Poll) := by
  intro _ _ h; cases h
theorem ep3Burst : Statement (.ep3Burst) := by
  intro _ _ h; cases h
theorem ep0Request (setup : BitVec 64) : Statement (.ep0Request setup) := by
  intro _ _ h; cases h
theorem usbBusReset (highSpeed : Bool) : Statement (.usbBusReset highSpeed) := by
  intro _ _ h; cases h
theorem usbVbusChange (valid : Bool) : Statement (.usbVbusChange valid) := by
  intro _ _ h; cases h
theorem usbSuspend : Statement (.usbSuspend) := by
  intro _ _ h; cases h
theorem usbResume : Statement (.usbResume) := by
  intro _ _ h; cases h
theorem remoteWakeStart : Statement (.remoteWakeStart) := by
  intro _ _ h; cases h
theorem remoteWakeListenEnd (line : WakeLine) : Statement (.remoteWakeListenEnd line) := by
  intro _ _ h; cases h
theorem remoteWakeDriveEnd : Statement (.remoteWakeDriveEnd) := by
  intro _ _ h; cases h
theorem remoteWakeNoAnswer : Statement (.remoteWakeNoAnswer) := by
  intro _ _ h; cases h
theorem consoleRequest (line : List Byte) : Statement (.consoleRequest line) := by
  intro _ _ h; cases h
theorem returnFrame (t : Fin 16) (frame : BitVec 3000) : Statement (.returnFrame t frame) := by
  intro _ _ h; cases h
theorem outboundFrame (t : Fin 16) : Statement (.outboundFrame t) := by
  intro _ _ h; cases h
theorem linkWakeEnd (t : Fin 16) : Statement (.linkWakeEnd t) := by
  intro _ _ h; cases h
theorem trainSweepEnd (t : Fin 16) (order : List (Fin 8)) : Statement (.trainSweepEnd t order) := by
  intro _ _ h; cases h
theorem linkCheckEnd (t : Fin 16) (rtt : BitVec 10) : Statement (.linkCheckEnd t rtt) := by
  intro _ _ h; cases h
theorem linkStoppingEnd (t : Fin 16) : Statement (.linkStoppingEnd t) := by
  intro _ _ h; cases h
theorem startTimeout (t : Fin 16) : Statement (.startTimeout t) := by
  intro _ _ h; cases h
theorem holdMaxReached (t : Fin 16) : Statement (.holdMaxReached t) := by
  intro _ _ h; cases h
theorem phaseTrack (t : Fin 16) (passing : Neighbours) : Statement (.phaseTrack t passing) := by
  intro _ _ h; cases h
theorem tileInhibitClear (t : Fin 16) : Statement (.tileInhibitClear t) := by
  intro _ _ h; cases h
theorem telemetryEntry (t : Fin 16) : Statement (.telemetryEntry t) := by
  intro _ _ h; cases h
theorem spiTransfer (p : Fin 4) (received : List Byte) : Statement (.spiTransfer p received) := by
  intro _ _ h; cases h
theorem adcEntryDone (input : BitVec 40) (sub : Fin 32) : Statement (.adcEntryDone input sub) := by
  intro _ _ h; cases h
theorem adcRoundDue : Statement (.adcRoundDue) := by
  intro _ _ h; cases h
theorem refReadySet : Statement (.refReadySet) := by
  intro _ _ h; cases h
theorem csiFrameStart (c : Fin 2) : Statement (.csiFrameStart c) := by
  intro _ _ h; cases h
theorem csiFrameEnd (c : Fin 2) (frame : FrameReport) : Statement (.csiFrameEnd c frame) := by
  intro _ _ h; cases h
theorem pyramidStart : Statement (.pyramidStart) := by
  intro _ _ h; cases h
theorem pyramidDone : Statement (.pyramidDone) := by
  intro _ _ h; cases h
theorem cornerListDone (k : Fin 2) : Statement (.cornerListDone k) := by
  intro _ _ h; cases h
theorem bmFieldDone (mismatch : List (BitVec 14)) : Statement (.bmFieldDone mismatch) := by
  intro _ _ h; cases h
theorem neJobStart : Statement (.neJobStart) := by
  intro _ _ h; cases h
theorem neJobDone (job : JobReport) : Statement (.neJobDone job) := by
  intro _ _ h; cases h
theorem vadFrame (mics : List (List (BitVec 16))) : Statement (.vadFrame mics) := by
  intro _ _ h; cases h
theorem kwsJobDue : Statement (.kwsJobDue) := by
  intro _ _ h; cases h
theorem segmentCopy : Statement (.segmentCopy) := by
  intro _ _ h; cases h
theorem kwsVerdict : Statement (.kwsVerdict) := by
  intro _ _ h; cases h
theorem kwsDeferralTimeout : Statement (.kwsDeferralTimeout) := by
  intro _ _ h; cases h
theorem micStuck (m : Fin 4) : Statement (.micStuck m) := by
  intro _ _ h; cases h
theorem fusionCycle : Statement (.fusionCycle) := by
  intro _ _ h; cases h
theorem advisoryHoldExpiry (c : Fin 8) : Statement (.advisoryHoldExpiry c) := by
  intro _ _ h; cases h
theorem streamAgeLimit (k : Fin 8) : Statement (.streamAgeLimit k) := by
  intro _ _ h; cases h
theorem dieTempSample (reading : BitVec 16) : Statement (.dieTempSample reading) := by
  intro _ _ h; cases h
theorem tileTempSample (t : Fin 16) : Statement (.tileTempSample t) := by
  intro _ _ h; cases h
theorem thresholdDwellDone (x : Fin 25) (k : Fin 3) : Statement (.thresholdDwellDone x k) := by
  intro _ _ h; cases h
theorem hoverQuietWindow (x : Fin 25) (k : Fin 3) : Statement (.hoverQuietWindow x k) := by
  intro _ _ h; cases h
theorem fanUpdate (f : Fin 6) (edges : BitVec 16) : Statement (.fanUpdate f edges) := by
  intro _ _ h; cases h
theorem fanKickEnd (f : Fin 6) (edges : BitVec 16) : Statement (.fanKickEnd f edges) := by
  intro _ _ h; cases h
theorem fanWaitEnd (f : Fin 6) : Statement (.fanWaitEnd f) := by
  intro _ _ h; cases h
theorem fanTachSilent (f : Fin 6) : Statement (.fanTachSilent f) := by
  intro _ _ h; cases h
theorem mramLineDone (ok : Bool) : Statement (.mramLineDone ok) := by
  intro _ _ h; cases h
theorem recordAppend : Statement (.recordAppend) := by
  intro _ _ h; cases h
theorem storeSafePoint : Statement (.storeSafePoint) := by
  intro _ _ h; cases h
theorem checkerSelfTest (pass : Bool) : Statement (.checkerSelfTest pass) := by
  intro _ _ h; cases h
theorem scrupleLasting (cls : Fin 25) (unit : Fin 68) : Statement (.scrupleLasting cls unit) := by
  intro _ _ h; cases h
theorem followLeaveTimeout (n : Fin 64) : Statement (.followLeaveTimeout n) := by
  intro _ _ h; cases h
theorem cplStalled : Statement (.cplStalled) := by
  intro _ _ h; cases h
theorem boClear : Statement (.boClear) := by
  intro _ _ h; cases h
theorem usbReattach : Statement (.usbReattach) := by
  intro _ _ h; cases h
theorem intPulseEnd (n : Fin 4) : Statement (.intPulseEnd n) := by
  intro _ _ h; cases h
theorem grainClockEdge : Statement (.grainClockEdge) := by
  intro _ _ h; cases h
theorem longCommandDone (tag : Fin 128) (outcome : LongOutcome) : Statement (.longCommandDone tag outcome) := by
  intro _ _ h; cases h

end Sys2Proof.Laws.KnownOpcode
end

