-- ==== Sys2Proof/Tests/Slice0.lean ====
section
/-! SUPPORT. Tests of the model: what WellFormed refuses; for every statement that has hypotheses a theorem whose list shows, clause
by clause, a device and operands that meet them; and single steps whose results are read from the tables of the spec. -/
namespace Sys2Proof.Tests
set_option Elab.async false
open Sys2Proof Sys2Proof.Machine

/-- The state made of a device, with no fuse blown and no command waiting. -/
def st (d : Device) : State := ⟨d, ⟨0, 0, 0⟩, []⟩

/-- A device that runs: in RUN mode, out of reset, with the motion clock on and MB_READY set. -/
def live : Device :=
  ({ Device.reset with power := { Power.reset with devrst := false, por := false, motion := true } } : Device).wr
    Reg.MB_STAT.MB_READY 0 1

/-- The same in FULL mode. -/
def liveFull : Device := live.wr Reg.PWR_STAT.MODE 0 3

/-- The same in DOZE mode. -/
def dozing : Device := live.wr Reg.PWR_STAT.MODE 0 1

/-- The same with the USB port configured. -/
def usbLive : Device := (live.wr Reg.USB_CTRL.PRESENT 0 1).wr Reg.USB_STAT.STATE 0 4

/-- An entry of pair 0 that asks for an automatic tag, with the parameter bytes given as (offset, value). -/
def ent (ps : List (Nat × Nat)) : Entry :=
  ⟨0, 0, 0xFF, 0, 0, 0, 0, 0, BitVec.ofNat 384 (ps.foldl (fun n p => n + p.2 * 2 ^ (8 * p.1)) 0)⟩

/-- A task of pair 0 with an opcode, a tag and a state. -/
def task (op tag : Nat) (state : TaskState) : Machine.Task :=
  ⟨0, tag, true, op, ent [], state, false, 0, none, false⟩

/-- A device with one task. -/
def withTask (d : Device) (t : Machine.Task) : Device := d.modSched (fun k => { k with tasks := [t] })

/-- Acceptance of an entry with an automatic tag, as a Bool. -/
def acc (d : Device) (op : Nat) (e : Entry) : Bool :=
  d.canTake e.pair.val && (e.tag == 0xFF) && (d.judge op e).isNone && !bitOf e.wait.toNat 15 && !bitOf e.flags.toNat 1

theorem accepts_of_acc {d : Device} {op : Nat} {e : Entry} (h : acc d op e = true) : d.accepts op e := by
  simp only [acc, Bool.and_eq_true, beq_iff_eq, Bool.not_eq_true', Option.isNone_iff_eq_none] at h
  obtain ⟨⟨⟨⟨h1, h2⟩, h3⟩, h4⟩, h5⟩ := h
  exact ⟨⟨h1, fun h => absurd h2 h⟩, h3, h4, h5⟩

/-- Whether a command goes on. -/
def goes (o : Host.Outcome State Fault Refusal) : Bool :=
  match o with
  | .next _ => true
  | .fault _ => false
  | .refused _ => false

/-- What a command leaves of the device (the device itself where the command stops). -/
def after (i : Instr) (d : Device) : Device :=
  match exec i (st d) with
  | .next t => t.dev
  | .fault _ => d
  | .refused _ => d

/-! ### WellFormed -/

theorem test_wellFormed_refuses :
    [Instr.registerWrite 0x10000 0, .registerWrite 2 0, .bitAliasWrite 0xFFFFC 0, .bitAliasWrite 0x900000 0,
      .bitAliasWrite 0x100001 0, .latchedLowWordRead .usb 0x11000000, .cyclicFrame ⟨.ready, 64⟩ [0], .cyclicFrame ⟨.none, 1⟩ [0],
      .trainSweepEnd 0 [0, 1, 2, 3, 4, 5, 6, 6], .trainSweepEnd 0 [0],
      .vadFrame [[], [], [], []],
      .scrupleLasting 1 1].all (fun i => !i.wellFormed) = true := by decide

theorem test_wellFormed_accepts :
    [Instr.registerWrite 0xFFFC 0, .bitAliasWrite 0x8FFFFC 0, .latchedLowWordRead .usb 0x10FFFFFC, 
      .cyclicFrame ⟨.ready, 64⟩ [0, 0], .cyclicFrame ⟨.none, 0⟩ [], .cyclicFrame ⟨.early, 33⟩ [0, 0],
      .trainSweepEnd 0 [7, 6, 5, 4, 3, 2, 1, 0], .vadFrame (List.replicate 4 (List.replicate 160 0)),
      .scrupleLasting 1 0, .scrupleLasting 0 67].all
      Instr.wellFormed = true := by decide +kernel

/-! ### The queue, the outcomes, and what every step keeps -/

theorem test_hyps_StepRunsTheFrontCommand : State.reset.pending = [] := rfl

theorem test_hyps_CommandsKeepTheQueue : goes (exec .gcRestart State.reset) = true := by decide

theorem test_hyps_OnlyUnmappedAccessesStop :
    [exec (.registerWrite 0x10000 0) (st live), exec (.registerWrite 0x2 0) (st live),
      exec (.registerWrite 0x900000 0) (st live), exec (.registerWrite 0x20800000 0) (st live),
      exec (.bitAliasWrite 0xFFFFC 0) (st live), exec (.bitAliasWrite 0x900000 0) (st live),
      exec (.latchedLowWordRead .usb 0x11000000) (st live), exec (.latchedLowWordRead .usb 0xFFFFFFFF) (st live)].all
      (fun o => !goes o) = true := by decide

theorem test_hyps_FusesOnlyGrow : ∃ s t, s.Inv ∧ step s = .next t :=
  ⟨{ State.reset with pending := [.gcRestart] }, _, ⟨by decide, by decide⟩, rfl⟩

/-- A device that runs slot 0, whose manifest revokes key 1, with an IMG_CONFIRM under way. -/
def confirming : Device :=
  withTask ((live.modKeep (fun k => { k with slot := some 0 })).put (manifestAddr 0 0 + 21) [2]) (task 0x0C06 0 .executing)

theorem test_hyps_OnlyBootAndConfirmBlowFuses :
    (confirming.confirmFuses ⟨0, 0, 0⟩ != ⟨0, 0, 0⟩ && goes (exec (.longCommandDone 0 ⟨true, 0, []⟩) (st confirming))) = true := by
  decide

theorem test_hyps_LinksAndCompletionsKeepTheirLayout :
    [Link.mk 0 0 (-2 ^ 31) (-2 ^ 39) 0, Link.mk (2 ^ 24 - 1) 255 (2 ^ 31 - 1) (2 ^ 39 - 1) (2 ^ 24 - 1)].all Link.wf = true := by
  decide

/-! ### Taking an entry -/

theorem test_hyps_EntriesAreJudgedInOrder :
    [live.canTake 0, !(live.ownTags 0).contains 127,
      ((withTask live (task 0x0101 3 .executing)).task? 3).isSome,
      !opKnown 0x0100,
      opKnown 0x0101 && !headOk { ent [] with flags := 4 },
      (live.wr Reg.IMG_STAT.RESTRICTED 0 1).on Reg.IMG_STAT.RESTRICTED && headOk (ent []) && !opRestricted 0x0201,
      !live.on Reg.IMG_STAT.RESTRICTED && !paramsOk 0x0206 (ent [(0, 64)]),
      opRestricted 0x0D01 && !paramsOk 0x0D01 (ent [(0, 16)]),
      ((live.admitEntry 0x0201 (ent [(0, 64)])).2).isNone].all id = true := by decide

theorem test_hyps_EntriesWait :
    [!(live.wr Reg.MB_STAT.MB_READY 0 0).canTake 0 && ((live.wr Reg.MB_STAT.MB_READY 0 0).freeTag 0).isSome,
      live.canTake 0 && live.judge 0x0C02 (ent []) == some (.badParam, rangeResult 0x0C02 (ent []))
        && rangeResult 0x0C02 (ent []) == [0x0A] && !paramsOk 0x0C02 (ent []),
      live.canTake 0 && live.judge 0x0100 (ent []) == some (.badOpcode, []) && !opKnown 0x0100,
      live.canTake 0 && (live.judge 0x0101 { ent [] with wait := 0x8140 }).isNone
        && (live.flagLevel 0x40 != bitOf 0x8140 8),
      live.canTake 0 && (live.judge 0x0101 { ent [] with flags := 2 }).isNone
        && (withTask live (task 0x0110 0 .executing)).sched.tasks.any (fun t => t.pair == 0 && t.state != .completing)].all id
      = true := by decide

/-- Every command of the command set is accepted by a device that runs, at boundary values of its parameters. -/
theorem test_hyps_AcceptedEntryBecomesATask :
    [(0x0101, []), (0x0102, [(0, 255), (19, 255)]), (0x0103, [(0, 1), (2, 7)]), (0x0104, []), (0x0105, [(0, 1)]),
      (0x0106, [(0, 1)]), (0x0107, [(0, 1), (15, 128)]), (0x0108, []), (0x0110, [(0, 4), (1, 1)]), (0x0111, []),
      (0x0201, [(0, 63), (2, 15)]), (0x0202, [(7, 128), (8, 1)]), (0x0203, [(7, 128)]),
      (0x0204, [(0, 255), (1, 99), (2, 1), (6, 255), (7, 16)]), (0x0205, [(1, 63)]), (0x0206, [(0, 63)]), (0x0207, [(8, 1)]),
      (0x0210, [(0, 63), (1, 3)]), (0x0211, [(0, 63)]), (0x0212, [(0, 7), (7, 16)]), (0x0213, [(0, 63)]), (0x0301, [(12, 7)]),
      (0x0302, [(0, 63)]), (0x0303, [(0, 255)]), (0x0304, [(8, 1)]), (0x0305, [(1, 100)]), (0x0401, [(1, 3)]),
      (0x0402, [(0, 63)]), (0x0403, [(0, 1)]), (0x0501, [(1, 128)]), (0x0502, [(0, 1)]), (0x0503, [(0, 1)]), (0x0504, [(0, 1)]),
      (0x0505, [(0, 15)]), (0x0601, [(0, 39)]), (0x0602, [(0, 39)]), (0x0603, [(5, 3)]), (0x0604, []), (0x0701, [(0, 7), (4, 64)]),
      (0x0702, [(0, 7)]), (0x0703, [(0, 15)]), (0x0704, []), (0x0705, [(0, 3)]), (0x0706, []), (0x0707, [])].all
      (fun p => acc live p.1 (ent p.2)) = true := by decide

theorem test_hyps_AcceptedEntryBecomesATask_rest :
    [(0x0801, []), (0x0802, []), (0x0803, []), (0x0901, []), (0x0902, []), (0x0903, [(3, 128)]), (0x0904, []),
      (0x0A01, [(0, 24)]), (0x0A02, [(0, 5)]), (0x0A03, [(0, 63)]), (0x0A04, [(0, 63)]), (0x0A05, []), (0x0A06, [(0, 5)]),
      (0x0B01, [(0, 1), (1, 1), (7, 16), (9, 128)]), (0x0B02, [(0, 1)]), (0x0B03, []), (0x0B04, [(0, 1)]), (0x0B05, [(15, 255)]),
      (0x0B06, [(11, 16)]), (0x0B07, [(0, 1)]), (0x0C01, [(0, 2)]), (0x0C02, [(0, 1), (1, 2), (13, 4)]), (0x0C03, []), (0x0C04, []),
      (0x0C05, []),
      (0x0C06, []), (0x0C07, [(3, 16)]), (0x0D01, [(0, 15)]), (0x0D02, [(0, 15)]), (0x0D03, [(0, 255), (1, 1), (2, 1), (4, 127)]),
      (0x0D04, [(0, 24), (1, 1)]), (0x0D05, []), (0x0D06, []), (0x0D07, []), (0x0D08, [(0, 24)]), (0x0D09, [(0, 24)])].all
      (fun p => acc live p.1 (ent p.2)) = true := by decide

theorem test_hyps_CompletionIsWritten :
    let d := withTask live (task 0x0101 0 .executing)
    ((d.task? 0).isSome && d.sched.held.all (fun h => h.pair != 0) && d.ringRoom 1 1 && !bitOf (d.route 433) 6
      && d.rd Reg.RING_CFG.ESIZE 1 == 1 && sramSpan (d.ringAddr 1 (d.rd Reg.RING_PI.PI 1)) 32) = true := by decide

theorem test_hyps_EntryBytesSpellTheEntry : (0x0D09 : Nat) < 65536 ∧ (0xFFFF : Nat) < 65536 := by decide

theorem test_hyps_RegisterRowsAreWordWrites :
    ((0x3000 : Nat) = 0x3000 ∧ Instr.doorbell 5 = .doorbell 5)
    ∧ ((0x614 : Nat) = 0x614 ∧ Instr.gpioOeWrite true 1 = .gpioOeWrite true 1) := ⟨⟨rfl, rfl⟩, rfl, rfl⟩

theorem test_hyps_CompletionIsHeld :
    [!(live.wr Reg.RING_CFG.EN 1 0).ringRoom 1 1,
      (live.modSched (fun k => { k with held := [⟨7, 0, true, 0, []⟩] })).sched.held.any (fun x => x.pair == 7)].all id
      = true := by decide

/-! ### The commands of the command set: the conditions of each clause, beside acceptance -/

theorem test_hyps_SystemQueriesAnswer :
    [acc live 0x0105 (ent []) && !(ent []).flag 1 0, acc live 0x0105 (ent [(1, 1)]) && (ent [(1, 1)]).flag 1 0,
      acc live 0x0105 (ent [(0, 1), (1, 1)]) && (ent [(0, 1), (1, 1)]).flag 1 0,
      live.power.motion, !(live.modPower (fun p => { p with motion := false })).power.motion,
      (live.modPower (fun p => { p with step := .ready })).power.step == .ready, live.power.step == .none,
      acc live 0x0101 (ent []) && live.keep.slot == none,
      acc (live.modKeep (fun k => { k with slot := some 1 })) 0x0101 (ent [])].all id = true := by decide

theorem test_hyps_SystemCommandsAct :
    let moving := live.wr Reg.AX_STAT.STATE 63 stMoving
    let busy := live.modPower (fun p => { p with step := .rising })
    [acc live 0x0107 (ent [(0, 1), (15, 128)]), acc live 0x0106 (ent []) && (live.begun 0x0106 (ent [])).allQuiet,
      acc moving 0x0106 (ent [(0, 1)]) && (ent [(0, 1)]).flag 0 0,
      acc moving 0x0106 (ent []) && !(ent []).flag 0 0 && !(moving.begun 0x0106 (ent [])).allQuiet,
      acc live 0x0110 (ent [(0, 1)]) && !live.modeBusy, acc busy 0x0110 (ent [(0, 4)]) && busy.modeBusy].all id
      = true := by decide

theorem test_hyps_AxisRingCommandsQueue :
    [0x0201, 0x0210, 0x0305, 0x0401, 0x0402].all (fun op => acc live op (ent [(1, 100 % (if op == 0x0305 then 256 else 4))])
      && live.motionRuns && acc dozing op (ent [(1, if op == 0x0305 then 100 else 0)]) && !dozing.motionRuns) = true := by decide

theorem test_hyps_StopAndScaleAct :
    [acc live 0x0202 (ent [(0, 1)]) && !(ent [(0, 1)]).flag 8 0, acc live 0x0202 (ent [(7, 128), (8, 1)])
      && (ent [(7, 128), (8, 1)]).flag 8 0, acc live 0x0203 (ent [(7, 128)])].all id = true := by decide

theorem test_hyps_ChainAndAxisCommandsAct :
    let locked := (live.wr Reg.AX_CTRL.ENABLE 63 1).wr Reg.STOP_CHAIN.CHAIN 63 5
    let load := ent [(0, 5), (2, 1), (7, 16)]
    let good := (live.put (linkAddr 0 0) (linkBytes ⟨100, 1, 0, 0, 0⟩)).wr Reg.VMAX.VMAX 0 0x7FFFFFFF
    let check (d : Device) : Bool := match d.checkChain 0 (d.chainLimits 0) false false with
      | .ok _ => true
      | .error _ => false
    [acc live 0x0204 load && !(live.begun 0x0204 load).chainLocked 5,
      acc locked 0x0204 load && (locked.begun 0x0204 load).chainLocked 5,
      acc live 0x0205 (ent []) && !check (live.begun 0x0205 (ent [])),
      acc good 0x0205 (ent []) && check (good.begun 0x0205 (ent [])),
      acc live 0x0206 (ent [(0, 63)]), acc live 0x0207 (ent [(7, 128), (8, 1)])].all id = true := by decide

theorem test_hyps_FollowCommandsAct :
    let follow := (live.wr Reg.AX_STAT.STATE 63 stFollow).modAx 63 (fun a => { a with follow := some ⟨0, 0, 0⟩ })
    let e := ent [(0, 63), (1, 1)]
    let used := (live.wr Reg.AX_CTRL.ENABLE 0 1).wr Reg.MTAB.MT 0 7
    let t := ent [(0, 7), (7, 16)]
    [acc follow 0x0211 (ent [(0, 63)]) && follow.axSt 63 == stFollow && !(ent [(0, 63)]).flag 1 0,
      acc follow 0x0211 e && (follow.begun 0x0211 e).mayLeave 63, acc live 0x0211 e && live.axSt 63 != stFollow,
      acc live 0x0212 t && !(live.begun 0x0212 t).tableInUse 7, acc used 0x0212 t && (used.begun 0x0212 t).tableInUse 7,
      acc live 0x0213 (ent [(0, 63)]) && live.axSt 63 != stFollow].all id = true := by decide

theorem test_hyps_CurrentCommandsAct :
    [acc live 0x0301 (ent [(7, 128), (12, 7)]), acc live 0x0302 (ent [(0, 63)]), acc live 0x0303 (ent [(0, 255)]),
      acc live 0x0303 (ent [(0, 63)]), acc live 0x0304 (ent [(8, 1)]),
      acc live 0x0403 (ent [(7, 128)]) && (live.begun 0x0403 (ent [(7, 128)])).motionRuns,
      acc dozing 0x0403 (ent [(7, 128)]) && !(dozing.begun 0x0403 (ent [(7, 128)])).motionRuns].all id = true := by decide

theorem test_hyps_TileCommandsAct :
    let moving := live.wr Reg.AX_STAT.STATE 63 stMoving
    let up := (live.wr Reg.TL_STAT.LSTATE 15 4).wr Reg.TL_STAT.LSTATE 0 5
    let e := ent [(1, 128)]
    let both := ent [(0, 1), (1, 128)]
    [acc live 0x0501 e && (live.begun 0x0501 e).running, acc dozing 0x0501 e && !(dozing.begun 0x0501 e).running,
      acc live 0x0502 e && !(maskTiles e).any (fun t => (tileAxes t).any (fun n => !(live.begun 0x0502 e).quiet n)),
      acc moving 0x0502 e && (maskTiles e).any (fun t => (tileAxes t).any (fun n => !(moving.begun 0x0502 e).quiet n)),
      acc live 0x0503 e && (live.begun 0x0503 e).running, acc dozing 0x0503 e && !(dozing.begun 0x0503 e).running,
      acc up 0x0504 both && (maskTiles both).all (fun t => (up.begun 0x0504 both).lstate t == 4
        || (up.begun 0x0504 both).lstate t == 5), acc live 0x0505 (ent [(0, 15)])].all id = true := by decide

theorem test_hyps_ConverterCommandsAct :
    let e := ent [(0, 39)]
    let behind (n : Nat) : Device := live.modAdc (fun a => { a with
      converting := true, urgent := some ⟨0, 0, false⟩, queue := List.replicate n ⟨1, 0, false⟩ })
    [acc live 0x0601 e && live.power.step == .none && live.adc.urgent == none,
      acc (behind 3) 0x0601 e && (behind 3).adc.urgent != none && decide ((behind 3).adc.queue.length < 4),
      acc (behind 4) 0x0601 e && (behind 4).adc.urgent != none && decide (4 ≤ (behind 4).adc.queue.length),
      acc live 0x0602 e, acc live 0x0603 (ent [(4, 128), (5, 3)]),
      acc live 0x0604 (ent []) && live.adc.urgent == none && live.adc.queue == []].all id = true := by decide

theorem test_hyps_PerceptionCommandsAct :
    let box : Container := ⟨0, 64, 1, 0, 0, 0, 0, 0⟩
    let loaded := live.modPerc (fun p => { p with handles := modNth (fun _ => some box) 7 p.handles })
    let job : Job := ⟨0, 0, List.replicate 64 0, 0, none, 0, 0, false, none⟩
    let e := ent [(0, 7)]
    [acc live 0x0701 e && !(live.begun 0x0701 e).longBusy [0x0701, 0x0707] 0 && (live.begun 0x0701 e).container 7 == none
        && (live.begun 0x0701 e).running,
      acc loaded 0x0702 e && ((loaded.begun 0x0702 e).container 7).isSome && !(loaded.begun 0x0702 e).namesHandle 7,
      acc live 0x0703 (ent [(0, 15)]), acc live 0x0704 (ent []) && live.perc.job == none,
      acc (live.modPerc (fun p => { p with job := some job })) 0x0704 (ent []),
      acc live 0x0705 (ent [(0, 3)]) && !(live.begun 0x0705 (ent [])).longBusy [0x0705] 0,
      acc live 0x0706 (ent []) && !(live.begun 0x0706 (ent [])).longBusy [0x0706] 0,
      acc live 0x0707 (ent []) && !(live.begun 0x0707 (ent [])).longBusy [0x0701, 0x0707] 0].all id = true := by decide

/-- A phrase of 10 frames. -/
def phrase : Segment :=
  ⟨1, 0, 0, 0, [], 10, false, false, 0, none, none, false, 0, none, 0, false, false⟩

def withPhrase (d : Device) (g : Segment) : Device := { d with audio := { d.audio with seg := some g } }

theorem test_hyps_AudioAndFusionCommandsAct :
    [acc live 0x0801 (ent []), acc live 0x0802 (ent []) && live.audio.seg == none,
      acc (withPhrase live phrase) 0x0802 (ent []) && (withPhrase live phrase).audio.seg == some phrase,
      acc live 0x0803 (ent []), acc live 0x0901 (ent []), acc live 0x0902 (ent []),
      acc liveFull 0x0903 (ent [(3, 128)]) && (liveFull.begun 0x0903 (ent [(3, 128)])).full,
      acc live 0x0903 (ent []) && !(live.begun 0x0903 (ent [])).full, acc live 0x0904 (ent [])].all id = true := by decide

theorem test_hyps_ThermalCommandsAct :
    let turning := live.modFan 5 (fun x => { x with current := some (100, false, 0) })
    [acc live 0x0A01 (ent [(0, 24)]), acc live 0x0A02 (ent [(0, 5)]) && (live.fan 5).current == none,
      acc turning 0x0A02 (ent [(0, 5)]) && (turning.fan 5).current.isSome, acc live 0x0A03 (ent [(0, 63)]),
      acc live 0x0A04 (ent [(0, 63)]), acc live 0x0A05 (ent []), acc live 0x0A06 (ent [(0, 5)])].all id = true := by decide

/-- A device whose parameter bank 0 is active and holds `n` bytes of user data for SRAM address `dst`. -/
def stored (n dst : Nat) : Device :=
  (live.wr (activeField 0) 0 0).put (bankBase 0 0 + 64)
    (leBytes 4 2 ++ leBytes 4 userDstAddr ++ leBytes 4 dst ++ leBytes 4 userLenAddr ++ leBytes 4 n)

theorem test_hyps_KeepingCommandsAct :
    let empty := live.wr (activeField 0) 0 0xFF
    let noted (n : Nat) : Device := live.modKeep (fun k => { k with queue := List.replicate n ⟨0, 0, [], none⟩ })
    let headed := live.wr Reg.REC_HEAD.ESEQ 0 3
    let exported := live.wr Reg.REC_EXPORT_END.ESEQ 0 7
    let b := (stored 64 0x10100000).begun 0x0B03 (ent [])
    [acc (stored 64 0x10100000) 0x0B03 (ent []) && !b.locksRange 0x10100000 64
        && (match (b.activeBank 0).bind (b.bankUser 0) with
          | some (_, len, dst) => len == 64 && dst == 0x10100000
          | none => false),
      acc live 0x0B01 (ent []) && !(live.begun 0x0B01 (ent [])).storeBusy, acc live 0x0B04 (ent []),
      acc empty 0x0B02 (ent []) && (empty.begun 0x0B02 (ent [])).activeBank 0 == none,
      acc (live.wr (activeField 0) 0 1) 0x0B02 (ent []) && ((live.wr (activeField 0) 0 1).begun 0x0B02 (ent [])).activeBank 0 == some 1,
      acc empty 0x0B03 (ent []) && ((empty.begun 0x0B03 (ent [])).activeBank 0).isNone,
      acc (noted 31) 0x0B05 (ent []) && decide ((noted 31).keep.queue.length < 32),
      acc (noted 32) 0x0B05 (ent []) && decide (32 ≤ (noted 32).keep.queue.length),
      acc headed 0x0B06 (ent [(4, 2), (11, 16)]) && !(headed.begun 0x0B06 (ent [])).longBusy [0x0B06] 0
        && (headed.begun 0x0B06 (ent [])).exportOk 0 2,
      acc exported 0x0B07 (ent [(0, 7)]) && decide ((exported.begun 0x0B07 (ent [])).released < 7)
        && decide (7 ≤ (exported.begun 0x0B07 (ent [])).rd Reg.REC_EXPORT_END.ESEQ)].all id = true := by
  decide +kernel

theorem test_hyps_ImageCommandsAct :
    let busy := live.modSched (fun k => { k with tasks := [task 0x0C02 64 .executing] })
    let line := ent [(12, 64)]
    [0x0C02, 0x0C03, 0x0C04, 0x0C05, 0x0C06].all (fun op => acc live op line && acc busy op line
      && busy.sched.tasks.any (fun t => t.state == .executing && imgOps.contains t.op)
      && !live.sched.tasks.any (fun t => t.state == .executing && imgOps.contains t.op)) = true
    ∧ [acc live 0x0C01 (ent [(0, 1)]), acc live 0x0C01 (ent [(0, 2)]), acc live 0x0C07 (ent [(3, 16)])].all id = true := by
  decide

theorem test_hyps_EventAndFaultCommandsAct :
    let busy (op : Nat) : Device := live.modSched (fun k => { k with tasks := [task op 64 .executing] })
    [acc live 0x0D01 (ent [(0, 15)]), acc live 0x0D02 (ent [(0, 15)]), acc live 0x0D03 (ent [(0, 255), (1, 1), (2, 1), (4, 127)]),
      acc live 0x0D03 (ent [(3, 2)]), acc live 0x0D04 (ent [(0, 24), (1, 1)]), acc live 0x0D08 (ent [(0, 24)]),
      acc live 0x0D09 (ent [(0, 24)]), acc live 0x0D05 (ent [(0, 1)]) && (live.begun 0x0D05 (ent [(0, 1)])).motionRuns,
      acc dozing 0x0D05 (ent [(0, 1)]) && !(dozing.begun 0x0D05 (ent [(0, 1)])).motionRuns,
      acc live 0x0D06 (ent []) && !(live.begun 0x0D06 (ent [])).longBusy [0x0D06] 0,
      acc (busy 0x0D06) 0x0D06 (ent []) && ((busy 0x0D06).begun 0x0D06 (ent [])).longBusy [0x0D06] 0,
      acc live 0x0D07 (ent []) && !(live.begun 0x0D07 (ent [])).longBusy [0x0D07] 0,
      acc (busy 0x0D07) 0x0D07 (ent []) && ((busy 0x0D07).begun 0x0D07 (ent [])).longBusy [0x0D07] 0].all id = true := by decide

/-! ### The register rows -/

theorem test_hyps_FieldsTakeWritesByAccessCode :
    let open1 := (live.wr Reg.SDI_CFG.EN 15 1)
    [Reg.SCALE.SCALE.acc == .sh, Reg.SDI_CFG.EN.acc == .rw, Reg.SDI_CFG.DIR_POL.acc == .wd, Reg.WAKE_REASON.REASON.acc == .w1c,
      Reg.REC_HEAD.ESEQ.acc == .ro, !live.fixedEnable (Reg.SCALE.SCALE, 63), !live.fixedEnable (Reg.SDI_CFG.EN, 15),
      bitsOf 0xFFFFFFFF Reg.SDI_CFG.EN.lsb Reg.SDI_CFG.EN.width != 0, bitsOf 0 Reg.SDI_CFG.EN.lsb Reg.SDI_CFG.EN.width == 0,
      (live.guard 0x10).isNone, (live.guard 0x23C).any (fun g => !g.on), (open1.guard 0x23C).any (fun g => g.on),
      !(fieldsAt 0x23C).any (fun p => open1.guarded p && p.1.merged (open1.rd p.1 p.2) 1 1 != open1.rd p.1 p.2),
      (fieldsAt 0x23C).any (fun p => open1.guarded p
        && p.1.merged (open1.rd p.1 p.2) 0xFFFFFFFF 0xFFFFFFFF != open1.rd p.1 p.2)].all id = true := by decide +kernel

theorem test_hyps_WritesReachTheirRegister :
    [!live.busOff, live.usbHidden 0xD100 && live.usbHidden 0xD1FC, !live.usbHidden 0xD0FC, !live.usbHidden 0xD200,
      !usbLive.usbHidden 0xD100, !ownEffect 0x10, ownEffect 0x408, ownEffect 0x608, ownEffect 0x60C, ownEffect 0x1200,
      ownEffect 0x1250, ownEffect 0x1000, ownEffect 0x11FC, ownEffect 0x1300, ownEffect 0x137C, ownEffect 0xD118, ownEffect 0xC400,
      ownEffect 0xCBFC, !ownEffect 0xCC00,
      enableFields.all (fun f => (List.range f.count).all (fun j =>
        (live.writeFields 0x10 0xFFFFFFFF 0xFFFFFFFF).on f j == live.on f j)),
      inSram 0x10000000 && inSram 0x10FFFFFC && !inSram 0x11000000, inMram 0x20000000 && inMram 0x207FFFFC].all id
      = true := by decide +kernel

theorem test_hyps_UnassignedAddressesReadZero :
    [(fieldsAt 0xFFFC).isEmpty, goes (exec (.latchedLowWordRead .usb 0xFFFC) (st live)), !live.busOff,
      live.latches.all (fun l => l.addr != 0xFFFC)].all id = true := by decide +kernel

theorem test_hyps_LowWordReadsLatchTheHighWord :
    [mapped 0xFFFC, mapped 0x10FFFFFC, (latchedBy (Reg.GRAIN_CNT_L.COUNT.addr 0)).contains (Reg.GRAIN_CNT_L.COUNT.addr 0 + 4),
      (latchedBy 0x7FD0).contains 0x7FDC, goes (exec (.latchedLowWordRead .usb 0x7FD0) (st live)),
      !(after (.latchedLowWordRead .usb 0x7FD0) live).busOff].all id = true := by decide +kernel

theorem test_hyps_DoorbellAdvancesAnIndex :
    let pre := live.wr Reg.MB_STAT.MB_READY 0 0
    let full := live.wr Reg.RING_PI.PI 1 (live.ringSize 1)
    [!live.busOff, !pre.busOff && !pre.on Reg.MB_STAT.MB_READY, live.on Reg.MB_STAT.MB_READY,
      !live.ringOn 255, live.ringOn 0 && live.rd Reg.RING_CFG.ROLE 0 == 0 && live.rd Reg.RING_PI.PI 0 == 0,
      live.ringOn 1 && live.rd Reg.RING_CFG.ROLE 1 == 1, decide (live.ringSize 0 < live.ringCount 0 + (live.ringSize 0 + 1)),
      decide (full.ringCount 1 < live.ringSize 1 + 1), decide (live.ringCount 1 < 1), !bitOf (live.route 48) 6,
      decide (live.rd Reg.RING_PI.PI 0 < 2 ^ 32)].all id = true := by decide +kernel

theorem test_hyps_SystemRegisterRowsAct :
    let ring (v : Nat) : Device := live.writeFields (0x2004 + 0x10 * 255) v 0xFFFFFFFF
    let off := live.wr Reg.RING_CFG.EN 1 0
    let on := off.writeFields 0x2014 (off.busWord 0x2014 + 1) 0xFFFFFFFF
    let kept := live.writeFields (0x2004 + 0x10) 0 0xFFFFFFFF
    let pair (v : Nat) : Device := live.writeFields (0x2004 + 0x10 * 2) v 0xFFFFFFFF
    let port (v : Nat) : Device := live.writeFields (0x300 + 0x20 * 3) v 0xFFFFFFFF
    [(live.modPower (fun p => { p with devrst := true })).busOff, !live.busOff, live.ringOn 1, !(ring 0).ringOn 255, !kept.ringOn 2,
      !live.ringOn 255 && (ring 1).ringOn 255 && !(ring 1).ringFit 255,
      !off.ringOn 1 && on.ringOn 1 && on.ringFit 1, !live.ringOn 2 && (pair 1).ringOn 2 && !(pair 1).usbPresent,
      decide (live.rd Reg.GPIO_OE_H.OE < 2 ^ Reg.GPIO_OE_H.OE.width),
      decide (live.rd Reg.GPIO_OE_L.OE < 2 ^ Reg.GPIO_OE_L.OE.width),
      !live.on Reg.SPM_CTRL.EN 3 && (port 1).on Reg.SPM_CTRL.EN 3 && !(port 0).on Reg.SPM_CTRL.EN 3].all id
      = true := by decide +kernel

theorem test_hyps_BlockEnablesAct :
    [(Reg.TL_CTRL.EN, 15), (Reg.CAM_CTRL.EN, 1), (Reg.BM_CTRL.EN, 0), (Reg.CD_CFG.EN, 1), (Reg.NE_CTRL.EN, 0),
      (Reg.FUS_CTRL.EN, 0)].all (fun (p : Field × Nat) =>
        let w (d : Device) (v : Nat) : Device := d.writeFields (p.1.addr p.2) v 0xFFFFFFFF
        let limited := live.wr Reg.IMG_STAT.RESTRICTED 0 1
        let set := live.wr p.1 p.2 1
        !(w live 0).on p.1 p.2 && !live.on p.1 p.2 && (w live (2 ^ p.1.lsb)).on p.1 p.2
          && !(w live (2 ^ p.1.lsb)).on Reg.IMG_STAT.RESTRICTED && (w limited (2 ^ p.1.lsb)).on p.1 p.2
          && (w limited (2 ^ p.1.lsb)).on Reg.IMG_STAT.RESTRICTED && set.on p.1 p.2 && !(w set 0).on p.1 p.2) = true := by
  decide +kernel

theorem test_hyps_PortAndSensorEnablesAct :
    let cyc (d : Device) (v : Nat) : Device := d.writeFields 0xD000 v 0xFFFFFFFF
    let on := live.wr Reg.CYC_CTRL.EN 0 1
    let off := live.wr Reg.CYC_CTRL.EN 0 0
    let many := (off.wr Reg.LIVE_MASK.MASK 0 0xFFFFFFFF).wr Reg.LIVE_MASK.MASK 1 0xFFFFFFFF
    let strm (d : Device) (v : Nat) : Device := d.writeFields (0xD120 + 4 * 7) v 0xFFFFFFFF
    let ring (n : Nat) : Nat := 1 * 2 ^ Reg.USB_STRM.SEN.lsb + n * 2 ^ Reg.USB_STRM.RING.lsb
    let taken := (usbLive.wr Reg.USB_STRM.SEN 0 1).wr Reg.USB_STRM.RING 0 1
    [(cyc on 1).on Reg.CYC_CTRL.EN, !off.on Reg.CYC_CTRL.EN && !(cyc off 0).on Reg.CYC_CTRL.EN,
      on.on Reg.CYC_CTRL.EN && !(cyc on 0).on Reg.CYC_CTRL.EN,
      (cyc off 1).on Reg.CYC_CTRL.EN && decide (4 + 2 * (cyc off 1).liveAxes.length ≤ (cyc off 1).cycWords),
      !many.on Reg.CYC_CTRL.EN && (cyc many 1).on Reg.CYC_CTRL.EN && decide ((cyc many 1).cycWords < 4 + 2 * (cyc many 1).liveAxes.length),
      usbLive.usbPresent, !live.usbPresent, !(strm usbLive 0).on Reg.USB_STRM.SEN 7,
      (strm usbLive (ring 1)).on Reg.USB_STRM.SEN 7 && (strm usbLive (ring 1)).rd Reg.USB_STRM.RING 7 == 1
        && (strm usbLive (ring 1)).rd Reg.RING_CFG.ROLE 1 == 1,
      (strm usbLive (ring 0)).on Reg.USB_STRM.SEN 7 && (strm usbLive (ring 0)).rd Reg.RING_CFG.ROLE 0 != 1,
      (strm taken (ring 1)).on Reg.USB_STRM.SEN 7 && taken.rd Reg.USB_STRM.RING 0 == (strm taken (ring 1)).rd Reg.USB_STRM.RING 7].all
      id = true := by decide +kernel

/-! ### The scheduler's own rows, the ticks and the axes -/

theorem test_hyps_SchedulerRowsAct :
    let due := live.modSched (fun k => { k with resetDue := true })
    let waits : Machine.Task := { task 0x0101 3 .waiting with entry := { ent [] with waitTmo := 1 } }
    let late := (withTask live waits).modSched (fun k => { k with clock := 1000 })
    let held := live.modSched (fun k => { k with held := [⟨1, 0, true, 0, []⟩, ⟨0, 0, true, 0, []⟩] })
    [!(live.wr Reg.MB_STAT.MB_READY 0 0).passes, due.passes && due.sched.resetDue, live.passes && !live.sched.resetDue,
      late.passes && late.task? 3 == some waits && !waits.met && waits.entry.waitTmo != 0
        && decide (waits.taken + 1000 * waits.entry.waitTmo.toNat ≤ late.sched.clock),
      live.task? 3 == none, decide ((withTask live waits).sched.clock < waits.taken + 1000),
      live.sched.held == [], !(held.wr Reg.RING_CFG.EN 1 0).ringRoom 1 1,
      held.passes && held.sched.held == [⟨1, 0, true, 0, []⟩] ++ (⟨0, 0, true, 0, []⟩ : HeldCpl) :: [] && held.ringRoom 1 1].all id
      = true := by decide +kernel

theorem test_hyps_LongCommandsEnd :
    [0x0701, 0x0705, 0x0706, 0x0707, 0x0B06, 0x0C04, 0x0C05, 0x0C06, 0x0D06, 0x0D07].all (fun op =>
      (withTask live (task op 127 .executing)).task? 127 == some (task op 127 .executing)
      && (withTask live (task op 127 .waiting)).task? 127 == some (task op 127 .waiting)) = true
    ∧ live.task? 127 = none := by decide +kernel

theorem test_hyps_TickRowsAct : [live.motionRuns, !dozing.motionRuns].all id = true := by decide

theorem test_hyps_EndsAndStallsOfAnAxisAct :
    let run (b : Bool) : ChainRun := ⟨0, 0, 0, 0, 0, false, b⟩
    let stop (i : Nat) : StopRun := ⟨0, i, 0, false, false⟩
    let still := ((live.wr Reg.AX_STAT.STATE 63 stSettling).modAx 63 (fun a => { a with
      settle := live.rd Reg.SETTLE.TICKS 63 }))
    let ramp (k : Nat) : Device := live.modAx 63 (fun a => { a with ramp := some ⟨true, k⟩ })
    let rest := ((live.wr Reg.AX_STAT.STATE 63 stRest).wr Reg.CUR_CTRL.HOLD_LEAN 63 1).modAx 63 (fun a => { a with
      dwell := live.rd Reg.CUR_LIM.HOLD_DWELL 63 })
    let home (r : Bool) : HomeRun := { HomeRun.start false false with dist := 2 ^ 24, redefine := r }
    let homing (d : Device) (r : Bool) : Device := (((d.wr Reg.AX_STAT.STATE 63 stHoming).wr Reg.HOME_STAT.PHASE 63 4).wr
      Reg.HOME_MAXD.MAXDIST 63 1).modAx 63 (fun a => { a with home := some (home r) })
    let stalled := live.modAx 63 (fun a => { a with stallRun := max 1 (live.rd Reg.STALL_CFG.STALL_N 63) })
    let act (v : Nat) : Device := stalled.wr Reg.CUR_CTRL.STALL_ACT 63 v
    let reported (d : Device) : Device := (d.modAx 63 (fun x => { x with stallRun := 0 })).curEvt 63 0
    let free (d : Device) : Device := ((reported d).occur 0x02 63).setPosState 63 posLost
    let seek := ((homing stalled false).wr Reg.HOME_STAT.PHASE 63 1).wr Reg.HOME_CFG.METHOD 63 1
    [((live.modAx 63 (fun a => { a with run := some (run true) })).ax 63).run == some (run true),
      ((live.modAx 63 (fun a => { a with run := some (run false) })).ax 63).run == some (run false), (live.ax 63).run == none,
      ((live.modAx 63 (fun a => { a with stop := some (stop 101) })).ax 63).stop == some (stop 101)
        && decide (stopTicks (live.links 0) < 101),
      (live.ax 63).stop == none && decide (0 ≤ stopTicks (live.links 0)),
      still.axSt 63 == stSettling && (still.ax 63).ramp == none && (still.ax 63).ident == none
        && decide (still.rd Reg.SETTLE.TICKS 63 ≤ (still.ax 63).settle), live.axSt 63 != stSettling,
      ((ramp 800).ax 63).ramp == some ⟨true, 800⟩, ((ramp 799).ax 63).ramp == some ⟨true, 799⟩,
      rest.axSt 63 == stRest && rest.on Reg.CUR_CTRL.HOLD_LEAN 63
        && decide (rest.rd Reg.CUR_LIM.HOLD_DWELL 63 ≤ (rest.ax 63).dwell), live.axSt 63 != stRest,
      ((homing live true).ax 63).home == some (home true), ((homing live false).ax 63).home == some (home false),
      (homing live false).axSt 63 == stHoming && (homing live false).rd Reg.HOME_STAT.PHASE 63 == 4
        && (homing live false).rd Reg.HOME_MAXD.MAXDIST 63 == 1
        && decide (2 ^ 24 ≤ (homing live false).homeTravelled 63 (home false)), (live.ax 63).home == none,
      decide ((live.ax 63).stallRun < 1),
      (reported seek).stallSeek 63, !(reported stalled).stallSeek 63,
      (free (act 0)).rd Reg.CUR_CTRL.STALL_ACT 63 == 0 && (free (act 1)).rd Reg.CUR_CTRL.STALL_ACT 63 == 1
        && (free (act 2)).rd Reg.CUR_CTRL.STALL_ACT 63 == 2].all id = true := by decide +kernel

theorem test_hyps_StepEdgesCount :
    [!live.on Reg.SDI_CFG.EN 15, (live.wr Reg.SDI_CFG.EN 15 1).on Reg.SDI_CFG.EN 15
      && decide ((live.wr Reg.SDI_CNT.CNT 15 0xFFFFFFFF).rd Reg.SDI_CNT.CNT 15 < 2 ^ 32)].all id = true := by decide

theorem test_hyps_FollowEndsAct :
    let seen (t : Nat) : Device := ({ live with sdi := modNth (fun x => { x with last := some t }) 0 live.sdi }).modPower
      (fun p => { p with cd03 := 400000 })
    let waits (u : Nat) : Device := (live.wr Reg.AX_STAT.STATE 63 stFollow).modAx 63 (fun a => { a with
      follow := some ⟨0, 0, u⟩, leave := [⟨3, 10⟩] })
    [live.rd Reg.FOL_CFG.SRC 63 == 0, (live.sdiIn 0).last == none,
      ((seen 0).sdiIn 0).last == some 0 && decide (0 + 400000 ≤ (seen 0).cd03),
      ((seen 1).sdiIn 0).last == some 1 && !decide (1 + 400000 ≤ (seen 1).cd03),
      (waits 0).axSt 63 == stFollow && ((waits 0).ax 63).follow == some ⟨0, 0, 0⟩ && !((waits 0).ax 63).leave.isEmpty
        && ((waits 0).sdiIn 0).last == none,
      ((waits 1).ax 63).follow == some ⟨0, 0, 1⟩, live.axSt 63 != stFollow].all id = true := by decide +kernel

theorem test_hyps_EncoderInputsCount :
    let on := live.wr Reg.QE_CFG.EN 7 1
    [!live.on Reg.QE_CFG.EN 7, on.on Reg.QE_CFG.EN 7 && !on.power.grain, (on.modPower (fun p => { p with grain := true })).power.grain,
      !(on.qeLevels 7).a && !(on.qeLevels 7).b, (quadStep (on.rd Reg.QE_CFG.MODE 7) false false true false).isSome,
      !(on.qeLevels 7).i && !on.on Reg.QE_CFG.IDX_POL 7, on.rd Reg.HOME_CFG.QE 63 != 7,
      (on.wr Reg.HOME_CFG.QE 63 7).rd Reg.HOME_CFG.QE 63 == 7,
      gateOk (on.rd Reg.QE_CFG.IDX_GATE 7) true true || gateOk (on.rd Reg.QE_CFG.IDX_GATE 7) false false].all id
      = true := by decide

theorem test_hyps_PinLevelsAct :
    [live.pads.sstopN, !({ live with pads := { live.pads with sstopN := false } } : Device).pads.sstopN,
      live.running, !dozing.motionRuns, !(live.modPower (fun p => { p with grain := true })).running].all id = true := by
  decide

/-! ### Resets and power -/

theorem test_hyps_ResetsKeepAndClear :
    let pw (f : Power → Power) : Device := live.modPower f
    [(pw (fun p => { p with por := true })).power.por, !live.power.por, (pw (fun p => { p with grain := true })).power.grain,
      (pw (fun p => { p with devrst := true })).power.devrst, !live.power.grain && !live.power.devrst, live.power.rstN && !live.power.test,
      !(pw (fun p => { p with rstN := false })).power.rstN, (pw (fun p => { p with test := true })).power.test].all id
      = true := by decide

theorem test_hyps_BootSupplyAndClockRowsAct :
    let cold := live.wr Reg.MB_STAT.MB_READY 0 0
    [live.on Reg.MB_STAT.MB_READY, !cold.on Reg.MB_STAT.MB_READY && !cold.power.por && !cold.power.devrst
        && bitOf (cold.rd Reg.BO_STAT.OK) 4, !bitOf ((cold.comparator 4 false).rd Reg.BO_STAT.OK) 4,
      (live.modPower (fun p => { p with crystal := true })).power.crystal, !live.power.crystal,
      !live.boWarn, (live.comparator 3 true).boWarn,
      (live.modPower (fun p => { p with por := true })).power.por].all id = true := by decide

theorem test_hyps_GrainEdgesRefreshTheCopies :
    [!live.power.por, (live.modPower (fun p => { p with por := true })).power.por, Reg.GRAIN_CNT_L.COUNT.acc == .rcBG].all id
      = true := by decide

theorem test_hyps_PowerRowsAct :
    let step (m : ModeStep) (g : Nat) : Device := dozing.modPower (fun p => { p with step := m, goal := g })
    let woken (d : Device) : Device := (d.wr Reg.WAKE_REASON.REASON 0 0x10).wr Reg.WAKE_EN.EN 0 0x10
    let late (b : Bool) : Device := (woken (step .committed 0)).modPower (fun p => { p with wakeLate := b })
    let alarm := (live.wr Reg.WAKE_CFG.ALARM_EN 0 1).wr Reg.GRAIN_ALARM_L.ALARM 0 (live.grain % 2 ^ 32)
    let turned := dozing.modPower (fun p => { p with qeWake := max 1 (live.rd Reg.WAKE_CFG.QE_THR) })
    let kept := (step .deferred 0).modKeep (fun k => { k with store := some ⟨0, 0, 0, 0, [], 0, 0, 0, 0, 0⟩ })
    let frozen := (step .entering 0).modCyclic (fun c => { c with frozen := true })
    let away (v : Bool) : Device := (live.wr Reg.WAKE_CFG.VAD_RETURN 0 (b2n v)).modPower (fun p => { p with excursion := some 1 })
    let rise := (step .rising 2).modPower (fun p => { p with grain := true })
    [dozing.wakeMode 1 == none, dozing.wakeMode 15 == none, !dozing.wakeActs 4,
      (woken dozing).wakeMode 4 == some 2 && (woken dozing).wakeActs 4 && (woken dozing).turnNormal.power.step == .none
        && decide ((woken dozing).turnNormal.mode < 2), (woken live).wakeActs 4 && decide (2 ≤ (woken live).turnNormal.mode),
      (woken (step .rising 2)).turnNormal.power.step == .rising, (late true).turnNormal.power.wakeLate
        && (late true).turnNormal.power.step == .committed, !(late false).turnNormal.power.wakeLate,
      (woken (step .entering 1)).turnNormal.power.step == .entering, (woken (step .deferred 0)).turnNormal.power.step == .deferred,
      alarm.on Reg.WAKE_CFG.ALARM_EN && alarm.grain == alarm.rd Reg.GRAIN_ALARM_L.ALARM
        + 2 ^ 32 * alarm.rd Reg.GRAIN_ALARM_H.ALARM, !live.on Reg.WAKE_CFG.ALARM_EN,
      decide (turned.mode ≤ 1) && decide (max 1 (turned.rd Reg.WAKE_CFG.QE_THR) ≤ turned.power.qeWake), decide (1 < live.mode),
      (step .ready 0).power.step == .ready, (step .entering 2).power.target == 0,
      ((step .entering 0).modPower (fun p => { p with target := 2 })).power.target == 2, (step .none 0).power.step != .deferred,
      (step .deferred 0).deferCause 0 == 0, kept.deferCause (kept.mode - 1) != 0,
      frozen.cyclic.frozen && frozen.changesBusClock, !(step .entering 0).cyclic.frozen, (step .committed 0).power.step == .committed,
      (step .entering 0).power.goal == 0, (step .entering 1).power.goal == 1, (step .entering 2).power.goal == 2,
      (step .rising 2).power.goal == 2, (step .rising 3).power.goal == 3, (step .rising 1).power.goal == 1,
      rise.power.grain && rise.power.step == .rising, live.power.excursion == none,
      (away true).power.excursion == some 1 && (away true).power.step == .none && (away true).audio.seg == none
        && decide (1 < (away true).mode) && (away true).audio.verdict == 0 && (away true).on Reg.WAKE_CFG.VAD_RETURN,
      !(away false).on Reg.WAKE_CFG.VAD_RETURN, (withPhrase (away true) phrase).audio.seg.isSome].all id = true := by decide +kernel

/-! ### The ports -/

theorem test_hyps_CyclicRowsAct :
    let on := live.wr Reg.CYC_CTRL.EN 0 1
    let frozen := on.modCyclic (fun c => { c with frozen := true })
    let words := List.replicate on.cycWords (0 : Word)
    let lost (a : Nat) : Device := (((on.wr Reg.CYC_CFG.LOSS_TMO 0 1).wr Reg.CYC_STAT.REF_VALID 0 1).wr Reg.CYC_CFG.LOSS_ACT 0
      a).modPower (fun p => { p with loops := 41 })
    let asked := frozen.modPower (fun p => { p with step := .entering, goal := 1 })
    let told (d : Device) : Device := ((d.wr Reg.CYC_STAT.MASTER_LOST 0 1).cycEvt 8).occur 0x0A 0
    let sum := frameCrc (words.take (on.cycWords - 1))
    [on.cycOn && !on.cyclic.frozen && !on.power.grain, !(live.wr Reg.CYC_CTRL.EN 0 0).cycOn, frozen.cyclic.frozen,
      (on.modPower (fun p => { p with grain := true })).power.grain, decide (0 < 32 * on.cycWords - 1),
      !on.cyclic.unjudged && !on.busClockStep, (on.modCyclic (fun c => { c with unjudged := true })).cyclic.unjudged,
      (on.modPower (fun p => { p with step := .entering, goal := 1 })).busClockStep, !asked.busClockStep,
      (on.modCyclic (fun c => { c with restartDue := some true })).cyclic.restartDue == some true, on.cyclic.restartDue == none,
      decide (32 * on.cycWords + 1 < 2 ^ 14), words.length == on.cycWords,
      (nth (0 : Word) (on.cycWords - 1) words).toNat != sum,
      (nth (0 : Word) (on.cycWords - 1) (words.take (on.cycWords - 1) ++ [BitVec.ofNat 32 sum])).toNat == sum,
      (lost 0).motionRuns && (lost 0).on Reg.CYC_STAT.REF_VALID && !(lost 0).on Reg.CYC_STAT.MASTER_LOST
        && decide (40 * (lost 0).rd Reg.CYC_CFG.LOSS_TMO < (lost 0).loops - (lost 0).cyclic.releasedAt),
      (told (lost 0)).rd Reg.CYC_CFG.LOSS_ACT == 0, (told (lost 1)).rd Reg.CYC_CFG.LOSS_ACT == 1,
      (told (lost 2)).rd Reg.CYC_CFG.LOSS_ACT == 2].all id = true := by decide +kernel

theorem test_hyps_UsbRowsAct :
    let sent := usbLive.modUsb (fun u => { u with
      ep2Sent := true, ep3In := some ⟨1, [0], 0, [1]⟩, ep1 := [(0, [1, 2, 3, 4])] })
    let part := sent.modUsb (fun u => { u with ep1In := some ⟨3, List.replicate 65 0, 0, [32, 65]⟩ })
    let strm := ((((usbLive.wr Reg.USB_STRM.SEN 7 1).wr Reg.USB_STRM.RING 7 1).wr Reg.RING_PI.PI 1 1))
    let same := usbLive.modUsb (fun u => { u with ep2Sum := usbLive.evtSum 4, ep2Flags := usbLive.reportFlags })
    let fresh := same.modUsb (fun u => { u with ep2New := [48] })
    let asleep := usbLive.wr Reg.USB_STAT.STATE 0 5
    [usbLive.epRuns 0 && usbLive.epRuns 1 && usbLive.epRuns 2 && usbLive.epRuns 3, !live.epRuns 0 && !live.epRuns 3,
      decide (4096 < (List.replicate 4097 (0 : Byte)).length), (usbLive.judgeTransfer []).1 == 0,
      usbLive.usbServes && !live.usbServes, (sent.inTransfer 4096 sent.usb.ep1 0 [] []).2.2 == [1, 2, 3, 4],
      (usbLive.inTransfer 4096 usbLive.usb.ep1 0 [] []).2.2 == [], sent.usb.ep2Sent, !usbLive.usb.ep2Sent,
      same.evtSum 4 == same.usb.ep2Sum && same.reportFlags == same.usb.ep2Flags && same.usb.ep2New == [],
      fresh.usb.ep2New != [], sent.usb.ep3In == some ⟨1, [0], 0, [1]⟩, usbLive.usb.ep3In == none,
      sent.usb.ep1In == none, part.usb.ep1In.isSome && part.epRuns 1, !part.ringOn 3,
      (part.wr Reg.RING_CFG.EN 3 1).ringOn 3, usbLive.streamTurn == none,
      strm.streamTurn == some 7, usbLive.rd Reg.USB_STAT.STATE == 4 && usbLive.running && !usbLive.hostless
        && usbLive.usb.test == 0, bitsOf 0x0680 5 2 == 0 && decide (bitsOf 0x0680 0 5 ≤ 2), bitsOf 0x20 5 2 != 0,
      decide (2 < bitsOf 3 0 5), asleep.rd Reg.USB_STAT.STATE == 5, live.rd Reg.USB_STAT.STATE == 0,
      (usbLive.modUsb (fun u => { u with reattach := true })).usb.reattach, !usbLive.usb.reattach,
      (usbLive.wr Reg.RING_CFG.EN 3 1).ringOn 3 && (usbLive.wr Reg.RING_PI.PI 3 1).ringCount 3 != 0,
      usbLive.ringCount 3 == 0].all id
      = true := by decide +kernel

theorem test_hyps_RemoteWakeAndConsoleRowsAct :
    let asleep (d : Device) : Device := ((d.wr Reg.USB_CTRL.PRESENT 0 1).wr Reg.USB_STAT.STATE 0 5).wr Reg.USB_RWAKE.PEND 0 1
    let may (d : Device) : Bool := d.usbPresent && d.rd Reg.USB_STAT.STATE == 5
      && (d.rd Reg.USB_RWAKE.PEND - (d.rd Reg.USB_RWAKE.PEND &&& d.rd Reg.USB_RWAKE.DONE)) != 0 && d.usb.wake == .idle
      && d.power.excursion != some 0
    let feat (d : Device) : Device := ((asleep d).wr Reg.USB_STAT.RWAKE_FEAT 0 1).modUsb (fun u => { u with before := 4 })
    let at' (w : WakePhase) : Device := live.modUsb (fun u => { u with wake := w })
    let low (m : ModeStep) : Device := (feat dozing).modPower (fun p => { p with step := m })
    [may (asleep live) && !(asleep live).on Reg.USB_STAT.RWAKE_FEAT, may (feat live) && (feat live).on Reg.USB_STAT.RWAKE_FEAT
        && decide (2 ≤ (feat live).mode), may (low .none) && decide ((low .none).mode < 2) && (low .none).power.step == .none,
      may (low .rising) && (low .rising).power.step == .rising, may (low .entering) && (low .entering).power.target != 2,
      may ((low .entering).modPower (fun p => { p with target := 2 })), may (low .deferred), may (low .ready),
      may (low .committed) && !(low .committed).power.wakeLate,
      may ((low .committed).modPower (fun p => { p with wakeLate := true })), (feat live).usb.before == 4,
      ((at' .drive).wr Reg.USB_STAT.STATE 0 5).rd Reg.USB_STAT.STATE == 5, (at' .drive).rd Reg.USB_STAT.STATE != 5,
      !may live, (at' .listen).usb.wake == .listen, (at' .drive).usb.wake == .drive,
      (at' .met).usb.wake == .met, ((at' .met).wr Reg.USB_STAT.STATE 0 5).rd Reg.USB_STAT.STATE == 5,
      (at' .met).rd Reg.USB_STAT.STATE != 5, (at' .wait).usb.wake == .wait,
      live.usb.wake == .idle, !live.power.grain && !live.power.devrst && !live.power.por,
      (live.modPower (fun p => { p with grain := true })).power.grain, decide (64 < (List.replicate 65 (0 : Byte)).length),
      (live.consoleLog (ascii "log 1")).isSome, live.consoleLog (ascii "log 65") == none && live.consoleFacts (ascii "log 65") == none,
      live.consoleLog (ascii "id") == none && (live.consoleFacts (ascii "id")).isSome].all id = true := by decide +kernel

/-! ### Links, converters and sensors -/

theorem test_hyps_LinkRowsAct :
    let at' (s n : Nat) : Device := (live.wr Reg.TL_STAT.LSTATE 15 s).modTile 15 (fun x => { x with frames := n })
    let good := (at' 3 16).modTile 15 (fun x => { x with goodRun := 16, idSeen := 0xFFFF })
    let fitting := (good.wr Reg.TL_RTT.RTT_BITS 15 468).wr Reg.TL_ID2.BYTE 15 0x10000
    let late (s : Nat) : Device := (at' s 0).modTile 15 (fun x => { x with
      sinceDown := max 1 (live.rd Reg.TL_CFG.START_TMO 15) * 40 })
    let held := (at' 5 0).wr Reg.TL_STAT.HELD_RUN 15 (min 40 (max 2 (live.rd Reg.TL_CFG.HOLD_MAX 15)))
    let track := (at' 4 64).wr Reg.TL_CFG.TRACK_EN 15 1
    let clear := (live.wr Reg.TL_STAT.INHIBIT 15 1).modTile 15 (fun x => { x with
      clearRun := max 1 (live.rd Reg.TL_CFG.INH_CLR 15) })
    let tel := (live.wr Reg.TL_CTRL.TEL_EN 15 1).modTile 15 (fun x => { x with telCnt := 2 ^ live.rd Reg.TEL_CFG.DEC 15 })
    let again := ((at' 6 4).wr Reg.TL_CTRL.EN 15 1)
    [live.lstate 15 == 0, (at' 7 0).lstate 15 == 7, (at' 1 8).lstate 15 == 1 && decide (8 ≤ ((at' 1 8).tile 15).frames),
      decide (((at' 1 7).tile 15).frames < 8), (at' 2 16).lstate 15 == 2, decide (((at' 2 15).tile 15).frames < 16),
      decide (3 ≤ (longestRun (fun p => decide (2 ≤ nth 0 (([7, 0, 1] : List Nat).idxOf p) [2, 2, 2]))).2),
      decide ((longestRun (fun p => decide (2 ≤ nth 0 p [2, 2, 1]))).2 < 3),
      decide (((at' 2 1).tile 15).frames ≠ 0), ((at' 2 0).tile 15).frames == 0,
      (at' 3 0).lstate 15 == 3, (at' 4 0).lstate 15 == 4, (at' 5 0).lstate 15 == 5,
      decide (16 ≤ (good.tile 15).goodRun) && (good.tile 15).idSeen == 0xFFFF && bitsOf (fitting.rd Reg.TL_ID2.BYTE 15) 16 8 == 1,
      !decide (16 ≤ ((at' 3 16).tile 15).goodRun), (at' 6 4).lstate 15 == 6 && decide (4 ≤ ((at' 6 4).tile 15).frames),
      decide (((at' 6 3).tile 15).frames < 4), ((again.setLstate 15 0).finishTiles).on Reg.TL_CTRL.EN 15
        && ((again.setLstate 15 0).finishTiles).running, !(((at' 6 4).setLstate 15 0).finishTiles).on Reg.TL_CTRL.EN 15,
      [1, 2, 3].all (fun s => decide (max 1 ((late s).rd Reg.TL_CFG.START_TMO 15) * 40 ≤ ((late s).tile 15).sinceDown)),
      held.lstate 15 == 5 && decide (min 40 (max 2 (held.rd Reg.TL_CFG.HOLD_MAX 15)) ≤ held.rd Reg.TL_STAT.HELD_RUN 15),
      track.lstate 15 == 4 && track.on Reg.TL_CFG.TRACK_EN 15 && decide (64 ≤ (track.tile 15).frames),
      clear.on Reg.TL_STAT.INHIBIT 15 && decide (max 1 (clear.rd Reg.TL_CFG.INH_CLR 15) ≤ (clear.tile 15).clearRun),
      tel.on Reg.TL_CTRL.TEL_EN 15 && decide (2 ^ tel.rd Reg.TEL_CFG.DEC 15 ≤ (tel.tile 15).telCnt), !live.on Reg.TL_CTRL.TEL_EN 15,
      !live.on Reg.TL_STAT.INHIBIT 15].all id = true := by decide +kernel

theorem test_hyps_ConverterRowsAct :
    let conv (u : Option Urgent) (n : Option Nat) : Device := live.modAdc (fun a => { a with
      converting := true, urgent := u, entry := n })
    let scan (h : Bool) (u : Option Urgent) (n : Option Nat) : Device := (live.wr Reg.ADC_CTRL.SCAN_EN 0 1).modAdc (fun a =>
      { a with dueHeld := h, urgent := u, entry := n })
    let rounds := (scan false none (some 39)).wr Reg.SCAN_CFG.ROUND_PER 0 1
    let ring (r : Nat) (d : Device) : Device :=
      (((d.wr Reg.RING_CFG.EN r 1).wr Reg.RING_CFG.LOG2SIZE r 4).wr Reg.RING_CFG.ESIZE r 1).wr Reg.RING_BASE.BASE r
      (0x10100000 / 2 ^ Reg.RING_BASE.BASE.lsb)
    let port (len : Nat) : Device := ((((ring 142 (ring 143 (live.wr Reg.SPM_CTRL.EN 3 1))).wr Reg.RING_PI.PI 142 1)).put
      0x10100001 [BitVec.ofNat 8 len])
    let taken : Spm := ⟨4001, [], 0, []⟩
    [!live.adc.converting, (conv none none).adc.converting && (conv none none).adc.entry == none,
      (conv (some ⟨0, 39, true⟩) none).adc.urgent == some ⟨0, 39, true⟩, (conv none (some 39)).adc.entry == some 39,
      !live.on Reg.ADC_CTRL.SCAN_EN, (live.modPower (fun p => { p with grain := true })).power.grain, !live.towardGrain,
      (live.modPower (fun p => { p with step := .entering, goal := 0 })).towardGrain,
      (scan false none none).on Reg.ADC_CTRL.SCAN_EN && (scan false none none).adc.entry == none,
      (scan false (some ⟨0, 0, false⟩) none).adc.urgent.isSome && !(scan false (some ⟨0, 0, false⟩) none).adc.dueHeld,
      (scan true (some ⟨0, 0, false⟩) none).adc.dueHeld,
      rounds.adc.entry.isSome && rounds.rd Reg.SCAN_CFG.ROUND_PER != 0 && !rounds.on Reg.SCAN_CFG.SINGLE,
      (rounds.wr Reg.SCAN_CFG.SINGLE 0 1).on Reg.SCAN_CFG.SINGLE,
      (live.modAdc (fun a => { a with refLeft := some 0 })).adc.refLeft == some 0, live.adc.refLeft != some 0,
      (port 24).running && (port 24).on Reg.SPM_CTRL.EN 3 && (port 24).ringOn 142 && (port 24).ringCount 142 != 0
        && (port 24).ringTakes 143 32 1,
      jobByte ((port 24).bytes ((port 24).ringAddr 142 ((port 24).rd Reg.RING_CI.CI 142)) 32) 1 == 24
        && 24 % (port 24).spiWordBytes 3 == 0 && decide ((port 24).spiCycles 3 24 true ≤ 4000),
      decide (4000 < ((port 24).wr Reg.SPM_CTRL.DIV 3 0xFF).spiCycles 3 24 true), decide (4000 < taken.used),
      (⟨0, [], 0, []⟩ : Spm).used == 0,
      jobByte ((port 25).bytes ((port 25).ringAddr 142 ((port 25).rd Reg.RING_CI.CI 142)) 32) 1 == 25].all id
      = true := by decide +kernel

/-- A frame of camera 1 in slot 0. -/
def frame1 : Frame := ⟨1, 0, 7, 0, 0⟩

theorem test_hyps_PerceptionRowsAct :
    let on := liveFull.wr Reg.CAM_CTRL.EN 1 1
    let busy := on.modCam 1 (fun x => { x with receiving := some frame1 })
    let queued := on.modPerc (fun p => { p with
      pyrQueue := [frame1], cornerQ := [[], [frame1]], matcher := { p.matcher with current := some frame1 } })
    let building := on.modPerc (fun p => { p with pyrNow := some frame1 })
    let slots (d : Device) : Device := (List.range 8).foldl (fun e k => e.claimFlag (frameFlag 1 k) 1 k) d
    let ne := (liveFull.wr Reg.NE_CTRL.EN 0 1).wr Reg.NE_STAT.ACTIVE 0 0xFFFF
    let heads (d : Device) : Device := (List.range 3).foldl (fun e q => e.checkHeads q (e.jobEntries q).length) d
    let spot := withPhrase ne { phrase with waiting := some (10, false) }
    let job (doomed : Bool) (sp : Option Nat) : Device := ne.modPerc (fun p => { p with
      job := some ⟨0, 0, List.replicate 64 0, 0, none, 0, 0, doomed, sp⟩ })
    let loaded := (job false none).modPerc (fun p => { p with
      handles := modNth (fun _ => some ⟨0, 64, 1, 0, 0, 0, 0, 0⟩) 0 p.handles })
    [!live.on Reg.CAM_CTRL.EN 1, !live.full, (on.wr Reg.CAM_STAT.CSI_LASTING 1 1).on Reg.CAM_STAT.CSI_LASTING 1,
      (busy.cam 1).receiving == some frame1, on.on Reg.CAM_CTRL.EN 1 && on.full && !on.on Reg.CAM_STAT.CSI_LASTING 1
        && (on.cam 1).receiving == none, on.freeSlot 1 == some 0, (slots on).freeSlot 1 == none,
      queued.perc.pyrNow == none && queued.perc.pyrQueue == [frame1] && queued.full, on.perc.pyrQueue == [],
      building.perc.pyrNow == some frame1, nth [] 1 queued.perc.cornerQ == [frame1], nth [] 1 on.perc.cornerQ == [],
      queued.perc.matcher.current.isSome, on.perc.matcher.current == none, ne.on Reg.NE_CTRL.EN && ne.full && ne.perc.job == none,
      (heads ne).pickQueue == none, (heads spot).pickQueue == some 3 && (heads spot).waitingSpotter == some (1, 10, false),
      (job true none).perc.job.any (fun j => j.doomed), (job false (some 1)).perc.job.any (fun j => j.spotter == some 1),
      (job false none).perc.job.any (fun j => j.spotter == none && !j.doomed) && (job false none).container 0 == none,
      (loaded.container 0).isSome].all id = true := by decide +kernel

theorem test_hyps_AudioAndFusionRowsAct :
    let on := liveFull.wr Reg.AUD_CTRL.AUD_EN 0 1
    let g (c e f : Bool) (p : Nat) : Segment := { phrase with copied := c, ended := e, final := f, placed := p }
    let scored (n : Nat) (f : Bool) : Segment := { phrase with score := n, result := some (10, f) }
    let thr := (liveFull.wr Reg.KWS_CFG.HIT_THR 0 5)
    let fus := liveFull.wr Reg.FUS_CTRL.EN 0 1
    let adv := ((fus.wr Reg.ADV_CFG.EN 7 1).modFusion (fun u => { u with
      advs := modNth (fun a => { a with hold := fus.rd Reg.ADV_CLEAR.HOLD_MS 7 + 1 }) 7 u.advs }))
    let aged := (((fus.wr Reg.STR_CFG.KIND 7 1).wr Reg.STR_CFG.AGE_LIM 7 1).modPower (fun p => { p with loops := 100000 }))
    [!live.on Reg.AUD_CTRL.AUD_EN, on.on Reg.AUD_CTRL.AUD_EN && !on.power.devrst, live.mode != 3,
      on.mode == 3 && (withPhrase on (g false false false 0)).audio.seg.isSome, live.audio.seg == none,
      (g true false true 10).final, (g true true false 0).ended, decide (0 < phrase.len / live.hop * live.hop),
      decide (phrase.len / live.hop * live.hop ≤ 10), phrase.result == none,
      decide (thr.rd Reg.KWS_CFG.HIT_THR ≤ (scored 5 false).score), decide ((scored 4 true).score < thr.rd Reg.KWS_CFG.HIT_THR),
      bitOf ((on.wr Reg.AUD_CFG.MIC_EN 0 8).rd Reg.AUD_CFG.MIC_EN) 3 && !bitOf (on.rd Reg.AUD_STAT.STUCK) 3,
      !live.on Reg.FUS_CTRL.EN, fus.on Reg.FUS_CTRL.EN && fus.full,
      adv.on Reg.ADV_CFG.EN 7 && decide (0 < (adv.adv 7).hold) && decide (adv.rd Reg.ADV_CLEAR.HOLD_MS 7 ≤ (adv.adv 7).hold - 1),
      !fus.on Reg.ADV_CFG.EN 7, aged.streamKind 7 != 0 && aged.rd Reg.STR_CFG.AGE_LIM 7 != 0
        && decide (aged.rd Reg.STR_CFG.AGE_LIM 7 * 1000 < aged.streamAge 7), fus.streamKind 7 == 0].all id
      = true := by decide +kernel

/-! ### Temperature, fans, keeping and recovery -/

theorem test_hyps_ThermalRowsAct :
    let th (f : Threshold → Threshold) : Device := live.modThreshold 24 2 f
    let dwell := th (fun h => { h with raw := true, out := false, since := some 0, hover := false })
    let done := dwell.modPower (fun p => { p with loops := BitVec.ofNat 64 (40000 * (dwell.dwellTenths 24 + 1) * 40) })
    let hover := (th (fun h => { h with hover := true, lastCross := none }))
    let fan (s : Nat) : Device := (live.wr Reg.FAN_CTRL.EN 5 1).wr Reg.FAN_STAT.STATE 5 s
    let quick := (fan 4).wr Reg.FAN_STAT.DUTY 5 201
    let turning := quick.modFan 5 (fun x => { x with current := some (5, false, 0) })
    let up := live.wr Reg.TL_STAT.LSTATE 15 4
    let one := up.modSensor 16 (fun r => { r with acc := 5, n := 1 })
    [live.lstate 15 != 4, up.lstate 15 == 4 && (up.sensor 16).n == 0, (one.sensor 16).n != 0,
      (dwell.threshold 24 2).since == some 0 && (dwell.threshold 24 2).raw != (dwell.threshold 24 2).out,
      (live.threshold 24 2).since == none, (hover.threshold 24 2).hover, !(live.threshold 24 2).hover,
      [0, 1, 2, 3, 4, 5, 6, 7].all (fun s => (fan s).rd Reg.FAN_STAT.STATE 5 == s),
      ((fan 2).wr Reg.FAN_STAT.ATTEMPT 5 3).rd Reg.FAN_STAT.ATTEMPT 5 == 3, decide ((fan 4).rd Reg.FAN_STAT.DUTY 5 ≤ 200),
      quick.rd Reg.FAN_STAT.DUTY 5 == 201, (turning.fanCurrent 5 65536).isSome, (quick.fanCurrent 5 65536).isNone,
      !live.on Reg.FAN_CTRL.EN 5, (fan 1).on Reg.FAN_CTRL.EN 5, live.fanTarget 5 == 0 || live.fanTarget 5 != 0,
      decide (0 ≤ done.grain), decide ((turning.fan 5).edges + 1 < 2)].all id = true := by decide +kernel

theorem test_hyps_KeepingAndRecoveryRowsAct :
    let run (why n : Nat) : StoreRun := ⟨0, 0, 0, 0, List.replicate n (0x20000000, []), 0, 0, 0, why, 0⟩
    let storing (why n : Nat) : Device := live.modKeep (fun k => { k with store := some (run why n) })
    let image (n : Nat) : Device := live.modKeep (fun k => { k with img := some ⟨0, List.replicate n (0x20000000, []), 0⟩ })
    let queued := live.modKeep (fun k => { k with queue := [⟨0x60, 0, [], none⟩] })
    let full := queued.wr Reg.REC_HEAD.ESEQ 0 16384
    let suspect := live.modChecker (fun k => { k with suspect := true })
    let due := live.modEvents (fun v => { v with units := [⟨24, 0, [], true, false, false⟩] })
    [live.keep.store.isNone && live.keep.img.isNone, (storing 0 2).keep.store == some (run 0 2), (image 1).keep.img.isSome,
      live.keep.queue.isEmpty, !queued.keep.queue.isEmpty && queued.mramReady && queued.recordRoom, !full.recordRoom,
      (queued.wr Reg.REC_QUEUE.LOST 0 1).rd Reg.REC_QUEUE.LOST == 1, queued.rd Reg.REC_QUEUE.LOST == 0,
      !(queued.comparator 4 false).mramReady, (storing 1 2).keep.store.any (fun r => r.stopping != 0 && decide (1 < r.lines.length)),
      !(storing 1 1).keep.store.any (fun r => decide (1 < r.lines.length)), suspect.events.checker.suspect,
      !live.events.checker.suspect, (due.scrUnit 24 0).due, !(live.scrUnit 24 0).due].all id = true := by decide +kernel

theorem test_hyps_LinkOffsetIsTheNearestInteger :
    [!(Link.mk 0xFFFFFE 1 0 1 0).unbounded, !(Link.mk 1 1 0 1 0).unbounded, (Link.mk 1 1 0 1 0).duration != 0].all id = true := by
  decide

theorem test_hyps_ReservedEventsNeverLatch :
    [!eventListed 1, !eventListed 402, !eventListed 512, acc live 0x0D03 (ent [(0, 1), (2, 1), (4, 127)]),
      goes (exec (.evtRoute (ent [(0, 1), (2, 1), (4, 127)])) (st live)),
      goes (exec (.registerWrite 0x11FC 0xFFFFFFFF) (st live))].all id = true := by decide +kernel

/-- The return frame of zeros, with its sync word, ECHO 0 and its CRC. -/
def zeroFrame : BitVec 3000 := (4148888845 : BitVec 32) ++ (0 : BitVec 2936) ++ (3412447992 : BitVec 32)

/-- Some 367 zero bits of the CRC. -/
def zeroRun (c : Nat) : Nat := (List.replicate 367 false).foldl crcBit c

theorem test_zeroRun : zeroRun 0xFFFFFFFF = 568236027 ∧ zeroRun 568236027 = 1329682524 ∧ zeroRun 1329682524 = 3063637188
    ∧ zeroRun 3063637188 = 685760416 ∧ zeroRun 685760416 = 3990538512 ∧ zeroRun 3990538512 = 1019786392
    ∧ zeroRun 1019786392 = 2469268619 ∧ zeroRun 2469268619 = 146078450 := by decide +kernel

theorem crc_zeros : crcBits (List.replicate 2936 false) = 4148888845 := by
  have h : (List.replicate 2936 false).foldl crcBit 0xFFFFFFFF
      = zeroRun (zeroRun (zeroRun (zeroRun (zeroRun (zeroRun (zeroRun (zeroRun 0xFFFFFFFF))))))) := by
    unfold zeroRun
    simp only [← List.foldl_append, List.replicate_append_replicate]
  obtain ⟨h1, h2, h3, h4, h5, h6, h7, h8⟩ := test_zeroRun
  rw [crcBits, h, h1, h2, h3, h4, h5, h6, h7, h8]
  rfl

theorem zeroFrame_middle (i : Nat) (hi : i < 2936) : zeroFrame.getLsbD (32 + i) = false := by
  show (((4148888845 : BitVec 32) ++ (0 : BitVec 2936)) ++ (3412447992 : BitVec 32)).getLsbD (32 + i) = false
  simp only [BitVec.getLsbD_append]
  rw [if_neg (by omega), if_pos (by omega)]
  simp

/-- The frame that the clauses on a good frame ask for: in step, its CRC correct, its ECHO that of the frame before. -/
theorem test_hyps_LinkRowsAct_goodFrame :
    syncDiff zeroFrame = 0 ∧ frameCrcOk zeroFrame = true ∧ ({ Tile.reset with seq := 2 } : Tile).echoOk zeroFrame = true := by
  refine ⟨by decide +kernel, ?_, by decide +kernel⟩
  have h : (List.range 2936).map (fun i => zeroFrame.getLsbD (32 + i)) = List.replicate 2936 false := by
    rw [List.eq_replicate_iff]
    refine ⟨by simp, fun b hb => ?_⟩
    obtain ⟨i, hi, rfl⟩ := List.mem_map.1 hb
    have hi := List.mem_range.1 hi
    exact zeroFrame_middle i hi
  rw [frameCrcOk, h, crc_zeros]
  decide +kernel

/-- A frame of zeros alone is out of step; one bit off, it is in step and not good. -/
theorem test_hyps_LinkRowsAct_badFrame :
    2 < syncDiff 0 ∧ syncDiff 3412447993 = 1 ∧ ({ Tile.reset with seq := 0 } : Tile).echoOk 3412447993 = false := by
  decide +kernel

/-! ### Single steps, with results read from the spec's rules and tables -/

/-- R79: an edge with DIR 1 counts up, one with DIR 0 counts down modulo 2^32, and the CD03 count is latched. -/
theorem test_sdi_counts :
    let on := (live.wr Reg.SDI_CFG.EN 3 1).modPower (fun p => { p with cd03 := 100 })
    (after (.sdiStepEdge 3 true 7) on).rd Reg.SDI_CNT.CNT 3 = 1
    ∧ (after (.sdiStepEdge 3 false 7) on).rd Reg.SDI_CNT.CNT 3 = 0xFFFFFFFF
    ∧ (after (.sdiStepEdge 3 true 7) on).rd Reg.SDI_TS.TS 3 = 107 := by decide +kernel

/-- R208: DOORBELL with RING 0, SIDE 0, INDEX 3 advances PI of RG000 to 3; with INDEX 0x1FFFF it is rejected. -/
theorem test_doorbell :
    (after (.doorbell 3) live).rd Reg.RING_PI.PI 0 = 3
    ∧ (after (.doorbell 0x1FFFF) live).rd Reg.RING_PI.PI 0 = 0
    ∧ bitOf ((after (.doorbell 0x1FFFF) live).rd Reg.MB_EVT.CAUSE) 0 = true := by decide +kernel

/-- Table 0.2: a W1C field clears where a 1 is written, and nothing else of it. -/
theorem test_w1c :
    ((live.wr Reg.WAKE_REASON.REASON 0 0x0C).takeWrite 0x04 0xFFFFFFFF false (Reg.WAKE_REASON.REASON, 0)).rd
      Reg.WAKE_REASON.REASON = 0x08 := by decide +kernel

/-- The worked case of chapter 23, A42 and T10: a 0 at 0x001D5400 clears LEAN_EN in the shadow alone; a 1 at 0x001D5980 clears
STALL and leaves the other causes; a 1 at 0x00124460 clears the latch of EV280. -/
theorem test_worked_aliases :
    let d := ((live.wr Reg.CUR_CTRL.LEAN_EN 42 1).wrSh Reg.CUR_CTRL.LEAN_EN 42 1).wr Reg.CUR_EVT.CAUSE 42 0x3
    let e := after (.bitAliasWrite 0x1D5400 0) d
    (e.rdSh Reg.CUR_CTRL.LEAN_EN 42 = 0 ∧ e.rd Reg.CUR_CTRL.LEAN_EN 42 = 1)
      ∧ (after (.bitAliasWrite 0x1D5980 1) d).rd Reg.CUR_EVT.CAUSE 42 = 0x2
      ∧ (after (.bitAliasWrite 0x124460 1) (live.wr Reg.EV_LAT.LAT 8 0x01000001)).rd Reg.EV_LAT.LAT 8 = 1 := by decide +kernel

/-- Table 7.8, Table 7.4: ECHO completes OK with its 20 bytes; the completion lies at the producer index of RG001. -/
theorem test_echo :
    let d := after (.echo (ent [(0, 0xAA), (19, 0x55)])) live
    let a := live.ringAddr 1 0
    d.rd Reg.RING_PI.PI 1 = 1 ∧ d.bytes a 4 = [0x02, 0x01, 0x00, 0x05] ∧ d.bytes (a + 4) 2 = [0, 0]
      ∧ d.byte (a + 12) = 0xAA ∧ d.byte (a + 31) = 0x55 := by decide +kernel

/-- R82: in MODE x4 the count rises along 00, 10, 11, 01 and falls on the way back. -/
theorem test_quad_steps :
    let on := live.wr Reg.QE_CFG.EN 0 1
    let a := after (.qeCountStep 0 true false false) on
    let b := after (.qeCountStep 0 true true false) a
    let c := after (.qeCountStep 0 false true false) b
    a.rd Reg.QE_CNT.CNT 0 = 1 ∧ b.rd Reg.QE_CNT.CNT 0 = 2 ∧ c.rd Reg.QE_CNT.CNT 0 = 3
      ∧ (after (.qeCountStep 0 true true false) c).rd Reg.QE_CNT.CNT 0 = 2 := by decide +kernel

/-- R83: the sample that brings the index to its active level takes the index edge: QE_IDX takes the count, IDX_CNT counts. The
next sample at that level takes none. -/
theorem test_index_edge :
    let on := ((live.wr Reg.QE_CFG.EN 0 1).wr Reg.QE_CNT.CNT 0 77)
    let a := after (.qeCountStep 0 false false true) on
    let b := after (.qeCountStep 0 false false true) a
    a.rd Reg.QE_IDX.CNT 0 = 77 ∧ a.rd Reg.QE_STAT.IDX_CNT 0 = 1 ∧ b.rd Reg.QE_STAT.IDX_CNT 0 = 1 := by decide +kernel

/-- R120: angles in counts of 4096 per cycle. 45 degrees are 512; atan(1/2) is 26.565 degrees, 302.3 counts; 270 degrees are
3072. VEL 2^28 / (2π × 3.875) counts, where the lag's tangent is 1, is 11025246.4: below it the lag is 511 and a part. -/
theorem test_angles :
    atan2 1 1 = (512, true) ∧ atan2 1 2 = (302, false) ∧ atan2 (-1) 0 = (3072, true) ∧ atan2 0 (-5) = (2048, true)
      ∧ filterLag 11025246 = (511, false) ∧ filterLag 11025247 = (512, false) := by decide +kernel

/-- Table 17.6: a change of SSTOP_N is an inspection record of type 0x0040. -/
theorem test_sstop_records :
    ((after (.sstopNChange false) live).keep.queue.map (fun c => (c.type, c.data))) = [(0x0040, [1])] := by decide +kernel

/-- R176: killing all four bridges is 0xE69A_3CF0, bridge 1 alone 0xE69A_3C2D. -/
theorem test_kill_words : killWord 15 = 0xE69A3CF0 ∧ killWord 2 = 0xE69A3C2D := by decide

/-- Table 2.9: the bytes of links 0 and 2 of chain C010, which stands at 0x1008_3E80. -/
theorem test_table_2_9 :
    parseLink [0xA0, 0x0F, 0, 0, 0, 0, 0x64, 0, 0x40, 0x0D, 0x03, 0, 0, 0, 0, 0] = ⟨4000, 0, 0x00640000, 200000, 0⟩
    ∧ parseLink [0xA0, 0x0F, 0, 1, 0, 0, 0, 0, 0x40, 0x0D, 0x03, 0, 0, 0, 0, 0] = ⟨4000, 1, 0, 200000, 0⟩
    ∧ linkAddr 10 0 = 0x10083E80 := by decide +kernel

/-- The worked case of chapter 02: link 0 of C010 stands at 12,500 counts at tick 1000, and at 209,295,979,315 units of 2^-24
counts at tick 999. -/
theorem test_worked_offsets :
    (Link.mk 4000 0 0x00640000 200000 0).offset 0 (1000 * 65535) = 209715200000
    ∧ (Link.mk 4000 0 0x00640000 200000 0).offset 0 (999 * 65535) = 209295979315 := by decide +kernel

/-- The step takes the command at the front; with none waiting the block idles. -/
theorem test_step_front :
    ((match step { st live with pending := [.sdiEnable 2 1, .gcRestart] } with
      | .next t => (t.dev.on Reg.SDI_CFG.EN 2, t.pending.length)
      | .fault _ => (false, 0)
      | .refused _ => (false, 0)) = (true, 1)) := by decide +kernel

/-- The table gives its rows no bits, so no word spells a command. -/
theorem test_no_word_spells_a_command : decodeTableWord 0 0 = none ∧ decodeTableWord 32 0xFFFFFFFF = none := ⟨rfl, rfl⟩

end Sys2Proof.Tests
end

section
/-! PROOFS. A step edge of a step and direction input (R79, R81): what the axes that follow the input do with it leaves the
inputs' own counters and timestamps alone. -/
namespace Sys2Proof.Machine

/-! ### What an axis that follows an input leaves unchanged -/

/-- A follow cause changes the events' own registers and FOL_EVT of its axis. -/
theorem Device.folEvt_rd (d : Device) (n b : Nat) {g : Field} {j : Nat} (h : beyondEvents g j)
    (hf : apart Reg.FOL_EVT.CAUSE n g j) : (d.folEvt n b).rd g j = d.rd g j :=
  d.cause_rd _ _ _ _ _ h hf

/-- A pending step changes snapshot values and what a follow cause changes. -/
theorem Device.pendStep_rd (d : Device) (n : Nat) (dx : Int) {g : Field} {j : Nat} (hs : g.acc.bank ≠ 3)
    (h : beyondEvents g j) (hf : apart Reg.FOL_EVT.CAUSE n g j) : (d.pendStep n dx).rd g j = d.rd g j := by
  have hp : apart Reg.FOL_PEND.PENDING n g j := .inl hs.symm
  unfold Device.pendStep
  dsimp only
  split
  · exact d.rd_wr_other hp _
  · rw [Device.folEvt_rd _ _ _ h hf, Device.rd_wr_other _ hp]

/-- The period estimate is a snapshot value. -/
theorem Device.estimate_rd (d : Device) (n : Nat) {g : Field} {j : Nat} (hs : g.acc.bank ≠ 3) :
    (d.estimate n).rd g j = d.rd g j := by
  have hp : apart Reg.FOL_PER.P_EST n g j := .inl hs.symm
  exact d.rd_wr_other hp _

/-- A followed step edge changes snapshot values and what a follow cause changes. -/
theorem Device.followEdge_rd (d : Device) (n : Nat) (dx : Int) {g : Field} {j : Nat} (hs : g.acc.bank ≠ 3)
    (h : beyondEvents g j) (hf : apart Reg.FOL_EVT.CAUSE n g j) : (d.followEdge n dx).rd g j = d.rd g j := by
  unfold Device.followEdge
  extract_lets fresh d1
  have h1 : d1.rd g j = d.rd g j := by rw [Device.estimate_rd _ _ hs, Device.modAx_rd]
  split
  · exact h1
  · rw [Device.pendStep_rd _ _ _ hs h hf, h1]

/-! ### The registers of the step and direction inputs -/

/-- Register `j` of field `g` stands in the block of the step and direction inputs, 0x200 to 0x2FF, and has no snapshot. -/
def inSdiBlock (g : Field) (j : Nat) : Prop := g.acc.bank = 0 ∧ 0x1000 ≤ g.key j ∧ g.key j < 0x1800

theorem sdiCnt_inSdiBlock (k : Fin 16) : inSdiBlock Reg.SDI_CNT.CNT k := by
  refine ⟨rfl, ?_⟩
  simp only [Field.key, Field.addr, Reg.SDI_CNT.CNT]
  omega

theorem sdiTs_inSdiBlock (k : Fin 16) : inSdiBlock Reg.SDI_TS.TS k := by
  refine ⟨rfl, ?_⟩
  simp only [Field.key, Field.addr, Reg.SDI_TS.TS]
  omega

theorem beyondEvents_of_inSdiBlock {g : Field} {j : Nat} (h : inSdiBlock g j) : beyondEvents g j := by
  obtain ⟨-, hlo, hhi⟩ := h
  refine ⟨.inr ⟨by omega, ?_⟩, .inr ⟨?_, ?_, ?_⟩⟩ <;>
    simp only [Field.key, Field.addr, Reg.INT_STAT.ACTIVE, Reg.RING_PI.PI, Reg.LOG_STAT.EV_DROPS, Reg.FAULT_EVT.CAUSE]
      at hlo hhi ⊢ <;> omega

theorem apart_folEvt_of_inSdiBlock {g : Field} {j : Nat} (h : inSdiBlock g j) (n : Nat) :
    apart Reg.FOL_EVT.CAUSE n g j := by
  obtain ⟨-, -, hhi⟩ := h
  refine .inr fun e => ?_
  have : Reg.FOL_EVT.CAUSE.key n = (0x409C + 0x100 * n) * 8 := rfl
  omega

theorem apart_sdi {k m : Fin 16} (h : k ≠ m) :
    apart Reg.SDI_CNT.CNT m Reg.SDI_CNT.CNT k ∧ apart Reg.SDI_TS.TS m Reg.SDI_TS.TS k := by
  have : k.val ≠ m.val := Fin.val_ne_of_ne h
  constructor <;> refine .inr ?_ <;>
    simp only [Field.key, Field.addr, Reg.SDI_CNT.CNT, Reg.SDI_TS.TS] <;> omega

theorem apart_sdiCnt_sdiTs (m k : Fin 16) : apart Reg.SDI_CNT.CNT m Reg.SDI_TS.TS k := by
  refine .inr ?_
  simp only [Field.key, Field.addr, Reg.SDI_CNT.CNT, Reg.SDI_TS.TS]
  omega

theorem apart.symm {f g : Field} {i j : Nat} (h : apart f i g j) : apart g j f i := h.imp Ne.symm Ne.symm

/-! ### The edge itself -/

/-- The device once input `m` has counted an edge of value `dx` at CD03 time `now`, before any axis follows it (R79). -/
def Device.countEdge (d : Device) (m : Nat) (dx : Int) (now : Nat) : Device :=
  (d.wr Reg.SDI_CNT.CNT m (toBits 32 ((d.rd Reg.SDI_CNT.CNT m : Int) + dx))).wr Reg.SDI_TS.TS m now

/-- The device once input `m` has taken an edge: its record and the axes that follow it have it too. -/
def Device.takeEdge (d : Device) (m : Nat) (dx : Int) (now : Nat) : Device :=
  ({ d.countEdge m dx now with sdi := modNth (fun x => x.edge now) m d.sdi }).each 64
    (fun n e => if e.follows n m then e.followEdge n dx else e)

/-- The value of an edge under DIR level `dir` of input `m`. -/
def Device.edgeValue (d : Device) (m : Nat) (dir : Bool) : Int := if dir != d.on Reg.SDI_CFG.DIR_POL m then 1 else -1

theorem exec_sdiStepEdge_of_off {s : State} {m : Fin 16} (h : s.dev.on Reg.SDI_CFG.EN m = false) (dir : Bool)
    (delay : BitVec 32) : exec (.sdiStepEdge m dir delay) s = .next s := by
  show execSdiStepEdge m dir delay s = _
  simp [execSdiStepEdge, State.devStep, h]

theorem exec_sdiStepEdge_of_on {s : State} {m : Fin 16} (h : s.dev.on Reg.SDI_CFG.EN m = true) (dir : Bool)
    (delay : BitVec 32) : exec (.sdiStepEdge m dir delay) s
      = s.gives (s.dev.takeEdge m (s.dev.edgeValue m dir) (s.dev.cd03 + delay.toNat)) := by
  show execSdiStepEdge m dir delay s = _
  simp only [execSdiStepEdge, State.devStep, h, Bool.not_true, Bool.false_eq_true, if_false]
  rfl

/-- The followers of an input leave the inputs' registers as the count of the edge left them. -/
theorem Device.takeEdge_rd (d : Device) (m : Nat) (dx : Int) (now : Nat) {g : Field} {j : Nat} (h : inSdiBlock g j) :
    (d.takeEdge m dx now).rd g j = (d.countEdge m dx now).rd g j := by
  refine Device.each_keeps (fun e => e.rd g j) (fun n e => ?_) _ 64
  split
  · exact e.followEdge_rd n dx (by rw [h.1]; decide) (beyondEvents_of_inSdiBlock h) (apart_folEvt_of_inSdiBlock h n)
  · rfl

theorem Device.countEdge_cnt_same (d : Device) (m : Fin 16) (dx : Int) (now : Nat) :
    (d.countEdge m dx now).rd Reg.SDI_CNT.CNT m
      = toBits 32 ((d.rd Reg.SDI_CNT.CNT m : Int) + dx) % 2 ^ 32 := by
  rw [Device.countEdge, Device.rd_wr_other _ (apart_sdiCnt_sdiTs m m).symm, Device.rd_wr_same]
  rfl

theorem Device.countEdge_ts_same (d : Device) (m : Nat) (dx : Int) (now : Nat) :
    (d.countEdge m dx now).rd Reg.SDI_TS.TS m = now % 2 ^ 32 :=
  Device.rd_wr_same ..

theorem Device.countEdge_cnt_other (d : Device) {k m : Fin 16} (h : k ≠ m) (dx : Int) (now : Nat) :
    (d.countEdge m dx now).rd Reg.SDI_CNT.CNT k = d.rd Reg.SDI_CNT.CNT k := by
  rw [Device.countEdge, Device.rd_wr_other _ (apart_sdiCnt_sdiTs k m).symm, Device.rd_wr_other _ (apart_sdi h).1]

theorem Device.countEdge_ts_other (d : Device) {k m : Fin 16} (h : k ≠ m) (dx : Int) (now : Nat) :
    (d.countEdge m dx now).rd Reg.SDI_TS.TS k = d.rd Reg.SDI_TS.TS k := by
  rw [Device.countEdge, Device.rd_wr_other _ (apart_sdi h).2, Device.rd_wr_other _ (apart_sdiCnt_sdiTs m k)]

/-- A count of 32 bits wraps upward and downward (R79). -/
theorem toBits_count (c : Nat) (up : Bool) :
    toBits 32 ((c : Int) + if up then 1 else -1) % 2 ^ 32 = (if up then c + 1 else c + (2 ^ 32 - 1)) % 2 ^ 32 := by
  cases up <;> simp only [toBits, if_true, if_false, Bool.false_eq_true] <;> omega

/-- Settles O42: the edge is counted and stamped first, and no axis that follows the input touches the inputs' registers. -/
theorem stepEdgesCount : Obligations.StepEdgesCount := by
  unfold Obligations.StepEdgesCount
  intro s m dir delay
  refine ⟨fun off => exec_sdiStepEdge_of_off off dir delay, fun on _ =>
    ⟨_, exec_sdiStepEdge_of_on on dir delay, ?_, ?_, fun k hk => ⟨?_, ?_⟩⟩⟩
  · rw [Device.takeEdge_rd _ _ _ _ (sdiCnt_inSdiBlock m), Device.countEdge_cnt_same]
    exact toBits_count _ _
  · rw [Device.takeEdge_rd _ _ _ _ (sdiTs_inSdiBlock m), Device.countEdge_ts_same]
  · rw [Device.takeEdge_rd _ _ _ _ (sdiCnt_inSdiBlock k), Device.countEdge_cnt_other _ hk]
  · rw [Device.takeEdge_rd _ _ _ _ (sdiTs_inSdiBlock k), Device.countEdge_ts_other _ hk]

end Sys2Proof.Machine
end

section
/-! PROOFS. The judgement of an entry that the scheduler takes (R635): its tag first, then items 3 to 6 in their order. -/
namespace Sys2Proof.Machine

/-! ### The tag of an entry (items 1 and 2) -/

/-- A pair that can take an entry has a free tag (R220). -/
theorem Device.freeTag_isSome_of_canTake {d : Device} {q : Nat} (h : d.canTake q = true) : (d.freeTag q).isSome = true := by
  simp only [Device.canTake, Bool.and_eq_true] at h
  exact h.1.2

/-- A pair's tags rise from its TAG_BASE on (R216). -/
theorem Device.ownTags_pairwise (d : Device) (q : Nat) : (d.ownTags q).Pairwise (· < ·) :=
  List.pairwise_lt_range.map _ fun _ _ h => Nat.add_lt_add_left h _

/-- The free tag of a pair is its own, free, and below every other free tag of the pair (R218). -/
theorem Device.freeTag_lowest {d : Device} {q t : Nat} (h : d.freeTag q = some t) :
    t ∈ d.ownTags q ∧ d.task? t = none ∧ ∀ u ∈ d.ownTags q, u < t → d.task? u ≠ none := by
  obtain ⟨hfree, before, after, hsplit, hbefore⟩ := List.find?_eq_some_iff_append.mp h
  simp only [Bool.and_eq_true, Option.isNone_iff_eq_none, decide_eq_true_eq] at hfree
  obtain ⟨htask, h128⟩ := hfree
  have hsorted := d.ownTags_pairwise q
  rw [hsplit, List.pairwise_append] at hsorted
  obtain ⟨-, hafter, -⟩ := hsorted
  rw [hsplit]
  refine ⟨by simp, htask, fun u hu hut => ?_⟩
  rcases List.mem_append.mp hu with hu | hu
  · intro hnone
    have h128u : 128 ≤ u := by simpa [hnone] using hbefore u hu
    omega
  · rcases List.mem_cons.mp hu with rfl | hu
    · omega
    · have := List.rel_of_pairwise_cons hafter hu
      omega

/-- An explicit tag that is not the pair's own or is in flight refuses the entry before it has a tag (R217). -/
theorem Device.admitEntry_noTag {d : Device} {e : Entry} (htake : d.canTake e.pair.val = true) (htag : e.tag ≠ 0xFF)
    (hbad : (d.ownTags e.pair.val).contains e.tag.toNat = false ∨ d.task? e.tag.toNat ≠ none) (op : Nat) :
    d.admitEntry op e = (d.refuseTag op e, none) := by
  have hrefused : (!(d.ownTags e.pair.val).contains e.tag.toNat || (d.task? e.tag.toNat).isSome) = true := by
    rcases hbad with hbad | hbad
    · rw [hbad]; rfl
    · rw [Option.isSome_iff_ne_none.mpr hbad, Bool.or_true]
  have hexplicit : (e.tag != 0xFF) = true := by simpa using htag
  simp only [Device.admitEntry, htake, hexplicit, hrefused, Bool.not_true, Bool.false_eq_true, if_false, if_true,
    Bool.and_self]

/-- TAG 0xFF asks for the lowest free tag of the pair (R218). -/
theorem Device.tagFor_auto {d : Device} {e : Entry} (htake : d.canTake e.pair.val = true) (htag : e.tag = 0xFF) :
    d.freeTag e.pair.val = some (d.tagFor e) := by
  obtain ⟨t, ht⟩ := Option.isSome_iff_exists.mp (Device.freeTag_isSome_of_canTake htake)
  rw [Device.tagFor, if_pos htag, ht, Option.getD_some]

/-! ### The judgement after the tag (items 3 to 6) -/

theorem Device.judge_badOpcode {op : Nat} (hop : opKnown op = false) (d : Device) (e : Entry) :
    d.judge op e = some (.badOpcode, []) := by
  simp [Device.judge, hop]

theorem Device.judge_badHead {op : Nat} {e : Entry} (hop : opKnown op = true) (hhead : headOk e = false) (d : Device) :
    d.judge op e = some (.badParam, []) := by
  simp [Device.judge, hop, hhead]

theorem Device.judge_restricted {d : Device} {op : Nat} {e : Entry} (hop : opKnown op = true) (hhead : headOk e = true)
    (hmode : d.on Reg.IMG_STAT.RESTRICTED = true) (hnot : opRestricted op = false) :
    d.judge op e = some (.restrictedMode, []) := by
  simp [Device.judge, hop, hhead, hmode, hnot]

theorem Device.judge_badParams {d : Device} {op : Nat} {e : Entry} (hop : opKnown op = true) (hhead : headOk e = true)
    (hmode : d.on Reg.IMG_STAT.RESTRICTED = false ∨ opRestricted op = true) (hparams : paramsOk op e = false) :
    d.judge op e = some (.badParam, rangeResult op e) := by
  rcases hmode with hmode | hmode <;> simp [Device.judge, hop, hhead, hmode, hparams]

/-- An entry that has its tag and fails a judgement completes under that tag with NO_EFFECT. -/
theorem Device.admitEntry_refused {d : Device} {op : Nat} {e : Entry} {st : Status} {r : List Byte} (htag : d.tagOk e)
    (hjudge : d.judge op e = some (st, r)) :
    d.admitEntry op e = ((d.tagged op e).complete (d.tagFor e) st true r, none) := by
  rw [Device.admit_tagOk htag, hjudge]

/-- Settles O9: the tag is judged before the entry has one, and of the judgements under the tag each presumes that those
before it were passed. -/
theorem entriesAreJudgedInOrder : Obligations.EntriesAreJudgedInOrder := by
  unfold Obligations.EntriesAreJudgedInOrder
  intro s op e htake
  refine ⟨fun htag hbad => Device.admitEntry_noTag htake htag hbad op,
    fun htag => Device.freeTag_lowest (Device.tagFor_auto htake htag), fun hok st hfails => ?_⟩
  obtain ⟨r, hjudge⟩ : ∃ r, s.dev.judge op e = some (st, r) := by
    rcases hfails with ⟨hop, rfl⟩ | ⟨hop, hhead, rfl⟩ | ⟨hop, hhead, hmode, hnot, rfl⟩ | ⟨hop, hhead, hmode, hparams, rfl⟩
    · exact ⟨_, Device.judge_badOpcode hop ..⟩
    · exact ⟨_, Device.judge_badHead hop hhead _⟩
    · exact ⟨_, Device.judge_restricted hop hhead hmode hnot⟩
    · exact ⟨_, Device.judge_badParams hop hhead hmode hparams⟩
  exact ⟨r, Device.admitEntry_refused hok hjudge⟩

end Sys2Proof.Machine
end

section
/-! PROOFS. The doorbell (R208, R240): the index it forms, its rejection, and its repetition. -/
namespace Sys2Proof.Machine

/-! ### Writes and causes that leave a field alone -/

/-- A value put twice under a key is put once. -/
theorem sparsePut_put_same {α : Type} (k : Nat) (v : α) (t : Sparse α) :
    sparsePut k v (sparsePut k v t) = sparsePut k v t := by
  induction t with
  | nil => simp [sparsePut]
  | cons p t ih =>
    obtain ⟨j, w⟩ := p
    by_cases hlt : k < j
    · simp [sparsePut, hlt]
    · by_cases heq : j = k
      · simp [sparsePut, heq]
      · simp [sparsePut, hlt, heq, ih]

/-- A field that is given the value it has just been given stays as it is. -/
theorem Device.wr_wr_same (d : Device) (f : Field) (i : Nat) {v w : Nat} (h : v % 2 ^ f.width = w % 2 ^ f.width) :
    (d.wr f i v).wr f i w = d.wr f i v := by
  have hset : ∀ (r : Regs) (a : Acc) (t u : RegFile), (r.setLive a t).setLive a u = r.setLive a u := by
    intro r a t u
    cases a <;> rfl
  simp only [Device.wr, h, Regs.live_setLive_same, sparsePut_put_same, hset]

theorem Device.route_congr {d e : Device} {n : Nat} (h : e.rd Reg.EV_ROUTE.ROUTE (n / 4) = d.rd Reg.EV_ROUTE.ROUTE (n / 4)) :
    e.route n = d.route n := by
  simp only [Device.route, h]

/-- A cause whose event is not routed to the log changes its own field, the event latches, their sums and the interrupt
status. -/
theorem Device.cause_quiet (d : Device) {f : Field} {i ev : Nat} (hq : bitOf (d.route ev) 6 = false)
    (hroute : apart f i Reg.EV_ROUTE.ROUTE (ev / 4)) (hfault : apart f i Reg.FAULT_EVT.CAUSE 0) (b : Nat) (en : Bool)
    {g : Field} {j : Nat} (hg : beyondLatches g j) (hf : apart f i g j) : (d.cause f i b en ev).rd g j = d.rd g j := by
  have hraise : ∀ {g : Field} {j : Nat}, beyondLatches g j → apart f i g j → (d.raise f i b en ev).rd g j = d.rd g j := by
    intro g j hg hf
    have hq' : bitOf ((d.wr f i (setBitOf (d.rd f i) b)).route ev) 6 = false := by
      rwa [Device.route_congr (d.rd_wr_other hroute _)]
    unfold Device.raise
    split
    · rfl
    · split
      · rw [(Device.latchEvent_quiet _ ev hq').2 g j hg, Device.rd_wr_other _ hf]
      · exact d.rd_wr_other hf _
  have hdrop : (d.raise f i b en ev).rd Reg.FAULT_EVT.CAUSE = d.rd Reg.FAULT_EVT.CAUSE :=
    hraise (by unfold beyondLatches; decide) hfault
  unfold Device.cause Device.reportLogDrop
  rw [hdrop, if_neg (by simp), hraise hg hf]

/-- A mailbox cause that has been set is set (R239). -/
theorem Device.mbEvt_set (d : Device) {b : Nat} (hb : b < 8) : bitOf ((d.mbEvt b).rd Reg.MB_EVT.CAUSE) b = true :=
  d.cause_set Reg.MB_EVT.CAUSE 0 b _ 48 (by unfold beyondEvents beyondLatches; decide) hb

/-- A mailbox cause whose event is not routed to the log moves no index of a ring. -/
theorem Device.mbEvt_indices (d : Device) (b : Nat) (hq : bitOf (d.route 48) 6 = false) {q : Nat} (hring : q < 256) :
    (d.mbEvt b).rd Reg.RING_PI.PI q = d.rd Reg.RING_PI.PI q ∧ (d.mbEvt b).rd Reg.RING_CI.CI q = d.rd Reg.RING_CI.CI q := by
  have hroute : apart Reg.MB_EVT.CAUSE 0 Reg.EV_ROUTE.ROUTE (48 / 4) := by unfold apart; decide
  have hfault : apart Reg.MB_EVT.CAUSE 0 Reg.FAULT_EVT.CAUSE 0 := by unfold apart; decide
  have hpi : Reg.RING_PI.PI.key q = (0x2008 + 0x10 * q) * 8 := rfl
  have hci : Reg.RING_CI.CI.key q = (0x200C + 0x10 * q) * 8 := rfl
  have hint : Reg.INT_STAT.ACTIVE.key 0 = 0x1254 * 8 := rfl
  have hmb : Reg.MB_EVT.CAUSE.key 0 = 0x3008 * 8 := rfl
  exact ⟨d.cause_quiet hq hroute hfault b _ (.inr (by omega)) (.inr (by omega)),
    d.cause_quiet hq hroute hfault b _ (.inr (by omega)) (.inr (by omega))⟩

/-! ### What a doorbell asks for -/

/-- The ring that a doorbell names: its RING bits. -/
def doorbellRing (v : Word) : Nat := v.toNat / 2 ^ 24

/-- The index that a doorbell advances: CI with SIDE 1, else PI. -/
def doorbellField (v : Word) : Field := if v.getLsbD 23 then Reg.RING_CI.CI else Reg.RING_PI.PI

/-- By how much a doorbell advances the index in force: the distance to its own 17 bits. -/
def Device.doorbellStep (d : Device) (v : Word) : Nat :=
  (v.toNat % 2 ^ 17 + 2 ^ 17 - d.rd (doorbellField v) (doorbellRing v) % 2 ^ 17) % 2 ^ 17

/-- A doorbell is rejected: its ring is disabled, the side is not the host's, or the index would leave the ring. -/
def Device.doorbellBad (d : Device) (v : Word) : Prop :=
  d.ringOn (doorbellRing v) = false
    ∨ (v.getLsbD 23 = false ∧ d.rd Reg.RING_CFG.ROLE (doorbellRing v) ≠ 0)
    ∨ (v.getLsbD 23 = true ∧ d.rd Reg.RING_CFG.ROLE (doorbellRing v) ≠ 1)
    ∨ (v.getLsbD 23 = false ∧ d.ringSize (doorbellRing v) < d.ringCount (doorbellRing v) + d.doorbellStep v)
    ∨ (v.getLsbD 23 = true ∧ d.ringCount (doorbellRing v) < d.doorbellStep v)

/-- The device once a doorbell has advanced its index. -/
def Device.doorbellTaken (d : Device) (v : Word) : Device :=
  d.wr (doorbellField v) (doorbellRing v) (d.rd (doorbellField v) (doorbellRing v) + d.doorbellStep v)

/-! ### The doorbell in its cases -/

/-- DOORBELL is the doorbell of the mailbox while the bus is reached. -/
theorem exec_doorbell {s : State} (hbus : s.dev.busOff = false) (v : Word) :
    exec (.doorbell v) s = s.gives (s.dev.doorbell v.toNat) := by
  have hwrite : s.dev.busWrite 0x3000 v.toNat = s.dev.doorbell v.toNat := by
    simp [Device.busWrite, Device.writeReg, hbus, s.dev.usbHidden_outside (a := 0x3000) (by omega)]
  show s.gives (s.dev.busWrite 0x3000 v.toNat) = _
  rw [hwrite]

theorem Device.doorbell_notReady {d : Device} (h : d.on Reg.MB_STAT.MB_READY = false) (v : Nat) : d.doorbell v = d := by
  simp [Device.doorbell, h]

/-- Once the mailbox is ready, a doorbell is rejected or taken. -/
theorem Device.doorbell_ready {d : Device} (h : d.on Reg.MB_STAT.MB_READY = true) (v : Word) :
    (d.doorbellBad v → d.doorbell v.toNat = d.mbEvt 0) ∧ (¬ d.doorbellBad v → d.doorbell v.toNat = d.doorbellTaken v) := by
  have hring : bitsOf v.toNat 24 8 = doorbellRing v := by
    have := v.isLt
    simp only [bitsOf, Nat.shiftRight_eq_div_pow, doorbellRing]
    omega
  have hindex : bitsOf v.toNat 0 17 = v.toNat % 2 ^ 17 := rfl
  have hside : bitOf v.toNat 23 = v.getLsbD 23 := rfl
  unfold Device.doorbell Device.doorbellBad Device.doorbellTaken Device.doorbellStep doorbellField
  simp only [h, hring, hindex, hside, Bool.not_true, Bool.false_eq_true, if_false]
  generalize v.getLsbD 23 = consumer
  refine ⟨fun hbad => if_pos ?_, fun hgood => if_neg fun hbad => hgood ?_⟩ <;> cases consumer <;>
    simpa [or_assoc] using hbad

/-! ### The index that a doorbell has advanced -/

theorem doorbellField_width (v : Word) : (doorbellField v).width = 32 := by
  unfold doorbellField
  split <;> rfl

/-- A doorbell that is taken changes an index of its ring and no other register. -/
theorem Device.doorbellTaken_rd (d : Device) (v : Word) {g : Field} {j : Nat}
    (h : apart Reg.RING_PI.PI (doorbellRing v) g j ∧ apart Reg.RING_CI.CI (doorbellRing v) g j) :
    (d.doorbellTaken v).rd g j = d.rd g j := by
  refine d.rd_wr_other ?_ _
  unfold doorbellField
  split
  · exact h.2
  · exact h.1

/-- The index advances, modulo 2^32. -/
theorem Device.doorbellTaken_index (d : Device) (v : Word) :
    (d.doorbellTaken v).rd (doorbellField v) (doorbellRing v)
      = (d.rd (doorbellField v) (doorbellRing v) + d.doorbellStep v) % 2 ^ 32 := by
  rw [Device.doorbellTaken, Device.rd_wr_same, doorbellField_width]

/-- The index advanced has the doorbell's 17 bits. -/
theorem Device.doorbellTaken_low (d : Device) (v : Word) :
    (d.doorbellTaken v).rd (doorbellField v) (doorbellRing v) % 2 ^ 17 = v.toNat % 2 ^ 17 := by
  rw [Device.doorbellTaken_index, Device.doorbellStep]
  omega

/-- The same doorbell again advances by 0 (R208). -/
theorem Device.doorbellTaken_step (d : Device) (v : Word) : (d.doorbellTaken v).doorbellStep v = 0 := by
  rw [Device.doorbellStep, Device.doorbellTaken_low]
  omega

theorem Device.doorbellTaken_taken (d : Device) (v : Word) : (d.doorbellTaken v).doorbellTaken v = d.doorbellTaken v := by
  rw [Device.doorbellTaken, Device.doorbellTaken_step, Device.doorbellTaken_index]
  refine d.wr_wr_same _ _ ?_
  rw [doorbellField_width]
  omega

/-- An index lies apart from the words of its ring's configuration and from the mailbox's status. -/
theorem apart_doorbell (v : Word) {g : Field} (j : Nat) (hlsb : g.lsb < 32)
    (hg : (g.base = 0x2004 ∧ g.stride = 0x10) ∨ (g.base = 0x3004 ∧ j = 0)) :
    apart Reg.RING_PI.PI (doorbellRing v) g j ∧ apart Reg.RING_CI.CI (doorbellRing v) g j := by
  have hpi : Reg.RING_PI.PI.key (doorbellRing v) = (0x2008 + 0x10 * doorbellRing v) * 8 := rfl
  have hci : Reg.RING_CI.CI.key (doorbellRing v) = (0x200C + 0x10 * doorbellRing v) * 8 := rfl
  have hkey : g.key j = (g.base + g.stride * j) * 8 + g.lsb := rfl
  rcases hg with ⟨hbase, hstride⟩ | ⟨hbase, rfl⟩
  · rw [hbase, hstride] at hkey
    exact ⟨.inr (by omega), .inr (by omega)⟩
  · rw [hbase] at hkey
    exact ⟨.inr (by omega), .inr (by omega)⟩

theorem Device.doorbellTaken_cfg (d : Device) (v : Word) {g : Field} (hlsb : g.lsb < 32) (hbase : g.base = 0x2004)
    (hstride : g.stride = 0x10) : (d.doorbellTaken v).rd g (doorbellRing v) = d.rd g (doorbellRing v) :=
  d.doorbellTaken_rd v (apart_doorbell v _ hlsb (.inl ⟨hbase, hstride⟩))

theorem Device.doorbellTaken_ready (d : Device) (v : Word) :
    (d.doorbellTaken v).on Reg.MB_STAT.MB_READY = d.on Reg.MB_STAT.MB_READY := by
  unfold Device.on
  rw [d.doorbellTaken_rd v (apart_doorbell v 0 (by decide) (.inr ⟨rfl, rfl⟩))]

/-- A producer's doorbell adds its step to the entries of the ring at most. -/
theorem Device.doorbellTaken_count (d : Device) {v : Word} (hside : v.getLsbD 23 = false)
    (hold : d.rd (doorbellField v) (doorbellRing v) < 2 ^ 32) :
    (d.doorbellTaken v).ringCount (doorbellRing v) ≤ d.ringCount (doorbellRing v) + d.doorbellStep v := by
  have hfield : doorbellField v = Reg.RING_PI.PI := by rw [doorbellField, hside]; rfl
  have hpi := d.doorbellTaken_index v
  have hci : (d.doorbellTaken v).rd Reg.RING_CI.CI (doorbellRing v) = d.rd Reg.RING_CI.CI (doorbellRing v) := by
    rw [Device.doorbellTaken, hfield]
    exact d.rd_wr_other (.inr (by simp only [Field.key, Field.addr, Reg.RING_PI.PI, Reg.RING_CI.CI]; omega)) _
  have hstep : d.doorbellStep v < 2 ^ 17 := Nat.mod_lt _ (by decide)
  rw [hfield] at hpi hold
  unfold Device.ringCount
  rw [hpi, hci]
  omega

/-- A doorbell that was not rejected is not rejected when it is repeated. -/
theorem Device.doorbellTaken_good {d : Device} {v : Word} (hold : d.rd (doorbellField v) (doorbellRing v) < 2 ^ 32)
    (hgood : ¬ d.doorbellBad v) : ¬ (d.doorbellTaken v).doorbellBad v := by
  have hon : (d.doorbellTaken v).ringOn (doorbellRing v) = d.ringOn (doorbellRing v) := by
    unfold Device.ringOn Device.on
    rw [d.doorbellTaken_cfg v (by decide) rfl rfl]
  have hrole := d.doorbellTaken_cfg v (g := Reg.RING_CFG.ROLE) (by decide) rfl rfl
  have hsize : (d.doorbellTaken v).ringSize (doorbellRing v) = d.ringSize (doorbellRing v) := by
    unfold Device.ringSize
    rw [d.doorbellTaken_cfg v (by decide) rfl rfl]
  unfold Device.doorbellBad at hgood ⊢
  rw [hon, hrole, hsize, d.doorbellTaken_step]
  simp only [not_or] at hgood
  obtain ⟨hon, hproducer, hconsumer, hroom, -⟩ := hgood
  rintro (h | h | h | ⟨hside, h⟩ | ⟨-, h⟩)
  · exact hon h
  · exact hproducer h
  · exact hconsumer h
  · have := d.doorbellTaken_count hside hold
    exact hroom ⟨hside, by omega⟩
  · omega

/-! ### The outcomes -/

/-- Before MB_READY a doorbell has no effect (R240). -/
theorem exec_doorbell_notReady {s : State} (hbus : s.dev.busOff = false) (hready : s.dev.on Reg.MB_STAT.MB_READY = false)
    (v : Word) : exec (.doorbell v) s = .next s := by
  rw [exec_doorbell hbus, Device.doorbell_notReady hready]
  rfl

/-- A rejected doorbell sets DB_REJECT, and with its event not routed to the log it leaves the index of every ring. -/
theorem exec_doorbell_rejected {s : State} (hbus : s.dev.busOff = false) (hready : s.dev.on Reg.MB_STAT.MB_READY = true)
    {v : Word} (hbad : s.dev.doorbellBad v) :
    exec (.doorbell v) s = s.gives (s.dev.mbEvt 0) ∧ bitOf ((s.dev.mbEvt 0).rd Reg.MB_EVT.CAUSE) 0 = true
      ∧ (bitOf (s.dev.route 48) 6 = false → ∀ q < 256,
          (s.dev.mbEvt 0).rd Reg.RING_PI.PI q = s.dev.rd Reg.RING_PI.PI q
            ∧ (s.dev.mbEvt 0).rd Reg.RING_CI.CI q = s.dev.rd Reg.RING_CI.CI q) := by
  refine ⟨?_, s.dev.mbEvt_set (by decide), fun hq _ hring => s.dev.mbEvt_indices 0 hq hring⟩
  rw [exec_doorbell hbus, (Device.doorbell_ready hready v).1 hbad]

/-- A doorbell that is not rejected advances its index to its own 17 bits; repeated, it changes nothing (R208). -/
theorem exec_doorbell_taken {s : State} (hbus : s.dev.busOff = false) (hready : s.dev.on Reg.MB_STAT.MB_READY = true)
    {v : Word} (hgood : ¬ s.dev.doorbellBad v) :
    exec (.doorbell v) s = s.gives (s.dev.doorbellTaken v)
      ∧ (s.dev.doorbellTaken v).rd (doorbellField v) (doorbellRing v) % 2 ^ 17 = v.toNat % 2 ^ 17
      ∧ ∀ t, exec (.doorbell v) s = .next t → s.dev.rd (doorbellField v) (doorbellRing v) < 2 ^ 32 →
          exec (.doorbell v) t = .next t := by
  have hexec : exec (.doorbell v) s = s.gives (s.dev.doorbellTaken v) := by
    rw [exec_doorbell hbus, (Device.doorbell_ready hready v).2 hgood]
  refine ⟨hexec, s.dev.doorbellTaken_low v, fun t ht hold => ?_⟩
  obtain rfl : { s with dev := s.dev.doorbellTaken v } = t := by
    rw [hexec] at ht
    exact Host.Outcome.next.inj ht
  have hready' := (s.dev.doorbellTaken_ready v).trans hready
  rw [exec_doorbell (s := { s with dev := s.dev.doorbellTaken v }) hbus,
    (Device.doorbell_ready hready' v).2 (Device.doorbellTaken_good hold hgood), Device.doorbellTaken_taken]
  rfl

/-! ### The clause on the index of every number -/

/-- The machine after reset with its mailbox ready. -/
def readyState : State := { State.reset with dev := Device.reset.wr Reg.MB_STAT.MB_READY 0 1 }

/-- The address that RING_PI would have for a ring 256, which does not exist, is that of MB_EVT. -/
theorem Device.rd_ringPi_256 (d : Device) : d.rd Reg.RING_PI.PI 256 = d.rd Reg.MB_EVT.CAUSE := rfl

/-- The doorbell of the disabled ring 255 is rejected in the ready state and sets DB_REJECT, which was clear. -/
theorem readyState_rejects :
    exec (.doorbell 0xFF000000) readyState = readyState.gives (readyState.dev.mbEvt 0)
      ∧ bitOf ((readyState.dev.mbEvt 0).rd Reg.MB_EVT.CAUSE) 0 = true
      ∧ bitOf (readyState.dev.rd Reg.MB_EVT.CAUSE) 0 = false := by
  obtain ⟨hexec, hset, -⟩ := exec_doorbell_rejected (s := readyState) (v := 0xFF000000) (by decide) (by decide)
    (.inl (by decide))
  exact ⟨hexec, hset, by decide⟩

/-- Refutes O34 by its clause that a rejected doorbell leaves RING_PI and RING_CI of every number `q`: the clause does not
bound `q` by the 256 rings, and RING_PI of 256 is MB_EVT, where the rejection sets DB_REJECT. For `q < 256` the clause holds
(`exec_doorbell_rejected`), and so does the rest of the statement (`exec_doorbell_notReady`, `exec_doorbell_taken`). -/
theorem not_doorbellAdvancesAnIndex : ¬ Obligations.DoorbellAdvancesAnIndex := by
  unfold Obligations.DoorbellAdvancesAnIndex
  intro h
  obtain ⟨-, hset, hclear⟩ := readyState_rejects
  obtain ⟨-, hrejected, -⟩ := h readyState 0xFF000000 (by decide)
  obtain ⟨t, -, rfl, -, hindices⟩ := hrejected (by decide) (.inl (by decide))
  have hkept : (readyState.dev.mbEvt 0).rd Reg.RING_PI.PI 256 = readyState.dev.rd Reg.RING_PI.PI 256 :=
    (hindices (by decide) 256).1
  rw [Device.rd_ringPi_256, Device.rd_ringPi_256] at hkept
  rw [hkept, hclear] at hset
  exact absurd hset (by decide)

end Sys2Proof.Machine
end

section
/-! PROOFS. The outcome of a command: which parts of the state it can change beside the device, and where it stops. -/
namespace Sys2Proof.Machine
open Host (Outcome)

/-! ### The commands by what their outcome can be -/

/-- A command that goes on in every state and changes the device alone: all but the three accesses that can leave the
address map, the boot, and the end of a long command. -/
def Instr.devOnly : Instr → Bool
  | .registerWrite _ _ => false
  | .bitAliasWrite _ _ => false
  | .latchedLowWordRead _ _ => false
  | .boot _ => false
  | .longCommandDone _ _ => false
  | _ => true

theorem State.devStep_eq_gives (s : State) (f : Device → Device) : s.devStep f = s.gives (f s.dev) := rfl

/-- A command that changes the device alone is one function of the device. -/
theorem exec_devOnly {c : Instr} (h : Instr.devOnly c = true) (s : State) : ∃ d, exec c s = s.gives d := by
  cases c
  case registerWrite | bitAliasWrite | latchedLowWordRead | boot | longCommandDone => cases h
  all_goals exact ⟨_, rfl⟩

/-- An access to a word address of the map changes the device alone; any other is a fault (R299, R632). -/
theorem exec_registerWrite_cases (a : BitVec 32) (v : Word) (s : State) :
    if a.toNat % 4 ≠ 0 ∨ mapped a.toNat = false then exec (.registerWrite a v) s = .fault (.noSuchAddress a)
    else exec (.registerWrite a v) s = s.gives (s.dev.writeAt false a.toNat v.toNat) := by
  simp only [exec, execRegisterWrite, State.devStep_eq_gives]
  split <;> simp_all

theorem exec_bitAliasWrite_cases (a : BitVec 32) (v : Word) (s : State) :
    if a.toNat % 4 ≠ 0 ∨ a.toNat < 0x100000 ∨ 0x900000 ≤ a.toNat
    then exec (.bitAliasWrite a v) s = .fault (.noSuchAddress a)
    else exec (.bitAliasWrite a v) s = s.gives (s.dev.writeAt false a.toNat v.toNat) := by
  simp only [exec, execBitAliasWrite, State.devStep_eq_gives]
  split <;> simp_all

/-- What a read of an address leaves: nothing changed while no requester reaches the bus. -/
def Device.lowWordRead (d : Device) (q : Requester) (a : Nat) : Device :=
  if d.busOff then d else (d.readAt q a).2.showRead q (d.readAt q a).1

theorem exec_latchedLowWordRead_cases (q : Requester) (a : BitVec 32) (s : State) :
    if a.toNat % 4 ≠ 0 ∨ mapped a.toNat = false then exec (.latchedLowWordRead q a) s = .fault (.noSuchAddress a)
    else exec (.latchedLowWordRead q a) s = s.gives (s.dev.lowWordRead q a.toNat) := by
  simp only [exec, execLatchedLowWordRead, State.devStep_eq_gives, Device.lowWordRead]
  split <;> simp_all

/-- The boot goes on, with the fuses as they were or as the boot blows them. -/
theorem exec_boot_cases (r : BootReport) (s : State) :
    (∃ d, exec (.boot r) s = s.gives d)
      ∨ exec (.boot r) s = .next { s with dev := (s.dev.boot r s.fuses).1, fuses := (s.dev.boot r s.fuses).2 } := by
  simp only [exec, execBoot]
  split
  · exact .inl ⟨s.dev, rfl⟩
  · split
    · exact .inl ⟨_, rfl⟩
    · exact .inr rfl

/-- The end of a long command goes on; only that of an executing IMG_CONFIRM blows fuses (R538). -/
theorem exec_longCommandDone_cases (tag : Fin 128) (o : LongOutcome) (s : State) :
    (∃ d, exec (.longCommandDone tag o) s = s.gives d)
      ∨ ∃ k d, s.dev.task? tag.val = some k ∧ k.op = 0x0C06 ∧ k.state = .executing
        ∧ exec (.longCommandDone tag o) s = .next { s with dev := d, fuses := s.dev.confirmFuses s.fuses } := by
  simp only [exec, execLongCommandDone]
  split
  · exact .inl ⟨s.dev, rfl⟩
  · next k hk =>
    split
    · next hstate =>
      by_cases hop : k.op = 0x0C06
      · exact .inr ⟨k, _, hk, hop, hstate, by simp only [hop, if_true]; rfl⟩
      · exact .inl ⟨_, by simp only [hop, if_false]; rfl⟩
    · exact .inl ⟨s.dev, rfl⟩

/-! ### The queue, the refusals and the faults -/

theorem gives_pending {s t : State} {d : Device} (h : s.gives d = .next t) : t.pending = s.pending := by
  cases h; rfl

theorem gives_fuses {s t : State} {d : Device} (h : s.gives d = .next t) : t.fuses = s.fuses := by
  cases h; rfl

theorem next_fuses {s t : State} {d : Device} {f : Fuses}
    (h : (.next { s with dev := d, fuses := f } : Outcome State Fault Refusal) = .next t) : t.fuses = f := by
  cases h; rfl

/-- Every outcome is a fault of one of the three accesses or goes on with the queue as it was. -/
theorem exec_outcome (c : Instr) (s : State) :
    (∃ d f, exec c s = .next { s with dev := d, fuses := f })
      ∨ (∃ a v, c = .registerWrite a v ∧ exec c s = .fault (.noSuchAddress a) ∧ (a.toNat % 4 ≠ 0 ∨ mapped a.toNat = false))
      ∨ (∃ a v, c = .bitAliasWrite a v ∧ exec c s = .fault (.noSuchAddress a)
          ∧ (a.toNat % 4 ≠ 0 ∨ a.toNat < 0x100000 ∨ 0x900000 ≤ a.toNat))
      ∨ (∃ q a, c = .latchedLowWordRead q a ∧ exec c s = .fault (.noSuchAddress a)
          ∧ (a.toNat % 4 ≠ 0 ∨ mapped a.toNat = false)) := by
  by_cases hdev : Instr.devOnly c = true
  · obtain ⟨d, hd⟩ := exec_devOnly hdev s
    exact .inl ⟨d, s.fuses, hd⟩
  cases c
  case registerWrite a v =>
    have h := exec_registerWrite_cases a v s
    split at h
    · exact .inr (.inl ⟨a, v, rfl, h, by assumption⟩)
    · exact .inl ⟨_, s.fuses, h⟩
  case bitAliasWrite a v =>
    have h := exec_bitAliasWrite_cases a v s
    split at h
    · exact .inr (.inr (.inl ⟨a, v, rfl, h, by assumption⟩))
    · exact .inl ⟨_, s.fuses, h⟩
  case latchedLowWordRead q a =>
    have h := exec_latchedLowWordRead_cases q a s
    split at h
    · exact .inr (.inr (.inr ⟨q, a, rfl, h, by assumption⟩))
    · exact .inl ⟨_, s.fuses, h⟩
  case boot r =>
    rcases exec_boot_cases r s with ⟨d, h⟩ | h
    · exact .inl ⟨d, s.fuses, h⟩
    · exact .inl ⟨_, _, h⟩
  case longCommandDone tag o =>
    rcases exec_longCommandDone_cases tag o s with ⟨d, h⟩ | ⟨k, d, -, -, -, h⟩
    · exact .inl ⟨d, s.fuses, h⟩
    · exact .inl ⟨_, _, h⟩
  all_goals exact absurd rfl hdev

/-- Settles O1: both clauses are the two branches of a step. -/
theorem stepRunsTheFrontCommand : Obligations.StepRunsTheFrontCommand := by
  unfold Obligations.StepRunsTheFrontCommand
  exact ⟨fun c rest s => rfl, fun s hempty => by simp only [step, hempty]⟩

/-- Settles O2: whatever goes on has the queue it had. -/
theorem commandsKeepTheQueue : Obligations.CommandsKeepTheQueue := by
  unfold Obligations.CommandsKeepTheQueue
  intro c s t h
  rcases exec_outcome c s with ⟨d, f, hc⟩ | ⟨a, v, -, hc, -⟩ | ⟨a, v, -, hc, -⟩ | ⟨q, a, -, hc, -⟩ <;>
    rw [hc] at h <;> cases h
  rfl

/-- Settles O3: a command goes on, or is one of the three accesses and faults by its address alone. -/
theorem onlyUnmappedAccessesStop : Obligations.OnlyUnmappedAccessesStop := by
  unfold Obligations.OnlyUnmappedAccessesStop
  intro c s
  constructor
  · intro r h
    rcases exec_outcome c s with ⟨d, f, hc⟩ | ⟨a, v, -, hc, -⟩ | ⟨a, v, -, hc, -⟩ | ⟨q, a, -, hc, -⟩ <;>
      rw [hc] at h <;> cases h
  · intro f
    constructor
    · intro h
      rcases exec_outcome c s with ⟨d, f, hc⟩ | ⟨a, v, rfl, hc, ha⟩ | ⟨a, v, rfl, hc, ha⟩ | ⟨q, a, rfl, hc, ha⟩ <;>
        rw [hc] at h <;> cases h
      · exact .inl ⟨a, v, rfl, rfl, ha⟩
      · exact .inr (.inl ⟨a, v, rfl, rfl, ha⟩)
      · exact .inr (.inr ⟨q, a, rfl, rfl, ha⟩)
    · rintro (⟨a, v, rfl, rfl, ha⟩ | ⟨a, v, rfl, rfl, ha⟩ | ⟨q, a, rfl, rfl, ha⟩)
      · have h := exec_registerWrite_cases a v s
        rwa [if_pos ha] at h
      · have h := exec_bitAliasWrite_cases a v s
        rwa [if_pos ha] at h
      · have h := exec_latchedLowWordRead_cases q a s
        rwa [if_pos ha] at h

/-! ### The fuses -/

/-- Only the boot and the end of an executing IMG_CONFIRM can change the fuses, and only as they blow them. -/
theorem exec_fuses {c : Instr} {s t : State} (h : exec c s = .next t) :
    t.fuses = s.fuses
      ∨ (∃ r, c = .boot r ∧ t.fuses = (s.dev.boot r s.fuses).2)
      ∨ (∃ tag o, c = .longCommandDone tag o ∧ t.fuses = s.dev.confirmFuses s.fuses
          ∧ ∃ k, s.dev.task? tag.val = some k ∧ k.op = 0x0C06 ∧ k.state = .executing) := by
  by_cases hdev : Instr.devOnly c = true
  · obtain ⟨d, hd⟩ := exec_devOnly hdev s
    exact .inl (gives_fuses (hd ▸ h))
  cases c
  case registerWrite a v =>
    have hc := exec_registerWrite_cases a v s
    split at hc <;> rw [hc] at h
    · cases h
    · exact .inl (gives_fuses h)
  case bitAliasWrite a v =>
    have hc := exec_bitAliasWrite_cases a v s
    split at hc <;> rw [hc] at h
    · cases h
    · exact .inl (gives_fuses h)
  case latchedLowWordRead q a =>
    have hc := exec_latchedLowWordRead_cases q a s
    split at hc <;> rw [hc] at h
    · cases h
    · exact .inl (gives_fuses h)
  case boot r =>
    rcases exec_boot_cases r s with ⟨d, hc⟩ | hc <;> rw [hc] at h
    · exact .inl (gives_fuses h)
    · exact .inr (.inl ⟨r, rfl, next_fuses h⟩)
  case longCommandDone tag o =>
    rcases exec_longCommandDone_cases tag o s with ⟨d, hc⟩ | ⟨k, d, hk, hop, hstate, hc⟩ <;> rw [hc] at h
    · exact .inl (gives_fuses h)
    · exact .inr (.inr ⟨tag, o, rfl, next_fuses h, k, hk, hop, hstate⟩)
  all_goals exact absurd rfl hdev

/-- Fuses `g` keep what `f` holds and stay legal where `f` is. -/
def Fuses.grows (f g : Fuses) : Prop := (f.legal → g.legal) ∧ f.kept g

theorem Fuses.grows_refl (f : Fuses) : f.grows f := ⟨id, Nat.le_refl _, Nat.le_refl _, BitVec.and_self⟩

theorem Fuses.grows_raise (f : Fuses) (host grain : Nat) : f.grows (f.raise host grain) := by
  refine ⟨fun ⟨hhost, hgrain⟩ => ?_, ?_, ?_, BitVec.and_self⟩
  · simp only [Fuses.legal, Fuses.raise]
    omega
  · exact Nat.le_max_left ..
  · exact Nat.le_max_left ..

theorem Fuses.grows_revoke (f : Fuses) (mask : Nat) : f.grows (f.revoke mask) := by
  refine ⟨id, Nat.le_refl _, Nat.le_refl _, ?_⟩
  ext i
  simp only [Fuses.revoke, BitVec.getElem_and, BitVec.getElem_or]
  cases f.revoked[i] <;> rfl

theorem Fuses.grows.trans {f g h : Fuses} (hfg : f.grows g) (hgh : g.grows h) : f.grows h := by
  obtain ⟨hlegal, hhost, hgrain, hrevoked⟩ := hfg
  obtain ⟨hlegal', hhost', hgrain', hrevoked'⟩ := hgh
  refine ⟨hlegal' ∘ hlegal, hhost.trans hhost', hgrain.trans hgrain', ?_⟩
  rw [← hrevoked, BitVec.and_assoc, hrevoked']

theorem Device.bootFuses_grows (d : Device) (slot : Option Nat) (f : Fuses) : f.grows (d.bootFuses slot f) := by
  unfold Device.bootFuses
  split
  · split
    · exact f.grows_raise _ _
    · exact f.grows_refl
  · exact f.grows_refl

theorem Device.confirmFuses_grows (d : Device) (f : Fuses) : f.grows (d.confirmFuses f) := by
  unfold Device.confirmFuses
  split
  · exact (f.grows_raise _ _).trans (Fuses.grows_revoke _ _)
  · exact f.grows_refl

/-- The fuses after a boot are those that its selected slot raises. -/
theorem Device.boot_fuses_grows (d : Device) (r : BootReport) (f : Fuses) : f.grows (d.boot r f).2 := by
  unfold Device.boot
  exact Device.bootFuses_grows _ _ _

theorem exec_fuses_grow {c : Instr} {s t : State} (h : exec c s = .next t) : s.fuses.grows t.fuses := by
  rcases exec_fuses h with hf | ⟨r, -, hf⟩ | ⟨tag, o, -, hf, -⟩ <;> rw [hf]
  · exact s.fuses.grows_refl
  · exact s.dev.boot_fuses_grows r s.fuses
  · exact s.dev.confirmFuses_grows s.fuses

/-- Settles O4: each step runs one command at most, and what blows fuses raises counters to 64 at most and adds
revocations. -/
theorem fusesOnlyGrow : Obligations.FusesOnlyGrow := by
  unfold Obligations.FusesOnlyGrow
  intro s t hinv hstep
  have hgrows : s.fuses.grows t.fuses := by
    unfold step at hstep
    split at hstep
    · cases hstep
      exact s.fuses.grows_refl
    · next i rest _ => exact exec_fuses_grow (s := { s with pending := rest }) hstep
  exact ⟨hgrows.1 hinv, hgrows.2⟩

/-- Settles O5: the three ways in which the fuses can come out of a command. -/
theorem onlyBootAndConfirmBlowFuses : Obligations.OnlyBootAndConfirmBlowFuses := by
  unfold Obligations.OnlyBootAndConfirmBlowFuses
  intro c s t h hne
  rcases exec_fuses h with hf | ⟨r, hc, -⟩ | ⟨tag, o, hc, -, hk⟩
  · exact absurd hf hne
  · exact .inl ⟨r, hc⟩
  · exact .inr ⟨tag, o, hc, hk⟩

end Sys2Proof.Machine
end

section
/-! PROOFS. The bytes of entries, completions and links (Tables 2.2, 7.3, 7.4), and what they spell. -/
namespace Sys2Proof.Machine

/-! ### Little-endian segments -/

@[simp] theorem drop_leBytes {n k : Nat} (h : n ≤ k) (v : Nat) : (leBytes n v).drop k = [] :=
  List.drop_eq_nil_of_le (by simpa using h)

@[simp] theorem take_leBytes (n v : Nat) : (leBytes n v).take n = leBytes n v :=
  List.take_of_length_le (by simp)

/-- A number that fits its bytes is spelt by them. -/
theorem ofLe_leBytes_of_lt {n v : Nat} (h : v < 256 ^ n) : ofLe (leBytes n v) = v := by
  rw [ofLe_leBytes, Nat.mod_eq_of_lt h]

/-- A word of whole bytes is spelt by them. -/
theorem ofNat_ofLe_leBytes {w n : Nat} (h : w = 8 * n) (x : BitVec w) :
    BitVec.ofNat w (ofLe (leBytes n x.toNat)) = x := by
  have hpow : 256 ^ n = 2 ^ w := by rw [h, Nat.pow_mul]
  rw [ofLe_leBytes_of_lt (hpow ▸ x.isLt), BitVec.ofNat_toNat, BitVec.setWidth_eq]

/-! ### Command entries -/

theorem entryBytes_length (op : Nat) (e : Entry) : (entryBytes op e).length = 64 := by
  simp [entryBytes]

theorem parseEntry_entryBytes {op : Nat} (h : op < 65536) (e : Entry) :
    parseEntry e.pair e.index.toNat (entryBytes op e) = (op, e) := by
  have hop : ofLe (leBytes 2 op) = op := ofLe_leBytes_of_lt h
  simp [parseEntry, entryBytes, List.drop_append, nth, hop, ofNat_ofLe_leBytes, -ofLe_leBytes]

/-- Settles O7: every field stands at the offset where it is read, in as many bytes as it has. -/
theorem entryBytesSpellTheEntry : Obligations.EntryBytesSpellTheEntry := by
  unfold Obligations.EntryBytesSpellTheEntry
  exact fun op e h => ⟨entryBytes_length op e, parseEntry_entryBytes h e⟩

/-! ### Chain links and completion entries -/

/-- An integer that `w` bits hold in two's complement is read back from them. -/
theorem sext_toBits {w : Nat} (hw : 0 < w) {x : Int} (hlo : -(2 ^ (w - 1) : Int) ≤ x) (hhi : x < 2 ^ (w - 1)) :
    sext w (toBits w x) = x := by
  obtain ⟨k, rfl⟩ : ∃ k, w = k + 1 := ⟨w - 1, by omega⟩
  have hpow : (2 : Nat) ^ (k + 1) = 2 * 2 ^ k := by rw [Nat.pow_succ, Nat.mul_comm]
  have hcast : ((2 ^ k : Nat) : Int) = 2 ^ k := by push_cast; rfl
  simp only [Nat.add_sub_cancel] at hlo hhi
  rw [← hcast] at hlo hhi
  simp only [sext, toBits, hpow, Nat.add_sub_cancel]
  generalize 2 ^ k = m at *
  rcases lt_or_ge x 0 with hneg | hpos
  · have hmod : x % ((2 * m : Nat) : Int) = x + (2 * m : Nat) := by
      rw [← Int.add_emod_right, Int.emod_eq_of_lt (by omega) (by omega)]
    rw [hmod, Nat.mod_eq_of_lt (by omega), if_neg (by omega)]
    omega
  · rw [Int.emod_eq_of_lt hpos (by omega), Nat.mod_eq_of_lt (by omega), if_pos (by omega)]
    omega

theorem toBits_lt (w : Nat) (x : Int) : toBits w x < 2 ^ w := by
  have hpos : (0 : Int) < ((2 ^ w : Nat) : Int) := by exact_mod_cast Nat.two_pow_pos w
  have := Int.emod_lt_of_pos x hpos
  have := Int.emod_nonneg x hpos.ne'
  simp only [toBits]
  omega

theorem linkBytes_length (l : Link) : (linkBytes l).length = 16 := by
  simp [linkBytes]

theorem parseLink_linkBytes {l : Link} (h : l.wf = true) : parseLink (linkBytes l) = l := by
  obtain ⟨duration, flags, endVel, delta, reserved⟩ := l
  simp only [Link.wf, Bool.and_eq_true, decide_eq_true_eq] at h
  obtain ⟨⟨⟨⟨hdur, hflags⟩, hres⟩, hvlo, hvhi⟩, hdlo, hdhi⟩ := h
  have hd : ofLe (leBytes 3 duration) = duration := ofLe_leBytes_of_lt hdur
  have hr : ofLe (leBytes 3 reserved) = reserved := ofLe_leBytes_of_lt hres
  have hv : ofLe (leBytes 4 (toBits 32 endVel)) = toBits 32 endVel := ofLe_leBytes_of_lt (toBits_lt 32 endVel)
  have he : ofLe (leBytes 5 (toBits 40 delta)) = toBits 40 delta := ofLe_leBytes_of_lt (toBits_lt 40 delta)
  have hv' : sext 32 (toBits 32 endVel) = endVel := sext_toBits (by decide) hvlo hvhi
  have he' : sext 40 (toBits 40 delta) = delta := sext_toBits (by decide) hdlo hdhi
  have hf : leBytes 1 flags = [BitVec.ofNat 8 flags] := rfl
  simp [parseLink, linkBytes, List.drop_append, nth, hf, hd, hr, hv, he, hv', he', -ofLe_leBytes,
    Nat.mod_eq_of_lt hflags]

theorem fit_of_length {n : Nat} {bs : List Byte} (h : bs.length = n) : fit n bs = bs := by
  rw [fit, List.take_left' h]

theorem cplBytes_layout {op tag cf st index user : Nat} {result : List Byte} (hop : op < 2 ^ 16) (htag : tag < 2 ^ 8)
    (hcf : cf < 2 ^ 8) (hst : st < 2 ^ 16) (huser : user < 2 ^ 32) (hlen : result.length = 20) :
    let bs := cplBytes op tag cf st index user result
    bs.length = 32 ∧ ofLe (bs.take 2) = op ∧ ofLe ((bs.drop 2).take 1) = tag ∧ ofLe ((bs.drop 3).take 1) = cf
      ∧ ofLe ((bs.drop 4).take 2) = st ∧ ofLe ((bs.drop 6).take 2) = index % 2 ^ 16
      ∧ ofLe ((bs.drop 8).take 4) = user ∧ bs.drop 12 = result := by
  have h1 : ofLe (leBytes 2 op) = op := ofLe_leBytes_of_lt hop
  have h2 : ofLe (leBytes 1 tag) = tag := ofLe_leBytes_of_lt htag
  have h3 : ofLe (leBytes 1 cf) = cf := ofLe_leBytes_of_lt hcf
  have h4 : ofLe (leBytes 2 st) = st := ofLe_leBytes_of_lt hst
  have h5 : ofLe (leBytes 2 index) = index % 2 ^ 16 := ofLe_leBytes 2 index
  have h6 : ofLe (leBytes 4 user) = user := ofLe_leBytes_of_lt huser
  simp [cplBytes, fit_of_length hlen, hlen, List.drop_append, h1, h2, h3, h4, h5, h6, -ofLe_leBytes]

/-- Settles O8: a link's fields stand in as many bytes as their widths, signed ones in two's complement; a completion
entry's fields follow one another. -/
theorem linksAndCompletionsKeepTheirLayout : Obligations.LinksAndCompletionsKeepTheirLayout := by
  unfold Obligations.LinksAndCompletionsKeepTheirLayout
  exact ⟨fun l h => ⟨linkBytes_length l, parseLink_linkBytes h⟩,
    fun _ _ _ _ _ _ _ hop htag hcf hst huser hlen => cplBytes_layout hop htag hcf hst huser hlen⟩

end Sys2Proof.Machine
end

section
/-! PROOFS. A command entry that is not accepted (R220, R222, R224, R635): it is left, refused, or joins the tasks and waits. -/
namespace Sys2Proof.Machine

/-- A command row hands its entry to the scheduler, with the effect of its opcode. -/
theorem exec_entry {i : Instr} {op : Nat} {e : Entry} (h : entryOf? i = some (op, e)) :
    ∃ run, ∀ s, exec i s = s.gives (s.dev.submit op run e) := by
  cases i <;> cases h <;> exact ⟨_, fun _ => rfl⟩

/-! ### Entries that are left or refused -/

theorem Device.admitEntry_of_not_canTake {d : Device} {e : Entry} (htake : d.canTake e.pair.val = false)
    (hfree : (d.freeTag e.pair.val).isSome = true) (op : Nat) : d.admitEntry op e = (d, none) := by
  have hnone : (d.freeTag e.pair.val).isNone = false := by
    rw [← Option.not_isSome, hfree]; rfl
  simp [Device.admitEntry, htake, hnone]

theorem Device.submit_of_admit_none {d : Device} {op : Nat} {e : Entry} (h : (d.admitEntry op e).2 = none)
    (run : Nat → Device → Device) : d.submit op run e = (d.admitEntry op e).1 := by
  unfold Device.submit
  split
  · next heq => rw [heq] at h; cases h
  · next heq => rw [heq]

theorem Device.submit_refused {d : Device} {op : Nat} {e : Entry} {st : Status} {r : List Byte} (htag : d.tagOk e)
    (hjudge : d.judge op e = some (st, r)) (run : Nat → Device → Device) :
    d.submit op run e = (d.tagged op e).complete (d.tagFor e) st true r := by
  rw [Device.submit_of_admit_none (by rw [Device.admitEntry_refused htag hjudge]), Device.admitEntry_refused htag hjudge]

/-- A refusal carries a result only where the parameters of an opcode that is otherwise in order are out of range. -/
theorem Device.judge_result {d : Device} {op : Nat} {e : Entry} {st : Status} {r : List Byte}
    (h : d.judge op e = some (st, r)) :
    ((opKnown op = false ∨ headOk e = false ∨ paramsOk op e = true) → r = [])
      ∧ (opKnown op = true → headOk e = true → paramsOk op e = false → st = .badParam → r = rangeResult op e) := by
  by_cases hop : opKnown op = true
  · by_cases hhead : headOk e = true
    · by_cases hmode : d.on Reg.IMG_STAT.RESTRICTED = true ∧ opRestricted op = false
      · rw [Device.judge_restricted hop hhead hmode.1 hmode.2] at h
        cases h
        exact ⟨fun _ => rfl, fun _ _ _ hst => by cases hst⟩
      · have hmode' : d.on Reg.IMG_STAT.RESTRICTED = false ∨ opRestricted op = true := by
          by_cases hres : opRestricted op = true
          · exact .inr hres
          · exact .inl (by simpa [hres] using hmode)
        by_cases hparams : paramsOk op e = true
        · rcases hmode' with hmode | hmode <;> simp [Device.judge, hop, hhead, hmode, hparams] at h
        · rw [Device.judge_badParams hop hhead hmode' (by simpa using hparams)] at h
          cases h
          exact ⟨by simp [hop, hhead, hparams], fun _ _ _ _ => rfl⟩
    · rw [Device.judge_badHead hop (by simpa using hhead)] at h
      cases h
      exact ⟨fun _ => rfl, fun _ hhead' => absurd hhead' hhead⟩
  · rw [Device.judge_badOpcode (by simpa using hop)] at h
    cases h
    exact ⟨fun _ => rfl, fun hop' => absurd hop' hop⟩

/-! ### Entries that wait -/

/-- An entry that is taken and whose task is not ready joins the tasks, and nothing more. -/
theorem Device.submit_waits {d : Device} {op : Nat} {e : Entry} (htag : d.tagOk e) (hjudge : d.judge op e = none)
    (hready : (d.tagged op e).ready (d.newTask op e) = false) (run : Nat → Device → Device) :
    d.submit op run e = d.tagged op e := by
  have hadmit := Device.admit_tagOk htag op
  rw [hjudge] at hadmit
  simp [Device.submit, hadmit, Device.begin, Device.tagged_task htag op, hready]

/-- An unmet WAIT condition holds a new task back (R222). -/
theorem Device.newTask_not_ready_of_wait {d : Device} {e : Entry} (hwait : bitOf e.wait.toNat 15 = true)
    (hlevel : d.flagLevel (bitsOf e.wait.toNat 0 8) ≠ bitOf e.wait.toNat 8) (op : Nat) (x : Device) :
    x.ready (d.newTask op e) = false := by
  simp [Device.ready, Device.newTask, Device.waitHolds, hwait, hlevel]

/-- A FENCE holds a new task back while an earlier one of its pair is not completing (R224). -/
theorem Device.newTask_not_ready_of_fence {d : Device} {e : Entry} (htag : d.tagOk e)
    (hfence : bitOf e.flags.toNat 1 = true)
    (hbefore : ∃ t ∈ d.sched.tasks, t.pair = e.pair.val ∧ t.state ≠ .completing) (op : Nat) :
    (d.tagged op e).ready (d.newTask op e) = false := by
  have hfree := Device.tagOk_free htag
  unfold Device.task? at hfree
  rw [List.find?_eq_none] at hfree
  have hearlier : (d.tagged op e).sched.tasks.takeWhile (fun x => x.tag != (d.newTask op e).tag) = d.sched.tasks := by
    rw [d.tagged_tasks op e, List.takeWhile_append_of_pos]
    · simp [Device.newTask]
    · intro x hx
      simpa [Device.newTask] using hfree x hx
  have hclear : (d.tagged op e).fenceClear (d.newTask op e) = false := by
    obtain ⟨t, ht, hpair, hstate⟩ := hbefore
    unfold Device.fenceClear
    rw [hearlier, List.all_eq_false]
    exact ⟨t, ht, by simp [Device.newTask, hpair, hstate]⟩
  have hbit : bitOf (d.newTask op e).entry.flags.toNat 1 = true := hfence
  simp [Device.ready, hbit, hclear]

/-- Settles O10: the row hands its entry to the scheduler, and each clause is one way in which the task does not start. -/
theorem entriesWait : Obligations.EntriesWait := by
  unfold Obligations.EntriesWait
  intro s i op e hentry
  obtain ⟨run, hexec⟩ := exec_entry hentry
  simp only [hexec]
  refine ⟨fun htake hfree => ?_, fun _ hnone => ?_, fun st r htag hjudge => ?_, fun htag hjudge hwait hlevel => ?_,
    fun htag hjudge hfence hbefore => ?_⟩
  · have hadmit := Device.admitEntry_of_not_canTake htake hfree op
    rw [Device.submit_of_admit_none (by rw [hadmit]), hadmit]
    rfl
  · rw [Device.submit_of_admit_none hnone]
  · obtain ⟨hempty, hrange⟩ := Device.judge_result hjudge
    exact ⟨hempty, hrange, by rw [Device.submit_refused htag hjudge]⟩
  · rw [Device.submit_waits htag hjudge (Device.newTask_not_ready_of_wait hwait hlevel op _)]
  · rw [Device.submit_waits htag hjudge (Device.newTask_not_ready_of_fence htag hfence hbefore op)]

end Sys2Proof.Machine
end

section
/-! PROOFS. A completion that is written (R206, R213, R221): its entry, the ring's index, its tag, and the other memory. -/
namespace Sys2Proof.Machine

theorem cplBytes_length (op tag cf st index user : Nat) (result : List Byte) :
    (cplBytes op tag cf st index user result).length = 32 := by
  simp [cplBytes, fit]

/-! ### An entry in a ring below 80 whose event is not logged -/

/-- The address at which the next entry of ring `r` goes. -/
def Device.ringNext (d : Device) (r : Nat) : Nat := d.ringAddr r (d.rd Reg.RING_PI.PI r)

theorem Device.ringPut_mem {d : Device} {r : Nat} {bs : List Byte} (h : sramSpan (d.ringNext r) bs.length = true) :
    (d.ringPut r bs).mem = memPutAll d.mem (d.ringNext r) bs := by
  unfold Device.ringNext at h
  simp [Device.ringPut, Device.ringNext, h]

theorem Device.ringPut_index (d : Device) (r : Nat) (bs : List Byte) :
    (d.ringPut r bs).rd Reg.RING_PI.PI r = (d.rd Reg.RING_PI.PI r + 1) % 2 ^ 32 := by
  unfold Device.ringPut
  exact Device.rd_wr_same ..

theorem apart_ringPi_evRoute {r : Nat} (hr : r < 256) {k : Nat} (hk : k < 128) :
    apart Reg.RING_PI.PI r Reg.EV_ROUTE.ROUTE k := by
  have hpi : Reg.RING_PI.PI.key r = (0x2008 + 0x10 * r) * 8 := rfl
  have hroute : Reg.EV_ROUTE.ROUTE.key k = (0x1000 + 4 * k) * 8 := rfl
  exact .inr (by omega)

theorem beyondLatches_ringPi {r : Nat} (hr : r < 256) : beyondLatches Reg.RING_PI.PI r := by
  have hpi : Reg.RING_PI.PI.key r = (0x2008 + 0x10 * r) * 8 := rfl
  have hint : Reg.INT_STAT.ACTIVE.key 0 = 0x1254 * 8 := rfl
  exact .inr (by omega)

/-- An entry put in a ring leaves the memory outside it and every register but the ring's index and the latches. -/
theorem Device.ringPush_quiet {d : Device} {r : Nat} {bs : List Byte} (hr : r < 80)
    (hlog : bitOf (d.route (432 + r)) 6 = false) (hspan : sramSpan (d.ringNext r) bs.length = true) :
    (d.ringPush r bs).mem = memPutAll d.mem (d.ringNext r) bs
      ∧ (d.ringPush r bs).rd Reg.RING_PI.PI r = (d.rd Reg.RING_PI.PI r + 1) % 2 ^ 32 := by
  have hroute : (d.ringPut r bs).route (432 + r) = d.route (432 + r) :=
    Device.route_congr (d.ringPut_rd r bs (apart_ringPi_evRoute (by omega) (by omega)))
  obtain ⟨hmem, hregs⟩ := (d.ringPut r bs).latchEvent_quiet (432 + r) (by rw [hroute, hlog])
  rw [Device.ringPush, Device.ringEvt, if_pos hr]
  exact ⟨hmem.trans (Device.ringPut_mem hspan),
    (hregs _ _ (beyondLatches_ringPi (by omega))).trans (d.ringPut_index r bs)⟩

/-! ### A written completion -/

theorem beyondSched_ringPi {r : Nat} (hr : r < 256) : beyondSched Reg.RING_PI.PI r := by
  have hpi : Reg.RING_PI.PI.key r = (0x2008 + 0x10 * r) * 8 := rfl
  have hflight : Reg.MB_STAT.IN_FLIGHT.key 0 = 0x3004 * 8 + 1 := rfl
  exact .inr (by omega)

theorem apart_taskFlags_ringPi {k r : Nat} (hr : r < 256) : apart Reg.TASK_FLAGS.FLAGS k Reg.RING_PI.PI r := by
  have hpi : Reg.RING_PI.PI.key r = (0x2008 + 0x10 * r) * 8 := rfl
  have hflags : Reg.TASK_FLAGS.FLAGS.key k = (0x3050 + 4 * k) * 8 := rfl
  exact .inr (by omega)

/-- A completion in time has its entry's bytes and the ring's index as the entry in the ring leaves them. -/
theorem Device.writeCpl_mem_index (d : Device) (h : HeldCpl) (hpair : h.pair < 8) :
    (d.writeCpl h false).mem = (d.ringPush (2 * h.pair + 1) h.bytes).mem
      ∧ (d.writeCpl h false).rd Reg.RING_PI.PI (2 * h.pair + 1)
        = (d.ringPush (2 * h.pair + 1) h.bytes).rd Reg.RING_PI.PI (2 * h.pair + 1) := by
  unfold Device.writeCpl
  extract_lets bs d1 p d2
  have hflags : d2.mem = d1.mem ∧ d2.rd Reg.RING_PI.PI (2 * h.pair + 1) = d1.rd Reg.RING_PI.PI (2 * h.pair + 1) := by
    unfold d2
    split
    · refine ⟨rfl, ?_⟩
      rw [Device.modSched_rd, Device.setTaskFlags, Device.rd_wr_other _ (apart_taskFlags_ringPi (by omega)),
        Device.rd_wr_other _ (apart_taskFlags_ringPi (by omega))]
    · exact ⟨rfl, rfl⟩
  rw [Device.refreshSched_mem, Device.refreshSched_rd _ (beyondSched_ringPi (by omega)), Device.modSched_rd,
    Device.modSched_mem]
  exact hflags

/-- The task of a written completion is gone. -/
theorem Device.writeCpl_task? (d : Device) (h : HeldCpl) (late : Bool) : (d.writeCpl h late).task? h.tag = none := by
  unfold Device.writeCpl Device.task?
  extract_lets bs d1 p d2
  rw [Device.refreshSched_sched, Device.modSched_sched, List.find?_eq_none]
  intro t ht
  simpa using (List.mem_filter.mp ht).2

/-- What a completing task hands to its completion ring. -/
def Task.cpl (t : Task) (st : Status) (ne : Bool) (result : List Byte) : HeldCpl :=
  ⟨t.pair, t.tag, st == .ok, t.entry.onOk.toNat,
    cplBytes t.op t.tag (b2n (st.noEffect ne) + 2 * (t.entry.flags.toNat % 2) + 4 * b2n t.auto) st.code
      t.entry.index.toNat t.entry.user.toNat result⟩

/-- The device in which the task of a tag is completing. -/
def Device.completing (d : Device) (tag : Nat) : Device := d.modTask tag (fun t => { t with state := .completing })

/-- A task completes at once where its ring has room and nothing of its pair is held (R225). -/
theorem Device.complete_eq_writeCpl {d : Device} {t : Task} (htask : d.task? t.tag = some t)
    (hstate : t.state ≠ .completing) (hheld : d.sched.held.all (fun h => h.pair != t.pair) = true)
    (hroom : d.ringRoom (2 * t.pair + 1) 1 = true) (st : Status) (ne : Bool) (result : List Byte) :
    d.complete t.tag st ne result = (d.completing t.tag).writeCpl (t.cpl st ne result) false := by
  have hgo : ((d.completing t.tag).sched.held.all (fun x => x.pair != (t.cpl st ne result).pair)
      && (d.completing t.tag).ringRoom (2 * (t.cpl st ne result).pair + 1) 1) = true :=
    Bool.and_eq_true_iff.mpr ⟨hheld, hroom⟩
  unfold Device.complete
  rw [htask]
  simp only [hstate, if_false]
  exact if_pos hgo

theorem Device.bytes_of_mem {d : Device} {m : List Host.Cell} {a : Nat} {bs : List Byte}
    {n : Nat} (hn : bs.length = n) (h : d.mem = memPutAll m a bs) : d.bytes a n = bs := by
  subst hn
  refine List.ext_getElem (by simp [Device.bytes]) fun k hk hk' => ?_
  simp only [Device.bytes, List.getElem_map, List.getElem_range, Device.byte, h]
  exact memByte_memPutAll_inside m a k bs hk'

/-- Settles O12: the completion is written at once; its entry goes to the ring's next place and nothing else writes memory. -/
theorem completionIsWritten : Obligations.CompletionIsWritten := by
  unfold Obligations.CompletionIsWritten
  intro d tag st ne result t htask htag hstate hpair hheld hroom hlog hesize a hspan e
  subst htag
  have he : e = (d.completing t.tag).writeCpl (t.cpl st ne result) false :=
    Device.complete_eq_writeCpl htask hstate hheld hroom st ne result
  have hlen : (t.cpl st ne result).bytes.length = 32 := cplBytes_length ..
  obtain ⟨hmem, hindex⟩ := (d.completing t.tag).writeCpl_mem_index (t.cpl st ne result) hpair
  have hlogged : bitOf ((d.completing t.tag).route (432 + (2 * t.pair + 1))) 6 = false := by
    rw [show 432 + (2 * t.pair + 1) = 433 + 2 * t.pair by omega]
    exact hlog
  obtain ⟨hput, hnext⟩ := Device.ringPush_quiet (d := d.completing t.tag) (r := 2 * t.pair + 1)
    (bs := (t.cpl st ne result).bytes) (by omega) hlogged (by rw [hlen]; exact hspan)
  have hbytes : e.mem = memPutAll d.mem a (t.cpl st ne result).bytes := by
    rw [he, hmem]
    exact hput
  refine ⟨?_, ?_, ?_, fun x hx => ?_⟩
  · rw [he]
    exact Device.writeCpl_task? _ (t.cpl st ne result) false
  · rw [he]
    exact hindex.trans hnext
  · exact Device.bytes_of_mem hlen hbytes
  · simp only [Device.byte, hbytes]
    exact memByte_memPutAll_outside _ _ _ _ (by rw [hlen]; exact hx)

end Sys2Proof.Machine
end

section
/-! PROOFS. Accepted command entries: the system commands (Table 7.8, Table 11.7). -/
namespace Sys2Proof.Machine

/-- A command row whose entry is accepted has its command's effect on the device in which its task executes. -/
theorem exec_accepted {s : State} {i : Instr} {op : Nat} {e : Entry} {run : Nat → Device → Device} {d : Device}
    (h : s.dev.accepts op e) (hrow : exec i s = s.devStep (Device.submit op run e))
    (hrun : run (s.dev.tagFor e) (s.dev.begun op e) = d) : exec i s = s.gives d := by
  rw [hrow, devStep_submit h, hrun]

theorem Device.accepts.tag {d : Device} {op : Nat} {e : Entry} (h : d.accepts op e) : d.tagOk e := h.1

/-- The entry that an accepted command's task carries. -/
theorem Device.accepts.entry {d : Device} {op : Nat} {e : Entry} (h : d.accepts op e) :
    (d.begun op e).entryOf (d.tagFor e) = e := Device.begun_entryOf h.tag op

/-- A register beyond the scheduler's own reads for an accepted command as before it. -/
theorem Device.begun_on (d : Device) (op : Nat) (e : Entry) {g : Field} {j : Nat} (h : beyondSched g j) :
    (d.begun op e).on g j = d.on g j := by
  simp only [Device.on, d.begun_rd op e h]

/-! ### Queries -/

/-- What SYS_IDENT answers, with the versions of the running images (R532). -/
theorem runSysIdent_begun (d : Device) (e : Entry) (tag : Nat) : ∃ version : Nat → Nat,
    (d.keep.slot = none → ∀ k, version k = 0)
    ∧ (∀ r, d.keep.slot = some r → ∀ k, version k = (d.begun 0x0101 e).manifest r k 4 8)
    ∧ runSysIdent tag (d.begun 0x0101 e) = (d.begun 0x0101 e).ok tag true
        (leBytes 2 0x8064 ++ [0xB1] ++ leBytes 1 ((d.begun 0x0101 e).rd Reg.IMG_STAT.RESTRICTED)
          ++ leBytes 4 (version 0) ++ leBytes 4 (version 1) ++ leBytes 2 ((d.begun 0x0101 e).ifrev 0)
          ++ leBytes 2 ((d.begun 0x0101 e).ifrev 1) ++ leBytes 1 (d.begun 0x0101 e).mode
          ++ leBytes 1 ((d.begun 0x0101 e).rd Reg.IMG_STAT.SLOT)) := by
  cases hslot : d.keep.slot with
  | none => exact ⟨fun _ => 0, by simp, by simp, by simp only [runSysIdent, Device.begun_keep, hslot]⟩
  | some r =>
    exact ⟨fun k => (d.begun 0x0101 e).manifest r k 4 8, by simp, by simp,
      by simp only [runSysIdent, Device.begun_keep, hslot]⟩

theorem Device.begun_taskCount {d : Device} {op : Nat} {e : Entry} (h : d.accepts op e) :
    (d.begun op e).sched.tasks.length = d.sched.tasks.length + 1 := by
  rw [Device.begun_tasks h.tag op, List.length_append, List.length_singleton]

theorem Device.begun_showClocks_rd (d : Device) (op : Nat) (e : Entry) {g : Field} {j : Nat}
    (hclocks : apart Reg.CLK_STAT_L.RUN 0 g j ∧ apart Reg.CLK_STAT_H.RUN 0 g j) (hsched : beyondSched g j) :
    (d.begun op e).showClocks.rd g j = d.rd g j := by
  rw [Device.showClocks_rd _ hclocks, d.begun_rd op e hsched]

theorem Device.showClocks_power (d : Device) : d.showClocks.power = d.power := by
  obtain ⟨-, -, -, -, hpower, -⟩ := d.showClocks_keeps
  exact hpower

theorem Device.begun_showClocks_mode (d : Device) (op : Nat) (e : Entry) :
    (d.begun op e).showClocks.mode = d.mode := by
  have hmode := d.begun_showClocks_rd op e (g := Reg.PWR_STAT.MODE) (j := 0) (by unfold apart; decide)
    (by unfold beyondSched; decide)
  simp only [Device.mode, Device.showClocks_power, Device.begun_power, hmode]

/-- What MODE_QUERY answers (Table 11.7). -/
theorem runModeQuery_begun {d : Device} {e : Entry} (tag : Nat) :
    runModeQuery tag (d.begun 0x0111 e) = (d.begun 0x0111 e).showClocks.ok tag true
      (leBytes 1 (modeCode d.mode)
        ++ leBytes 1 (if d.power.step = .deferred ∨ d.power.step = .ready then modeCode d.power.target else 0)
        ++ leBytes 1 (d.rd Reg.PWR_STAT.DEFER_CAUSE) ++ [0]
        ++ leBytes 8 ((d.begun 0x0111 e).showClocks.rd Reg.CLK_STAT_L.RUN
          + 2 ^ 32 * (d.begun 0x0111 e).showClocks.rd Reg.CLK_STAT_H.RUN)
        ++ leBytes 2 (d.rd Reg.WAKE_REASON.REASON) ++ leBytes 1 (d.rd Reg.BO_STAT.OK)) := by
  have hcause := d.begun_showClocks_rd 0x0111 e (g := Reg.PWR_STAT.DEFER_CAUSE) (j := 0)
    (by unfold apart; decide) (by unfold beyondSched; decide)
  have hreason := d.begun_showClocks_rd 0x0111 e (g := Reg.WAKE_REASON.REASON) (j := 0)
    (by unfold apart; decide) (by unfold beyondSched; decide)
  have hok := d.begun_showClocks_rd 0x0111 e (g := Reg.BO_STAT.OK) (j := 0)
    (by unfold apart; decide) (by unfold beyondSched; decide)
  simp only [runModeQuery, hcause, hreason, hok, Device.begun_showClocks_mode, Device.showClocks_power,
    Device.begun_power, Bool.or_eq_true, beq_iff_eq]

/-- Settles O14: each query completes OK with its answer; what a query reads of the state beside the scheduler is as it
was before the entry was taken. -/
theorem systemQueriesAnswer : Obligations.SystemQueriesAnswer := by
  unfold Obligations.SystemQueriesAnswer
  intro s e
  refine ⟨fun h => ?_, fun h => ?_, fun h => ?_, fun h hkeep => ?_, fun h hclear => ?_, fun h => ?_, fun h => ?_⟩
  · obtain ⟨version, hnone, hsome, hrun⟩ := runSysIdent_begun s.dev e (s.dev.tagFor e)
    exact ⟨version, hnone, hsome, exec_accepted h rfl hrun⟩
  · exact exec_accepted h rfl (by simp only [runEcho, h.entry])
  · exact exec_accepted h rfl (by simp only [runTagQuery, Device.begun_taskCount h])
  · exact exec_accepted h rfl (by simp only [runLostTags, h.entry, hkeep, Bool.false_eq_true, if_false])
  · exact exec_accepted h rfl (by simp only [runLostTags, h.entry, hclear, if_true])
  · exact exec_accepted h rfl (by simp only [runTimeQuery, Device.begun_loops, Device.begun_power, Device.begun_grain])
  · exact exec_accepted h rfl (runModeQuery_begun _)

/-! ### Commands -/

theorem Device.begun_modeBusy (d : Device) (op : Nat) (e : Entry) : (d.begun op e).modeBusy = d.modeBusy := by
  simp only [Device.modeBusy, Device.begun_power]

/-- Settles O15: each command does its one thing to the device in which its task executes. -/
theorem systemCommandsAct : Obligations.SystemCommandsAct := by
  unfold Obligations.SystemCommandsAct
  intro s e
  refine ⟨fun h => ?_, fun h => ?_, fun h hgo => ?_, fun h hforce hmoving => ?_, fun h hidle => ?_, fun h hbusy => ?_⟩
  · exact exec_accepted h rfl (by
      simp only [runFlagSet, h.entry, Device.begun_taskFlags, Device.begun_onOk, List.foldl_nil])
  · exact exec_accepted h rfl rfl
  · exact exec_accepted h rfl (by
      rcases hgo with hgo | hgo <;> simp only [runDeviceReset, h.entry, hgo, Bool.not_true, Bool.false_and,
        Bool.and_false, Bool.false_eq_true, if_false])
  · exact exec_accepted h rfl (by
      simp only [runDeviceReset, h.entry, hforce, hmoving, Bool.not_false, Bool.and_self, if_true])
  · exact exec_accepted h rfl (by simp only [runModeSet, Device.begun_modeBusy, hidle, Bool.false_eq_true, if_false])
  · exact exec_accepted h rfl (by simp only [runModeSet, Device.begun_modeBusy, hbusy, if_true])

end Sys2Proof.Machine
end

section
/-! PROOFS. Accepted command entries: the motion, follow, current, homing and tile commands (Tables 2.5, 3.4, 4.4, 5.4,
6.10). -/
namespace Sys2Proof.Machine

/-! ### What these commands read of the state beside the scheduler -/

theorem Device.begun_axSt (d : Device) (op : Nat) (e : Entry) (n : Nat) : (d.begun op e).axSt n = d.axSt n :=
  d.begun_rd op e (.inl (by decide))

theorem Device.begun_bytes (d : Device) (op : Nat) (e : Entry) (a n : Nat) : (d.begun op e).bytes a n = d.bytes a n := by
  simp only [Device.bytes, Device.byte, Device.begun_mem]

theorem Device.begun_ld (d : Device) (op : Nat) (e : Entry) (n a : Nat) : (d.begun op e).ld n a = d.ld n a := by
  simp only [Device.ld, Device.begun_bytes]

theorem Device.begun_pending (d : Device) (op : Nat) (e : Entry) (n : Nat) :
    (d.begun op e).rd Reg.FOL_PEND.PENDING n = d.rd Reg.FOL_PEND.PENDING n :=
  d.begun_rd op e (.inl (by decide))

/-! ### The rings of the axes -/

/-- Settles O16: each of the five commands is a row of the axis ring. -/
theorem axisRingCommandsQueue : Obligations.AxisRingCommandsQueue := by
  unfold Obligations.AxisRingCommandsQueue
  intro s e p hp h
  have hrow : exec (p.1 e) s = s.devStep (Device.submit p.2 runAxisRing e) := by
    simp only [List.mem_cons, List.not_mem_nil, or_false] at hp
    obtain rfl | rfl | rfl | rfl | rfl := hp <;> rfl
  have hrun := Device.begun_motionRuns s.dev p.2 e
  refine ⟨fun hm => exec_accepted h hrow ?_, fun hm => exec_accepted h hrow ?_⟩
  · simp only [runAxisRing, hrun, hm, if_true, h.entry]
  · simp only [runAxisRing, hrun, hm, Bool.false_eq_true, if_false]

/-! ### Stop and scale -/

/-- A list without an element of any of three kinds. -/
theorem none_of_three_kinds (l : List Nat) (p q r : Nat → Bool) :
    ((l.filter p).isEmpty && !l.any q && !l.any r) = !l.any (fun n => p n || q n || r n) := by
  rw [Bool.eq_iff_iff]
  simp only [Bool.and_eq_true, Bool.not_eq_true', List.isEmpty_iff, List.filter_eq_nil_iff, List.any_eq_false,
    Bool.or_eq_true, not_or, forall_and]

theorem Device.askStop_motionRuns (d : Device) (n reason : Nat) : (d.askStop n reason).motionRuns = d.motionRuns := rfl

/-- Asking axes to stop leaves the motion machine as it runs. -/
theorem Device.askStops_motionRuns (l : List Nat) (d : Device) : (l.foldl (fun d n =>
    if d.stoppable n || (d.ax n).armed.isSome then d.askStop n 1 else d) d).motionRuns = d.motionRuns := by
  induction l generalizing d with
  | nil => rfl
  | cons n t ih =>
    rw [List.foldl_cons, ih]
    split
    · exact d.askStop_motionRuns n 1
    · rfl

/-- STOP without FLUSH. NO_EFFECT says that no masked axis moved or held an armed start. -/
theorem runStop_keep {tag : Nat} {d : Device} {e : Entry} (he : d.entryOf tag = e) (hkeep : e.flag 8 0 = false) :
    let asked := (maskAxes e).foldl (fun d n =>
      if d.stoppable n || (d.ax n).armed.isSome then d.askStop n 1 else d) d
    runStop tag d = if ((maskAxes e).filter (fun n => d.stoppable n)).isEmpty || !d.motionRuns
      then asked.ok tag (!(maskAxes e).any (fun n => d.stoppable n || (d.ax n).armed.isSome)) (leBytes 8 0)
      else asked := by
  intro asked
  have hkinds := none_of_three_kinds (maskAxes e) (fun n => d.stoppable n) (fun n => (d.ax n).armed.isSome)
    (fun _ => false)
  have hnever : (maskAxes e).any (fun _ => false) = false := List.any_eq_false.mpr fun _ _ => Bool.false_ne_true
  simp only [hnever, Bool.not_false, Bool.and_true, Bool.or_false] at hkinds
  simp only [runStop, he, hkeep, Bool.false_and, Bool.false_eq_true, if_false, Bool.not_false, Bool.and_true,
    Device.askStops_motionRuns, hkinds, asked]

/-- STOP with FLUSH. NO_EFFECT says that no masked axis moved, held an armed start or lost an entry. -/
theorem runStop_flush {tag : Nat} {d : Device} {e : Entry} (he : d.entryOf tag = e) (hflush : e.flag 8 0 = true) :
    let asked := (maskAxes e).foldl (fun d n =>
      if d.stoppable n || (d.ax n).armed.isSome then d.askStop n 1 else d) d
    let flushed := (maskAxes e).foldl (fun d n => d.flushAxis n .cancelled) asked
    runStop tag d = if ((maskAxes e).filter (fun n => d.stoppable n)).isEmpty || !flushed.motionRuns
      then flushed.ok tag (!(maskAxes e).any (fun n => d.stoppable n || (d.ax n).armed.isSome
        || (asked.ax n).ring.any (fun k => !k.dead) || !(asked.unplaced n).isEmpty)) (leBytes 8 0)
      else flushed := by
  intro asked flushed
  have hkinds := none_of_three_kinds (maskAxes e) (fun n => d.stoppable n) (fun n => (d.ax n).armed.isSome)
    (fun n => (asked.ax n).ring.any (fun k => !k.dead) || !(asked.unplaced n).isEmpty)
  simp only [← Bool.or_assoc] at hkinds
  simp only [runStop, he, hflush, Bool.true_and, if_true]
  rw [hkinds]

/-- Settles O17: STOP by its FLUSH flag, and SCALE_SET. -/
theorem stopAndScaleAct : Obligations.StopAndScaleAct := by
  unfold Obligations.StopAndScaleAct
  intro s e
  refine ⟨fun h hkeep => ?_, fun h hflush => ?_, fun h => ?_⟩
  · exact exec_accepted h rfl (runStop_keep h.entry hkeep)
  · exact exec_accepted h rfl (runStop_flush h.entry hflush)
  · exact exec_accepted h rfl (by simp only [runScaleSet, h.entry])

/-! ### Chains and axes -/

/-- A stop chain is valid where its validation finds no fault. -/
theorem Device.any_not_stopChainOk (d : Device) (l : List Nat) (c vmax : Nat → Nat) :
    l.any (fun n => !d.stopChainOk (c n) (vmax n)) = true
      ↔ l.filterMap (fun n => d.stopChainFault (c n) (vmax n)) ≠ [] := by
  simp [Device.stopChainOk, List.filterMap_eq_nil_iff, Option.isSome_iff_ne_none]

/-- What is done with the first fault that counts, if there is one. -/
theorem match_firstFault {α : Type} (on : Bool) (faults : List Nat) (found : Nat → α) (none : α) :
    (match (if on then faults else []) with
      | reason :: _ => found reason
      | [] => none) = if on ∧ faults ≠ [] then found (faults.headD 0) else none := by
  cases on <;> cases faults <;> simp

/-- AXIS_ENABLE refuses with the first fault of a stop chain, and else acts on the axes it hits. -/
theorem runAxisEnable_eq {tag : Nat} {d : Device} {e : Entry} (he : d.entryOf tag = e) :
    let on := e.flag 8 0
    let hit := (maskAxes e).filter (fun n => d.on Reg.AX_CTRL.ENABLE n != on && !(on && d.on Reg.AX_STAT.DEGRADED n))
    runAxisEnable tag d =
      if (maskAxes e).any (fun n => !d.quiet n) then d.refuse tag .busyMoving
      else if on ∧ (maskAxes e).any (fun n => d.shutFor n) then d.refuse tag .functionDown
      else if on ∧ hit.any (fun n => !d.stopChainOk (d.rd Reg.STOP_CHAIN.CHAIN n) (d.rd Reg.VMAX.VMAX n)) then
        d.refuse tag .badParam (leBytes 8 0 ++ leBytes 1 ((hit.filterMap (fun n =>
          d.stopChainFault (d.rd Reg.STOP_CHAIN.CHAIN n) (d.rd Reg.VMAX.VMAX n))).headD 0))
      else (hit.foldl (fun d n => if on then d.enableAxis n else d.disableAxis n) d).ok tag hit.isEmpty
        (leBytes 8 (axisMask (fun n => hit.contains n))) := by
  intro on hit
  simp only [Device.any_not_stopChainOk]
  unfold runAxisEnable
  simp only [he]
  refine ite_congr rfl (fun _ => rfl) fun _ => ite_congr rfl (fun _ => rfl) fun _ => ?_
  exact match_firstFault ..

/-- Settles O18. -/
theorem chainAndAxisCommandsAct : Obligations.ChainAndAxisCommandsAct := by
  unfold Obligations.ChainAndAxisCommandsAct
  intro s e
  refine ⟨fun h hfree => ?_, fun h hlocked => ?_, fun h => ⟨fun r hr => ?_, fun r hr => ?_⟩, fun h => ?_, fun h => ?_⟩
  · exact exec_accepted h rfl (by
      simp only [runChainLoad, h.entry, hfree, Bool.false_eq_true, if_false, Device.begun_bytes, linkAddr])
  · exact exec_accepted h rfl (by simp only [runChainLoad, h.entry, hlocked, if_true])
  · exact exec_accepted h rfl (by simp only [runChainCheck, h.entry, hr])
  · exact exec_accepted h rfl (by simp only [runChainCheck, h.entry, hr])
  · exact exec_accepted h rfl (by simp only [runAxisQuery, h.entry])
  · exact exec_accepted h rfl (runAxisEnable_eq h.entry)

/-! ### Follow and tables -/

/-- Settles O19. -/
theorem followCommandsAct : Obligations.FollowCommandsAct := by
  unfold Obligations.FollowCommandsAct
  intro s e
  refine ⟨fun h hfollow hmay => ?_, fun h hother => ?_, fun h hfree => ?_, fun h hused => ?_, fun h hother => ?_⟩
  · refine exec_accepted h rfl ?_
    have hstays : ¬ (e.flag 1 0 = true ∧ (!(s.dev.begun 0x0211 e).mayLeave (e.p 1 0)) = true) := by
      rcases hmay with hwait | hleave
      · simp [hwait]
      · simp [hleave]
    simp only [runFollowLeave, h.entry, Device.begun_axSt, hfollow, ne_eq, not_true, if_false, if_neg hstays]
  · exact exec_accepted h rfl (by simp only [runFollowLeave, h.entry, Device.begun_axSt, ne_eq, hother, not_false_iff, if_true])
  · exact exec_accepted h rfl (by
      simp only [runMtLoad, h.entry, hfree, Bool.false_eq_true, if_false, Device.begun_ld, Device.begun_tables])
  · exact exec_accepted h rfl (by simp only [runMtLoad, h.entry, hused, if_true])
  · exact exec_accepted h rfl (by
      simp only [runPendingClear, h.entry, Device.begun_axSt, Device.begun_pending, if_neg hother])

/-! ### Currents, ledgers and positions -/

/-- Settles O20. -/
theorem currentCommandsAct : Obligations.CurrentCommandsAct := by
  unfold Obligations.CurrentCommandsAct
  intro s e
  refine ⟨fun h => ?_, fun h => ?_, fun h => ?_, fun h => ?_, fun h hruns => ?_, fun h hdown => ?_⟩
  · exact exec_accepted h rfl (by simp only [runCurPolicySet, h.entry])
  · exact exec_accepted h rfl (by simp only [runCurQuery, h.entry])
  · refine exec_accepted h rfl ?_
    simp only [runLedgerRead, h.entry]
    split <;> rfl
  · exact exec_accepted h rfl (by simp only [runLedgerClear, h.entry])
  · exact exec_accepted h rfl (by simp only [runPosInvalidate, h.entry, hruns, if_true])
  · exact exec_accepted h rfl (by simp only [runPosInvalidate, hdown, Bool.false_eq_true, if_false])

/-! ### Tile links -/

/-- Settles O21. -/
theorem tileCommandsAct : Obligations.TileCommandsAct := by
  unfold Obligations.TileCommandsAct
  intro s e
  refine ⟨fun h hruns => ?_, fun h => ⟨fun hquiet => ?_, fun hmoves => ?_⟩, fun h hruns => ?_, fun h hdown => ?_,
    fun h hdown => ?_, fun h hup => ?_, fun h => ?_⟩
  · exact exec_accepted h rfl (by simp only [runTileStart, h.entry, hruns, Bool.not_true, Bool.false_eq_true, if_false])
  · exact exec_accepted h rfl (by simp only [runTileStop, h.entry, hquiet, Bool.false_eq_true, if_false])
  · exact exec_accepted h rfl (by simp only [runTileStop, h.entry, hmoves, if_true])
  · exact exec_accepted h rfl (by simp only [runTileReinit, h.entry, hruns, Bool.not_true, Bool.false_eq_true, if_false])
  · exact exec_accepted h rfl (by simp only [runTileStart, hdown, Bool.not_false, if_true])
  · exact exec_accepted h rfl (by simp only [runTileReinit, hdown, Bool.not_false, if_true])
  · have hall : (maskTiles e).any
        (fun t => (s.dev.begun 0x0504 e).lstate t != 4 && (s.dev.begun 0x0504 e).lstate t != 5) = false := by
      rw [List.any_eq_false]
      intro t ht
      rcases hup t ht with hstate | hstate <;> simp [hstate]
    exact exec_accepted h rfl (by simp only [runFilterSync, h.entry, hall, Bool.false_eq_true, if_false])
  · exact exec_accepted h rfl (by simp only [runTileQuery, h.entry])

end Sys2Proof.Machine
end

section
/-! PROOFS. Accepted command entries: the converter, perception, audio, fusion and thermal commands (Tables 12.4a, 13.9,
14.3, 15.3, 16.5). -/
namespace Sys2Proof.Machine

/-! ### The converter -/

/-- Settles O22: ADC_URGENT by what the converter has under way. -/
theorem converterCommandsAct : Obligations.ConverterCommandsAct := by
  unfold Obligations.ConverterCommandsAct
  intro s e
  refine ⟨fun h hstays hidle => ?_, fun h hstays hbusy hroom => ?_, fun h hstays hbusy hfull => ?_, fun h => ?_,
    fun h => ?_, fun h hidle hqueue => ?_⟩
  · exact exec_accepted h rfl (by
      simp only [runAdcUrgent, h.entry, Device.begun_power, Device.begun_adc, if_neg hstays, hidle, Option.isSome_none,
        Bool.false_eq_true, if_false])
  · exact exec_accepted h rfl (by
      simp only [runAdcUrgent, h.entry, Device.begun_power, Device.begun_adc, if_neg hstays,
        Option.isSome_iff_ne_none.mpr hbusy, hroom, if_true, Device.queueLong])
  · exact exec_accepted h rfl (by
      simp only [runAdcUrgent, Device.begun_power, Device.begun_adc, if_neg hstays,
        Option.isSome_iff_ne_none.mpr hbusy, Nat.not_lt.mpr hfull, if_true, if_false])
  · exact exec_accepted h rfl (by simp only [runBushelRead, h.entry])
  · exact exec_accepted h rfl (by simp only [runBushelClear, h.entry])
  · exact exec_accepted h rfl (by simp only [runAdcReinit, Device.begun_adc, hidle, hqueue, List.foldl_nil])

/-! ### Long commands -/

/-- A long command whose group is free begins. -/
theorem Device.runLong_free {d : Device} {ops : List Nat} {tag : Nat} (h : d.longBusy ops tag = false)
    (begins : Nat → Device → Device) : d.runLong ops begins tag = begins tag d := by
  simp only [Device.runLong, h, Bool.false_eq_true, if_false]

/-- The opcode of an accepted command's task. -/
theorem Device.accepts.op {d : Device} {op : Nat} {e : Entry} (h : d.accepts op e) :
    ((d.begun op e).task? (d.tagFor e)).map (·.op) = some op := by
  rw [Device.begun_task h.tag op]
  rfl

/-! ### Perception -/

/-- What PERC_QUERY answers of the neural job under way. -/
def Device.jobHandle (d : Device) : Nat :=
  match d.perc.job with
  | some j => if j.spotter.isSome then 0xFF else jobByte j.bytes 0
  | none => 0xFF

theorem runPercQuery_eq (tag : Nat) (d : Device) : runPercQuery tag d = d.ok tag true
    (leBytes 1 (d.rd Reg.BM_STAT.ACTIVE) ++ leBytes 1 (d.rd Reg.BM_STAT.RETIRED) ++ leBytes 2 (d.rd Reg.NE_STAT.ACTIVE)
      ++ leBytes 2 (65535 - d.rd Reg.NE_STAT.ACTIVE) ++ leBytes 1 (d.rd Reg.NE_STAT.LOADED) ++ leBytes 1 d.jobHandle
      ++ leBytes 4 d.ptime ++ leBytes 4 (d.rd Reg.CAM_SEQ.SEQ 0) ++ leBytes 4 (d.rd Reg.CAM_SEQ.SEQ 1)) := rfl

/-- Settles O23. -/
theorem perceptionCommandsAct : Obligations.PerceptionCommandsAct := by
  unfold Obligations.PerceptionCommandsAct
  intro s e
  refine ⟨fun h hfree hempty hruns => ?_, fun h hloaded hunnamed => ?_, fun h => ⟨_, rfl, ?_⟩, fun h => ?_,
    fun h hfree => ?_, fun h hfree => ?_, fun h hfree => ?_⟩
  · refine exec_accepted h rfl ((Device.runLong_free hfree _).trans ?_)
    simp only [beginNeural, h.op, if_true, beginNeLoad, h.entry, hempty, hruns, Option.isSome_none, Bool.not_true,
      Bool.false_eq_true, if_false]
  · have hsome : ((s.dev.begun 0x0702 e).container (e.p 1 0)).isNone = false := by
      rw [← Option.not_isSome, hloaded, Bool.not_true]
    exact exec_accepted h rfl (by simp only [runNeUnload, h.entry, hsome, hunnamed, Bool.false_eq_true, if_false])
  · exact exec_accepted h rfl (by simp only [runNeFlush, h.entry])
  · refine ⟨Device.jobHandle (s.dev.begun 0x0704 e), fun hnone => ?_, fun j hj => ?_, exec_accepted h rfl (runPercQuery_eq ..)⟩
    · simp only [Device.jobHandle, hnone]
    · simp only [Device.jobHandle, hj]
  · exact exec_accepted h rfl ((Device.runLong_free hfree _).trans (by simp only [beginCamReinit, h.entry]))
  · exact exec_accepted h rfl (Device.runLong_free hfree _)
  · refine exec_accepted h rfl ((Device.runLong_free hfree _).trans ?_)
    have hother : ¬ some 0x0707 = some 0x0701 := by decide
    simp only [beginNeural, h.op, if_neg hother]

/-! ### Audio and fusion -/

/-- Settles O24. -/
theorem audioAndFusionCommandsAct : Obligations.AudioAndFusionCommandsAct := by
  unfold Obligations.AudioAndFusionCommandsAct
  intro s e
  refine ⟨fun h => ?_, fun h hidle => ?_, fun h g hseg => ?_, fun h => ?_, fun h => ?_, fun h => ?_, fun h hfull => ?_,
    fun h hfull => ?_, fun h => ?_⟩
  · exact exec_accepted h rfl (by simp only [runAudQuery])
  · exact exec_accepted h rfl (by simp only [runKwsAbort, Device.begun_audio, hidle])
  · exact exec_accepted h rfl (by simp only [runKwsAbort, Device.begun_audio, hseg])
  · exact exec_accepted h rfl (by simp only [runAudReinit])
  · exact exec_accepted h rfl (by simp only [runFusQuery])
  · exact exec_accepted h rfl (by simp only [runStreamAges])
  · exact exec_accepted h rfl (by
      simp only [runTrackClear, h.entry, hfull, Bool.not_true, Bool.false_eq_true, if_false])
  · exact exec_accepted h rfl (by simp only [runTrackClear, hfull, Bool.not_false, if_true])
  · exact exec_accepted h rfl (by simp only [runFusReinit])

/-! ### Sensors and fans -/

/-- What FAN_QUERY answers of the sample that a fan follows. -/
def Fan.shownCode (f : Fan) : Nat :=
  match f.current with
  | some (c, _, _) => toBits 24 c
  | none => 0

theorem runFanQuery_eq {tag : Nat} {d : Device} {e : Entry} (he : d.entryOf tag = e) :
    runFanQuery tag d = d.ok tag true
      (leBytes 1 (d.rd Reg.FAN_STAT.STATE (e.p 1 0)) ++ leBytes 1 (d.rd Reg.FAN_STAT.CLASS (e.p 1 0))
        ++ leBytes 2 (d.rd Reg.FAN_STAT.DUTY (e.p 1 0)) ++ leBytes 2 (d.rd Reg.FAN_SPEED.RPM (e.p 1 0))
        ++ leBytes 2 (d.rd Reg.FAN_SPEED.TARGET (e.p 1 0)) ++ leBytes 3 (d.fan (e.p 1 0)).shownCode
        ++ leBytes 1 (d.rd Reg.FAN_STAT.ATTEMPT (e.p 1 0))) := by
  subst he
  rfl

/-- Settles O25. -/
theorem thermalCommandsAct : Obligations.ThermalCommandsAct := by
  unfold Obligations.ThermalCommandsAct
  intro s e
  refine ⟨fun h => ?_, fun h => ⟨((s.dev.begun 0x0A02 e).fan (e.p 1 0)).shownCode, fun hnone => ?_, fun r hr => ?_, ?_⟩,
    fun h => ?_, fun h => ?_, fun h => ?_, fun h => ?_⟩
  · exact exec_accepted h rfl (by simp only [runThermQuery, h.entry])
  · simp only [Fan.shownCode, hnone]
  · simp only [Fan.shownCode, hr]
  · exact exec_accepted h rfl (runFanQuery_eq h.entry)
  · exact exec_accepted h rfl (by simp only [runFanRestart, h.entry])
  · exact exec_accepted h rfl (by simp only [runFanMapClear, h.entry])
  · exact exec_accepted h rfl (by simp only [runThermReinit])
  · exact exec_accepted h rfl (by simp only [runFanMapRead, h.entry])

end Sys2Proof.Machine
end

section
/-! PROOFS. Accepted command entries: the store, record, image, event and fault commands (Tables 17.8, 18.6, 19.4). -/
namespace Sys2Proof.Machine

/-! ### Store and record -/

/-- A word of the commit line of the active bank of a parameter or recipe store; 0 without one. -/
def Device.commitWord (d : Device) (kind k : Nat) : Nat :=
  match d.activeBank kind with
  | some b => d.ld 4 (commitAddr kind b + k)
  | none => 0

theorem runStoreQuery_eq {tag : Nat} {d : Device} {e : Entry} (he : d.entryOf tag = e) :
    runStoreQuery tag d = d.ok tag true
      (leBytes 1 ((d.activeBank (e.p 1 0)).getD 0xFF)
        ++ leBytes 1 (b2n (d.bankValid (e.p 1 0) 0) + 2 * b2n (d.bankValid (e.p 1 0) 1))
        ++ leBytes 2 0 ++ leBytes 4 (d.bankSeq (e.p 1 0) 0) ++ leBytes 4 (d.bankSeq (e.p 1 0) 1)
        ++ leBytes 4 (d.commitWord (e.p 1 0) 8) ++ leBytes 4 (d.commitWord (e.p 1 0) 20)) := by
  subst he
  rfl

/-- Settles O26. -/
theorem keepingCommandsAct : Obligations.KeepingCommandsAct := by
  unfold Obligations.KeepingCommandsAct
  intro s e
  refine ⟨fun h => ?_, fun h => ?_, fun h => ?_, fun h => ⟨fun hnone => ?_, fun src len dst huser hlen hfree => ?_⟩,
    fun h hroom => ?_, fun h hfull => ?_, fun h hfree hrange => ?_, fun h hlow hhigh => ?_⟩
  · exact exec_accepted h rfl (by simp only [runStore])
  · exact exec_accepted h rfl (by simp only [runStoreInvalidate])
  · refine ⟨(s.dev.begun 0x0B02 e).commitWord (e.p 1 0) 8, (s.dev.begun 0x0B02 e).commitWord (e.p 1 0) 20,
      fun j hj => ?_, fun hnone => ?_, exec_accepted h rfl (runStoreQuery_eq h.entry)⟩
    · simp only [Device.commitWord, hj, and_self]
    · simp only [Device.commitWord, hnone, and_self]
  · exact exec_accepted h rfl (by simp only [runParamRecall, hnone])
  · exact exec_accepted h rfl (by
      simp only [runParamRecall, huser, if_neg hlen, hfree, Bool.false_eq_true, if_false])
  · exact exec_accepted h rfl (by simp only [runRecordNote, h.entry, Device.begun_keep, hroom, if_true])
  · exact exec_accepted h rfl (by
      simp only [runRecordNote, h.entry, Device.begun_keep, Nat.not_lt.mpr hfull, if_false])
  · refine exec_accepted h rfl ((Device.runLong_free hfree _).trans ?_)
    simp only [beginRecordExport, h.entry, hrange, if_true]
  · exact exec_accepted h rfl (by simp only [runRecordRelease, h.entry, hlow, hhigh, and_self, if_true])

/-! ### Images and certificates -/

/-- Another image command executes for a new command's task where one executed before it. -/
theorem Device.begun_imgBusy {d : Device} {op : Nat} {e : Entry} (h : d.accepts op e) :
    (d.begun op e).sched.tasks.any (fun t => t.state == .executing && t.tag != d.tagFor e && imgOps.contains t.op)
      = d.sched.tasks.any (fun t => t.state == .executing && imgOps.contains t.op) := by
  have hfree := Device.tagOk_free h.tag
  simp only [Device.task?, List.find?_eq_none, beq_iff_eq] at hfree
  rw [Device.begun_tasks h.tag op, List.any_append]
  have hnew : (d.newTask op e).tag = d.tagFor e := rfl
  simp only [List.any_cons, List.any_nil, hnew, bne_self_eq_false, Bool.and_false, Bool.false_and, Bool.or_false]
  rw [Bool.eq_iff_iff, List.any_eq_true, List.any_eq_true]
  refine exists_congr fun t => and_congr_right fun ht => ?_
  simp [hfree t ht]

/-- The security version that IMG_QUERY answers of image `i` of slot `k`. -/
def Device.svnShown (d : Device) (k i : Nat) : Nat := if (d.notAuthentic k i).isSome then 0xFF else d.svn k i

/-- The security version of running image `i`. -/
def Device.svnRunning (d : Device) (i : Nat) : Nat :=
  match d.keep.slot with
  | some r => d.svn r i
  | none => 0

theorem runImgQuery_slot {tag : Nat} {d : Device} {e : Entry} (he : d.entryOf tag = e) (hslot : e.p 1 0 < 2) :
    runImgQuery tag d = d.ok tag true
      (leBytes 1 (d.recordState (e.p 1 0)) ++ leBytes 1 (d.recordTries (e.p 1 0))
        ++ leBytes 1 (b2n (d.latch (e.p 1 0)).isSome) ++ leBytes 1 (b2n (d.keep.slot == some (e.p 1 0)))
        ++ leBytes 4 (d.recordSeq (e.p 1 0)) ++ leBytes 4 (d.manifest (e.p 1 0) 0 4 8)
        ++ leBytes 4 (d.manifest (e.p 1 0) 1 4 8) ++ leBytes 1 (d.svnShown (e.p 1 0) 0)
        ++ leBytes 1 (d.svnShown (e.p 1 0) 1)) := by
  subst he
  exact if_pos hslot

theorem runImgQuery_running {tag : Nat} {d : Device} {e : Entry} (he : d.entryOf tag = e) (hslot : ¬ e.p 1 0 < 2) :
    runImgQuery tag d = d.ok tag true
      (leBytes 2 (d.svnRunning 0) ++ leBytes 2 (d.svnRunning 1) ++ leBytes 1 (d.arbCount 0) ++ leBytes 1 (d.arbCount 1)
        ++ leBytes 1 (d.rd Reg.ARB_CNT.REVOKED) ++ leBytes 1 (d.keep.slot.getD 0xFF)) := by
  subst he
  exact if_neg hslot

/-- Settles O27. -/
theorem imageCommandsAct : Obligations.ImageCommandsAct := by
  unfold Obligations.ImageCommandsAct
  intro s e
  refine ⟨fun p hp h => ?_, fun h hslot => ?_, fun h hslot => ?_, fun h => ?_⟩
  · have hrow : exec (p.1 e) s = s.devStep (Device.submit p.2 runImg e) := by
      simp only [List.mem_cons, List.not_mem_nil, or_false] at hp
      obtain rfl | rfl | rfl | rfl | rfl := hp <;> rfl
    exact exec_accepted h hrow (by simp only [runImg, Device.begun_imgBusy h])
  · exact ⟨(s.dev.begun 0x0C01 e).svnShown (e.p 1 0), fun i => rfl,
      exec_accepted h rfl (runImgQuery_slot h.entry hslot)⟩
  · refine ⟨(s.dev.begun 0x0C01 e).svnRunning, fun r hr i => ?_, fun hnone i => ?_,
      exec_accepted h rfl (runImgQuery_running h.entry (by omega))⟩
    · simp only [Device.svnRunning, hr]
    · simp only [Device.svnRunning, hnone]
  · exact exec_accepted h rfl (by simp only [runSecCert, h.entry])

/-! ### Events and faults -/

theorem beyondSched_evLat {g : Nat} (hg : g < 256) : beyondSched Reg.EV_LAT.LAT g := by
  have hkey : Reg.EV_LAT.LAT.key g = (0x1200 + 4 * g) * 8 := rfl
  have hflight : Reg.MB_STAT.IN_FLIGHT.key 0 = 0x3004 * 8 + 1 := rfl
  exact .inr (by omega)

/-- A parameter byte is below 256. -/
theorem entry_byte_lt (e : Entry) (k : Nat) : e.p 1 k < 256 := Nat.mod_lt _ (by norm_num)

theorem Device.begun_evLat (d : Device) (op : Nat) (e : Entry) {g : Nat} (hg : g < 256) :
    (d.begun op e).rd Reg.EV_LAT.LAT g = d.rd Reg.EV_LAT.LAT g := d.begun_rd op e (beyondSched_evLat hg)

/-- Settles O28. -/
theorem eventAndFaultCommandsAct : Obligations.EventAndFaultCommandsAct := by
  unfold Obligations.EventAndFaultCommandsAct
  intro s e
  have hlat (op : Nat) := s.dev.begun_evLat op e (entry_byte_lt e 0)
  refine ⟨fun h => ?_, fun h => ?_, fun h => ?_, fun h => ?_, fun h => ?_, fun h => ?_, fun h hruns => ?_,
    fun h hdown => ?_, fun h => ?_, fun h => ?_⟩
  · have hsum := s.dev.begun_rd 0x0D01 e (g := Reg.EV_SUM.SUM) (j := 0) (by unfold beyondSched; decide)
    exact exec_accepted h rfl (by simp only [runEvtQuery, h.entry, hlat, hsum])
  · exact exec_accepted h rfl (by simp only [runEvtClear, h.entry, hlat, Device.clearEvents])
  · exact exec_accepted h rfl (by simp only [runEvtRoute, h.entry])
  · exact exec_accepted h rfl (by simp only [runScrupleSet, h.entry])
  · exact exec_accepted h rfl (by simp only [runFaultQuery, h.entry])
  · exact exec_accepted h rfl (by simp only [runFaultAck, h.entry])
  · exact exec_accepted h rfl (by simp only [runAxisReinit, hruns, if_true])
  · exact exec_accepted h rfl (by simp only [runAxisReinit, hdown, Bool.false_eq_true, if_false])
  · exact exec_accepted h rfl (by simp only [runEngineReinit, Device.runLong])
  · exact exec_accepted h rfl (by simp only [runCheckerReinit, Device.runLong])

end Sys2Proof.Machine
end

section
/-! PROOFS. Writes and reads of the register bus: the fields by their access codes, the words of the window and the alias
region, unassigned addresses and latched reads (chapter 10). -/
namespace Sys2Proof.Machine

/-! ### One field takes a write -/

theorem Device.guarded_of_ne_wd {d : Device} {p : Field × Nat} (hfixed : d.fixedEnable p = false) (hacc : p.1.acc ≠ .wd) :
    d.guarded p = false := by
  simp only [Device.guarded, hfixed, Bool.or_false, beq_eq_false_iff_ne, ne_eq, hacc, not_false_eq_true]

/-- A live write leaves the shadows and the copies. -/
theorem Device.wr_otherFiles (d : Device) (f : Field) (i v : Nat) :
    (d.wr f i v).regs.sh = d.regs.sh ∧ (d.wr f i v).regs.bgCopy = d.regs.bgCopy
      ∧ (d.wr f i v).regs.ddCopy = d.regs.ddCopy ∧ (d.wr f i v).regs.ssCopy = d.regs.ssCopy := by
  unfold Device.wr
  cases f.acc <;> exact ⟨rfl, rfl, rfl, rfl⟩

/-- A live write leaves what the bus reads of a field under another key. -/
theorem Device.busField_wr_other (d : Device) {f g : Field} {i j : Nat} (h : g.key j ≠ f.key i) (v : Nat) :
    (d.wr f i v).busField g j = d.busField g j := by
  have hrd : (d.wr f i v).rd g j = d.rd g j := d.rd_wr_other (.inr (Ne.symm h)) v
  obtain ⟨hsh, hbg, hdd, hss⟩ := d.wr_otherFiles f i v
  simp only [Device.busField, Device.rdSh, hrd, hsh, hbg, hdd, hss]

/-- A shadow write leaves what the bus reads of a field under another key. -/
theorem Device.busField_wrSh_other (d : Device) {f g : Field} {i j : Nat} (h : g.key j ≠ f.key i) (v : Nat) :
    (d.wrSh f i v).busField g j = d.busField g j := by
  unfold Device.busField
  rw [Device.rd_wrSh, Device.rdSh_wrSh_other d h]
  rfl

/-- What a write makes of the device, by the field's access code, where the field is in the mask and takes it. -/
theorem Device.takeWrite_eq {d : Device} {f : Field} {i data mask : Nat} {refused : Bool} (hmask : bitsOf mask f.lsb f.width ≠ 0)
    (htakes : (d.guarded (f, i) && refused) = false) : d.takeWrite data mask refused (f, i) = match f.acc with
      | .rw => d.wr f i (f.merged (d.rd f i) data mask)
      | .wd => d.wr f i (f.merged (d.rd f i) data mask)
      | .sh => d.wrSh f i (f.merged (d.rdSh f i) data mask)
      | .w1c => d.wr f i (d.rd f i - (d.rd f i &&& (bitsOf data f.lsb f.width &&& bitsOf mask f.lsb f.width)))
      | .ro => d
      | .wo => d
      | .rcBG => d
      | .rcD => d
      | .rcS => d := by
  simp only [Device.takeWrite, if_neg hmask, htakes, Bool.false_eq_true, if_false] <;> rfl

/-- A field that takes a write leaves the fields under other keys as they were. -/
theorem Device.takeWrite_other (d : Device) {f g : Field} {i j : Nat} (h : g.key j ≠ f.key i) (data mask : Nat) (refused : Bool) :
    (d.takeWrite data mask refused (f, i)).rd g j = d.rd g j
      ∧ (d.takeWrite data mask refused (f, i)).busField g j = d.busField g j := by
  have hlive (v : Nat) : (d.wr f i v).rd g j = d.rd g j ∧ (d.wr f i v).busField g j = d.busField g j :=
    ⟨d.rd_wr_other (.inr (Ne.symm h)) v, d.busField_wr_other h v⟩
  have hshadow (v : Nat) : (d.wrSh f i v).rd g j = d.rd g j ∧ (d.wrSh f i v).busField g j = d.busField g j :=
    ⟨d.rd_wrSh .., d.busField_wrSh_other h v⟩
  by_cases hmask : bitsOf mask f.lsb f.width = 0
  · simp only [Device.takeWrite, if_pos hmask, and_self]
  · cases htakes : d.guarded (f, i) && refused with
    | true => simp only [Device.takeWrite, if_neg hmask, htakes, if_true, and_self]
    | false =>
      rw [Device.takeWrite_eq hmask htakes]
      cases f.acc
      case rw => exact hlive _
      case wd => exact hlive _
      case sh => exact hshadow _
      case w1c => exact hlive _
      all_goals exact ⟨rfl, rfl⟩

/-- How the fields of a register take a write: whole where no guarded field would change while the block is enabled. -/
theorem Device.writeFields_eq (d : Device) (a data mask : Nat) :
    let changes := (fieldsAt a).any (fun p => d.guarded p && p.1.merged (d.rd p.1 p.2) data mask != d.rd p.1 p.2)
    (d.guard a = none → d.writeFields a data mask = (fieldsAt a).foldl (Device.takeWrite data mask false) d)
    ∧ (∀ g, d.guard a = some g → (changes && g.on) = false →
        d.writeFields a data mask = (fieldsAt a).foldl (Device.takeWrite data mask false) d)
    ∧ (∀ g, d.guard a = some g → (changes && g.on) = true →
        d.writeFields a data mask = ((fieldsAt a).foldl (Device.takeWrite data mask true) d).flagRefusal d g) := by
  intro changes
  refine ⟨fun hnone => ?_, fun g hg htaken => ?_, fun g hg hrefused => ?_⟩
  · simp only [Device.writeFields, hnone]
  · simp only [changes] at htaken
    simp only [Device.writeFields, hg, htaken, Bool.false_eq_true, if_false]
  · simp only [changes] at hrefused
    simp only [Device.writeFields, hg, hrefused, if_true]

/-- Settles O29. -/
theorem fieldsTakeWritesByAccessCode : Obligations.FieldsTakeWritesByAccessCode := by
  unfold Obligations.FieldsTakeWritesByAccessCode
  refine ⟨fun d f i data mask refused hfixed => ?_, fun d a data mask => ?_⟩
  · intro e m
    have heq (htakes : (d.guarded (f, i) && refused) = false) (hm : m ≠ 0) := Device.takeWrite_eq (data := data) hm htakes
    have hfree (hacc : f.acc ≠ .wd) : (d.guarded (f, i) && refused) = false := by
      rw [Device.guarded_of_ne_wd hfixed hacc, Bool.false_and]
    refine ⟨fun hm => ?_, fun hacc hm => ?_, fun hacc hm htaken => ?_, fun hacc href => ?_, fun hacc hm => ?_,
      fun hacc hm => ?_, fun hacc => ?_, fun g _ j _ hkey => d.takeWrite_other hkey data mask refused⟩
    · exact if_pos hm
    · have he := heq (hfree (by simp [hacc])) hm
      simp only [hacc] at he
      rw [show e = _ from he, Device.rd_wr_same]
    · have he := heq (by rw [htaken, Bool.and_false]) hm
      simp only [hacc] at he
      rw [show e = _ from he, Device.rd_wr_same]
    · have hguarded : d.guarded (f, i) = true := by simp [Device.guarded, hacc]
      simp only [e, Device.takeWrite, hguarded, href, Bool.and_self, if_true, ite_self]
    · have he := heq (hfree (by simp [hacc])) hm
      simp only [hacc] at he
      rw [show e = _ from he]
      exact ⟨Device.rd_wrSh .., Device.rdSh_wrSh_same ..⟩
    · have he := heq (hfree (by simp [hacc])) hm
      simp only [hacc] at he
      rw [show e = _ from he, Device.rd_wr_same]
    · by_cases hm : m = 0
      · exact if_pos hm
      · have he := heq (hfree (by rintro hwd; simp [hwd] at hacc)) hm
        rcases hacc with hacc | hacc | hacc | hacc <;> (simp only [hacc] at he; exact he)
  · intro changes
    obtain ⟨hnone, htaken, hrefused⟩ := d.writeFields_eq a data mask
    refine ⟨fun h => ?_, fun g hg hon hchanges => hrefused g hg (by rw [Bool.and_eq_true]; exact ⟨hchanges, hon⟩)⟩
    cases hg : d.guard a with
    | none => exact hnone hg
    | some g =>
      refine htaken g hg ?_
      rcases h with h | h | ⟨g', hg', hon⟩
      · exact (Bool.and_eq_false_iff).mpr (.inl h)
      · rw [hg] at h; cases h
      · rw [hg, Option.some.injEq] at hg'
        rw [hg', hon, Bool.and_false]

end Sys2Proof.Machine
end

section
/-! PROOFS. Words of the register bus: which writes have an effect of their own, what follows a write, unassigned addresses,
and reads that latch (R300, R309, R326, R629). -/
namespace Sys2Proof.Machine

/-! ### What follows a write that changes no enable -/

/-- No enable of `w` differs from that of `d`. -/
def Device.enablesKept (d w : Device) : Prop := ∀ f ∈ enableFields, ∀ j < f.count, w.on f j = d.on f j

section
variable {d w : Device} {f : Field} {j : Nat} (h : w.on f j = d.on f j)
include h

theorem rose_of_kept : rose d w f j = false := by simp [rose, h]

theorem turned_of_kept : turned d w f j = false := by simp [turned, h]

theorem Device.enableWritten_of_kept (act : Bool → Device → Device) : w.enableWritten d f j act = w :=
  (Device.enableWritten_cases w d f j act).1 h

theorem Device.unrestricted_of_kept : w.unrestricted d f j = w := by
  simp [Device.unrestricted, rose_of_kept h]

end

theorem Device.audioWritten_of_kept {d w : Device} (haud : w.on Reg.AUD_CTRL.AUD_EN 0 = d.on Reg.AUD_CTRL.AUD_EN 0)
    (hkws : w.on Reg.AUD_CTRL.KWS_EN 0 = d.on Reg.AUD_CTRL.KWS_EN 0)
    (hclip : w.on Reg.AUD_CTRL.CLIP_EN 0 = d.on Reg.AUD_CTRL.CLIP_EN 0) : w.audioWritten d = w := by
  simp only [Device.audioWritten, Device.unrestricted_of_kept haud, turned_of_kept haud, turned_of_kept hkws,
    turned_of_kept hclip, Bool.false_eq_true, if_false]

/-- What follows a write that has no effect of its own and changes no enable is nothing. -/
theorem Device.afterWrite_of_kept {d w : Device} {a : Nat} (hkept : d.enablesKept w) (hown : ownEffect a = false)
    (data mask : Nat) : w.afterWrite d false a data mask = w := by
  have hon {f : Field} (hf : f ∈ enableFields) {j : Nat} (hj : j < f.count) : w.on f j = d.on f j := hkept f hf j hj
  have hwords : a ≠ 0x404 ∧ a ≠ 0x408 ∧ ¬ (a = 0x608 ∨ a = 0x60C) ∧ ¬ (a = 0xB084 ∨ a = 0xB088) ∧ a ≠ 0xD000
      ∧ a ≠ 0xD100 ∧ a ≠ 0xD118 ∧ ¬ (0x1200 ≤ a ∧ a < 0x1240 ∨ 0x1244 ≤ a ∧ a < 0x1254) := by
    simp [ownEffect] at hown
    omega
  obtain ⟨h404, h408, hgpio, hhint, hcyc, husb, hrwake, hevents⟩ := hwords
  unfold Device.afterWrite
  extract_lets m within port ring tile converter fan cam corner car slot
  have hin (lo hi : Nat) : within lo hi = true ↔ lo ≤ a ∧ a < hi := by
    simp only [within, Bool.and_eq_true, decide_eq_true_eq]
  have hevents : ¬ (within 0x1200 0x1240 = true ∨ within 0x1244 0x1254 = true) := by simpa only [hin] using hevents
  have hrose {f : Field} {j : Nat} (x : Device) (hj : w.on f j = d.on f j) : (if rose d w f j then x else w) = w := by
    rw [rose_of_kept hj, if_neg Bool.false_ne_true]
  have hturned {f : Field} {j : Nat} (x : Device) (hj : w.on f j = d.on f j) :
      (if turned d w f j then x else w) = w := by
    rw [turned_of_kept hj, if_neg Bool.false_ne_true]
  have hwritten {f : Field} (hf : f ∈ enableFields) {j : Nat} (hj : j < f.count) (act : Bool → Device → Device) :
      w.enableWritten d f j act = w := Device.enableWritten_of_kept (hon hf hj) act
  rw [if_neg h404, if_neg h408]
  refine ite_eq_iff'.mpr ⟨fun hblock => ?_, fun _ => ?_⟩
  · obtain ⟨-, hhigh⟩ := (hin ..).mp hblock
    exact hrose _ (hon (by simp [enableFields]) (show _ < 4 by omega))
  rw [if_neg hgpio, if_neg hevents]
  refine ite_eq_iff'.mpr ⟨fun hblock => ?_, fun _ => ?_⟩
  · obtain ⟨-, hhigh⟩ := (hin ..).mp hblock
    exact hrose _ (hon (by simp [enableFields]) (show _ < 256 by omega))
  refine ite_eq_iff'.mpr ⟨fun hblock => ?_, fun _ => ?_⟩
  · obtain ⟨-, hhigh⟩ := (hin ..).mp hblock
    exact hwritten (by simp [enableFields]) (show _ < 16 by omega) _
  refine ite_eq_iff'.mpr ⟨fun _ => ?_, fun _ => ?_⟩
  · have hconverter : converter = w :=
      hturned _ (hon (f := Reg.ADC_CTRL.REFBUF_EN) (by simp [enableFields]) Nat.one_pos)
    rw [hconverter]
    exact hturned _ (hon (by simp [enableFields]) Nat.one_pos)
  refine ite_eq_iff'.mpr ⟨fun hblock => ?_, fun _ => ?_⟩
  · obtain ⟨-, hhigh⟩ := (hin ..).mp hblock
    exact hturned _ (hon (by simp [enableFields]) (show _ < 6 by omega))
  refine ite_eq_iff'.mpr ⟨fun hblock => ?_, fun _ => ?_⟩
  · obtain ⟨-, hhigh⟩ := (hin ..).mp hblock
    exact hwritten (by simp [enableFields]) (show _ < 2 by omega) _
  refine ite_eq_iff'.mpr ⟨fun _ => hwritten (by simp [enableFields]) Nat.one_pos _, fun _ => ?_⟩
  rw [if_neg hhint]
  refine ite_eq_iff'.mpr ⟨fun hblock => ?_, fun _ => ?_⟩
  · obtain ⟨-, hhigh⟩ := (hin ..).mp hblock
    exact hwritten (by simp [enableFields]) (show _ < 2 by omega) _
  refine ite_eq_iff'.mpr ⟨fun _ => hwritten (by simp [enableFields]) Nat.one_pos _, fun _ => ?_⟩
  refine ite_eq_iff'.mpr ⟨fun _ => ?_, fun _ => ?_⟩
  · exact Device.audioWritten_of_kept (hon (by simp [enableFields]) Nat.one_pos)
      (hon (by simp [enableFields]) Nat.one_pos) (hon (by simp [enableFields]) Nat.one_pos)
  refine ite_eq_iff'.mpr ⟨fun _ => hwritten (by simp [enableFields]) Nat.one_pos _, fun _ => ?_⟩
  refine ite_eq_iff'.mpr ⟨fun hblock => ?_, fun _ => ?_⟩
  · obtain ⟨-, hhigh⟩ := (hin ..).mp hblock
    exact hturned _ (hon (by simp [enableFields]) (show _ < 8 by omega))
  rw [if_neg hcyc, if_neg husb, if_neg hrwake]
  refine ite_eq_iff'.mpr ⟨fun hblock => ?_, fun _ => rfl⟩
  obtain ⟨-, hhigh⟩ := (hin ..).mp hblock
  exact hrose _ (hon (by simp [enableFields]) (show _ < 8 by omega))

/-! ### The rows of single registers -/

/-- Settles O33: each row writes its register's word. -/
theorem registerRowsAreWordWrites : Obligations.RegisterRowsAreWordWrites := by
  unfold Obligations.RegisterRowsAreWordWrites
  intro s v
  have hword {i : Instr} {a : Nat} (h4 : a % 4 = 0) (ha : a < 0x10000)
      (hrow : exec i s = s.devStep (fun d => d.busWrite a v.toNat)) :
      exec i s = exec (.registerWrite (BitVec.ofNat 32 a) v) s := hrow.trans (exec_registerWrite h4 ha v s).symm
  refine ⟨fun a i h => ?_, fun r => hword (by omega) (by omega) rfl, fun t => hword (by omega) (by omega) rfl,
    fun m => hword (by omega) (by omega) rfl,
    fun k => ⟨hword (by omega) (by omega) rfl, hword (by omega) (by omega) rfl, hword (by omega) (by omega) rfl⟩,
    fun f => hword (by omega) (by omega) rfl, fun p => hword (by omega) (by omega) rfl,
    fun c => ⟨hword (by omega) (by omega) rfl, hword (by omega) (by omega) rfl, hword (by omega) (by omega) rfl⟩⟩
  obtain ⟨ha, hrow⟩ : (a % 4 = 0 ∧ a < 0x10000) ∧ exec i s = s.devStep (fun d => d.busWrite a v.toNat) := by
    obtain ⟨rfl, rfl⟩ | ⟨rfl, rfl⟩ | ⟨rfl, rfl⟩ | ⟨rfl, rfl⟩ | ⟨rfl, rfl⟩ | ⟨rfl, rfl⟩ | ⟨rfl, rfl⟩ | ⟨rfl, rfl⟩
      | ⟨rfl, rfl⟩ | ⟨rfl, rfl⟩ | ⟨rfl, rfl⟩ | ⟨rfl, rfl⟩ | ⟨rfl, rfl⟩ | ⟨rfl, rfl⟩ | ⟨rfl, rfl⟩ | ⟨rfl, rfl⟩
      | ⟨rfl, rfl⟩ | ⟨rfl, rfl⟩ | ⟨rfl, rfl⟩ := h <;> exact ⟨by decide, rfl⟩
  exact hword ha.1 ha.2 hrow

/-! ### Unassigned addresses -/

/-- The address of a register carries its fields. -/
theorem fieldsAt_ne_nil {f : Field} (hf : f ∈ allFields) {i : Nat} (hi : i < f.count) (hstride : 0 < f.stride) :
    fieldsAt (f.addr i) ≠ [] := by
  have hindex : f.index? (f.addr i) = some i := by
    have hquot : (f.addr i - f.base) / f.stride = i := by
      rw [Field.addr, Nat.add_sub_cancel_left, Nat.mul_div_cancel_left _ hstride]
    have hbase : ¬ f.addr i < f.base := Nat.not_lt.mpr (Nat.le_add_right ..)
    simp only [Field.index?, hquot, hi, and_self, if_true, hbase, if_false]
  refine List.ne_nil_of_mem (a := (f, i)) ?_
  exact List.mem_filterMap.mpr ⟨f, hf, by rw [hindex]; rfl⟩

/-- The words with an effect of their own, beside those of the event, scruple and staging blocks, are registers. -/
theorem ownWords_assigned : [0x3000, 0x100, 0x3C, 0x404, 0x408, 0x608, 0x60C, 0x610, 0x614, 0xB084, 0xB088, 0xD000, 0xD100,
    0xD118].all (fun a => !(fieldsAt a).isEmpty) = true := by decide +kernel

/-- The blocks of words with an effect of their own: address of the first word, and number of words. -/
def ownBlocks : List (Nat × Nat) :=
  [(0x1000, 128), (0x1200, 16), (0x1244, 4), (0x1300, 32), (0xC400, 256), (0xC800, 256)]

/-- Each of these blocks is an array of registers. -/
theorem ownBlocks_assigned : ownBlocks.all (fun b =>
    allFields.any (fun f => f.base == b.1 && f.stride == 4 && f.count == b.2)) = true := by decide +kernel

/-- A word of these blocks carries fields. -/
theorem fieldsAt_ownBlock {a : Nat} (h4 : a % 4 = 0) {b : Nat × Nat} (hb : b ∈ ownBlocks) (hlow : b.1 ≤ a)
    (hhigh : a < b.1 + 4 * b.2) : fieldsAt a ≠ [] := by
  have hb4 : b.1 % 4 = 0 := by
    simp only [ownBlocks, List.mem_cons, List.not_mem_nil, or_false] at hb
    obtain rfl | rfl | rfl | rfl | rfl | rfl := hb <;> rfl
  have harray := List.all_eq_true.mp ownBlocks_assigned b hb
  rw [List.any_eq_true] at harray
  obtain ⟨f, hf, hfields⟩ := harray
  simp only [Bool.and_eq_true, beq_iff_eq] at hfields
  obtain ⟨⟨hbase, hstride⟩, hcount⟩ := hfields
  have haddr : f.addr ((a - b.1) / 4) = a := by rw [Field.addr, hstride, hbase]; omega
  rw [← haddr]
  exact fieldsAt_ne_nil hf (by omega) (by omega)

/-- An unassigned word has no effect of its own. -/
theorem ownEffect_of_unassigned {a : Nat} (h4 : a % 4 = 0) (h : fieldsAt a = []) : ownEffect a = false := by
  have hblock (b : Nat × Nat) (hb : b ∈ ownBlocks) : ¬ (b.1 ≤ a ∧ a < b.1 + 4 * b.2) :=
    fun ha => fieldsAt_ownBlock h4 hb ha.1 ha.2 h
  simp only [ownBlocks, List.forall_mem_cons, List.not_mem_nil, false_imp_iff, implies_true, and_true] at hblock
  by_contra hown
  simp only [ownEffect, List.any_cons, List.any_nil, Bool.or_false, Bool.not_eq_false, Bool.or_eq_true,
    List.contains_iff_mem, Bool.and_eq_true, decide_eq_true_eq] at hown
  rcases hown with hword | hrange
  · have hassigned := List.all_eq_true.mp ownWords_assigned a hword
    rw [h] at hassigned
    exact absurd hassigned (by decide)
  · omega

/-- The write of an unassigned word changes nothing. -/
theorem Device.writeFields_unassigned {a : Nat} (h : fieldsAt a = []) (d : Device) (data mask : Nat) :
    d.writeFields a data mask = d := by
  obtain ⟨hnone, htaken, -⟩ := d.writeFields_eq a data mask
  simp only [h, List.foldl_nil, List.any_nil, Bool.false_and, forall_const] at hnone htaken
  cases hg : d.guard a with
  | none => exact hnone hg
  | some g => exact htaken g hg

theorem Device.busWrite_unassigned {a : Nat} (h4 : a % 4 = 0) (h : fieldsAt a = []) (d : Device) (v : Nat) :
    d.busWrite a v = d := by
  cases hbus : d.busOff with
  | true => exact Device.busWrite_off hbus a v
  | false =>
    cases hhid : d.usbHidden a with
    | true => simp only [Device.busWrite, Device.writeReg, hhid, Bool.or_true, if_true]
    | false =>
      have hown := ownEffect_of_unassigned h4 h
      rw [Device.busWrite_eq hbus hhid (.inl hown), Device.writeFields_unassigned h]
      exact Device.afterWrite_of_kept (fun _ _ _ _ => rfl) hown v 0xFFFFFFFF

/-! ### Reads -/

/-- The latches once the words `bs` of a wide value are latched for requester `q`. -/
def latchWords (q : Requester) (word : Nat → Nat) (bs : List Nat) (ls : List Latch) : List Latch :=
  bs.foldl (fun ls b => ⟨q, b, word b⟩ :: ls.filter (fun l => !(l.req == q && l.addr == b))) ls

/-- A read of a window address changes the latches alone. -/
theorem Device.readWindow_latches (d : Device) (q : Requester) (a : Nat) :
    (d.readWindow q a).2 = { d with latches := latchWords q d.busWord (latchedBy a) d.latches } := by
  have hfold (bs : List Nat) (ls : List Latch) : bs.foldl (fun (d : Device) b =>
      { d with latches := ⟨q, b, d.busWord b⟩ :: d.latches.filter (fun l => !(l.req == q && l.addr == b)) })
        { d with latches := ls } = { d with latches := latchWords q d.busWord bs ls } := by
    induction bs generalizing ls with
    | nil => rfl
    | cons b t ih => exact ih _
  exact hfold (latchedBy a) d.latches

/-- The latch that a requester finds at an address. -/
def foundLatch (p : Requester) (a : Nat) (ls : List Latch) : Option Latch := ls.find? (fun l => l.req == p && l.addr == a)

/-- The latches of one word hide no latch of another requester or another word. -/
theorem foundLatch_cons_other {p q : Requester} {a b : Nat} (h : p ≠ q ∨ a ≠ b) (w : Nat) (ls : List Latch) :
    foundLatch p a (⟨q, b, w⟩ :: ls.filter (fun l => !(l.req == q && l.addr == b))) = foundLatch p a ls := by
  have hnew : (q == p && b == a) = false := by
    rcases h with h | h <;> simp [Ne.symm h]
  unfold foundLatch
  rw [List.find?_cons_of_neg (by simp [hnew]), List.find?_filter]
  refine congrArg (fun f => ls.find? f) (funext fun l => ?_)
  by_cases hl : l.req = p ∧ l.addr = a
  · obtain ⟨hreq, haddr⟩ := hl
    have hold : (p == q && a == b) = false := by rcases h with h | h <;> simp [h]
    simp [hreq, haddr, hold]
  · have hno : (l.req == p && l.addr == a) = false := by simpa using fun hreq haddr => hl ⟨hreq, haddr⟩
    rw [hno]
    simp

theorem foundLatch_latchWords_other {p q : Requester} (h : p ≠ q) (word : Nat → Nat) (bs : List Nat) (ls : List Latch)
    (a : Nat) : foundLatch p a (latchWords q word bs ls) = foundLatch p a ls := by
  induction bs generalizing ls with
  | nil => rfl
  | cons b t ih => exact (ih _).trans (foundLatch_cons_other (.inl h) ..)

/-- A word that is latched is found. -/
theorem foundLatch_latchWords {q : Requester} {word : Nat → Nat} {bs : List Nat} {a : Nat} (ls : List Latch)
    (h : a ∈ bs ∨ foundLatch q a ls = some ⟨q, a, word a⟩) :
    foundLatch q a (latchWords q word bs ls) = some ⟨q, a, word a⟩ := by
  induction bs generalizing ls with
  | nil => exact h.resolve_left (by simp)
  | cons b t ih =>
    refine ih _ ?_
    by_cases hab : a = b
    · subst hab
      right
      simp [foundLatch]
    · rw [foundLatch_cons_other (.inr hab)]
      exact h.imp (fun hmem => (List.mem_cons.mp hmem).resolve_left hab) id

theorem Device.peek_eq (d : Device) (q : Requester) (a : Nat) : d.peek q a = if d.usbHidden a then 0
    else match foundLatch q a d.latches with
      | some l => l.word
      | none => d.busWord a := rfl

/-- What a read shows and leaves unchanged. -/
theorem Device.lowWordRead_keeps (d : Device) (q : Requester) (a : Nat) (hbus : d.busOff = false) :
    (q, (d.readAt q a).1) ∈ (d.lowWordRead q a).busRead ∧ (d.lowWordRead q a).regs = d.regs
      ∧ (d.lowWordRead q a).mem = d.mem := by
  have hread : (d.readAt q a).2.regs = d.regs ∧ (d.readAt q a).2.mem = d.mem := by
    unfold Device.readAt
    split
    · rw [Device.readWindow_latches]
      exact ⟨rfl, rfl⟩
    · split
      · exact ⟨rfl, rfl⟩
      · split
        · exact ⟨rfl, rfl⟩
        · split <;> exact ⟨rfl, rfl⟩
  obtain ⟨hregs, hmem⟩ := hread
  rw [Device.lowWordRead, hbus, if_neg Bool.false_ne_true]
  exact ⟨List.mem_cons_self .., hregs, hmem⟩

/-- A read that goes on is that of a word of the map. -/
theorem exec_latchedLowWordRead_next {q : Requester} {a : BitVec 32} {s t : State}
    (h : exec (.latchedLowWordRead q a) s = .next t) : a.toNat % 4 = 0 ∧ t = { s with dev := s.dev.lowWordRead q a.toNat } := by
  have hcases := exec_latchedLowWordRead_cases q a s
  split at hcases
  · rw [hcases] at h
    cases h
  · next hmap =>
    rw [hcases] at h
    exact ⟨by_contra fun h4 => hmap (.inl h4), (Host.Outcome.next.inj h).symm⟩

theorem Device.readAt_window {a : Nat} (ha : a < 0x10000) (d : Device) (q : Requester) :
    d.readAt q a = d.readWindow q a := if_pos ha

theorem Device.busWord_unassigned {a : Nat} (h : fieldsAt a = []) (d : Device) : d.busWord a = 0 := by
  simp only [Device.busWord, h, List.foldl_nil]

theorem window_mapped {a : Nat} (ha : a < 0x10000) : mapped a = true := by simp [mapped, ha]

/-- Settles O31: no unassigned word has an effect of its own, and no field makes up its word. -/
theorem unassignedAddressesReadZero : Obligations.UnassignedAddressesReadZero := by
  unfold Obligations.UnassignedAddressesReadZero
  intro s a ha h4 hnone
  refine ⟨fun v => ?_, fun q t hbus hlatches hread => ?_⟩
  · have hwrite := exec_registerWrite h4 ha v s
    rw [BitVec.ofNat_toNat, BitVec.setWidth_eq] at hwrite
    rw [hwrite, State.devStep, Device.busWrite_unassigned h4 hnone]
  · obtain ⟨-, rfl⟩ := exec_latchedLowWordRead_next hread
    obtain ⟨hshown, hregs, -⟩ := s.dev.lowWordRead_keeps q a.toNat hbus
    have hfind : foundLatch q a.toNat s.dev.latches = none := by
      unfold foundLatch
      rw [List.find?_eq_none]
      intro l hl
      simp [hlatches l hl]
    have hpeek : s.dev.peek q a.toNat = 0 := by
      rw [Device.peek_eq, hfind]
      split
      · rfl
      · exact s.dev.busWord_unassigned hnone
    have hzero : (s.dev.readAt q a.toNat).1 = 0 := by
      rw [Device.readAt_window ha, Device.readWindow, hpeek, s.dev.busWord_unassigned hnone, ite_self]
    rw [hzero] at hshown
    exact ⟨hshown, hregs⟩

/-! ### Latched words -/

/-- No word that a low word latches latches others, or lies in the USB block. -/
theorem latchedBy_words {lo hi : Nat} (h : hi ∈ latchedBy lo) : latchedBy hi = [] ∧ (hi < 0xD100 ∨ 0xD200 ≤ hi) := by
  have haxis (ha : 0x4000 ≤ hi ∧ hi < 0x8000) (h1 : hi % 0x100 ≠ 0x08) (h2 : hi % 0x100 ≠ 0xD0) :
      latchedBy hi = [] ∧ (hi < 0xD100 ∨ 0xD200 ≤ hi) := by
    simp only [latchedBy, ha, h1, h2, and_self, if_true, if_false, true_and]
    omega
  have hbushel : ∀ n < 40, ∀ x ∈ [Reg.BSH_SUM_H.SUM.addr n, Reg.BSH_CNT.COUNT.addr n, Reg.SPN_MIN.MIN.addr n,
      Reg.SPN_MAX.MAX.addr n], latchedBy x = [] ∧ (x < 0xD100 ∨ 0xD200 ≤ x) := by decide
  unfold latchedBy at h
  dsimp only at h
  split at h
  · split at h
    · simp only [List.mem_cons, List.not_mem_nil, or_false] at h
      exact haxis (by omega) (by omega) (by omega)
    · split at h
      · simp only [List.mem_cons, List.not_mem_nil, or_false] at h
        exact haxis (by omega) (by omega) (by omega)
      · cases h
  · iterate 6
      split at h
      · next hlo => subst hlo; rw [List.mem_singleton] at h; subst h; decide
    split at h
    · next n hn =>
      refine hbushel n ?_ hi h
      unfold Field.index? at hn
      split at hn
      · cases hn
      · dsimp only at hn
        split at hn
        · next hcount =>
          rw [← Option.some.inj hn]
          exact hcount.2
        · cases hn
    · cases h

/-- Settles O32. -/
theorem lowWordReadsLatchTheHighWord : Obligations.LowWordReadsLatchTheHighWord := by
  unfold Obligations.LowWordReadsLatchTheHighWord
  intro s q hbus
  refine ⟨fun a h4 hmapped => ?_, fun lo hi t u v d hlo hhi h4 hmem hread hlatches hbus' hu hread' => ?_,
    fun lo t p a hlo h4 hpq hread => ?_⟩
  · have hcases := exec_latchedLowWordRead_cases q a s
    rw [if_neg (by simp [h4, hmapped])] at hcases
    obtain ⟨hshown, hregs, hmem⟩ := s.dev.lowWordRead_keeps q a.toNat hbus
    exact ⟨_, hcases, hshown, hregs, hmem, rfl, rfl⟩
  · obtain ⟨-, rfl⟩ := exec_latchedLowWordRead_next hread
    subst hu
    obtain ⟨-, rfl⟩ := exec_latchedLowWordRead_next hread'
    obtain ⟨hnone, hbelow⟩ := latchedBy_words hmem
    obtain ⟨hshown, -, -⟩ := s.dev.lowWordRead_keeps q lo.toNat hbus
    obtain ⟨hshown', -, -⟩ := d.lowWordRead_keeps q hi.toNat hbus'
    have hlow : (s.dev.readAt q lo.toNat).1 = s.dev.busWord lo.toNat := by
      have hsome : (latchedBy lo.toNat).isEmpty = false := by
        rw [List.isEmpty_eq_false_iff]
        exact List.ne_nil_of_mem hmem
      rw [Device.readAt_window hlo, Device.readWindow, hsome, if_neg Bool.false_ne_true]
    have hfound : foundLatch q hi.toNat d.latches = some ⟨q, hi.toNat, s.dev.busWord hi.toNat⟩ := by
      have hafter : (s.dev.lowWordRead q lo.toNat).latches
          = latchWords q s.dev.busWord (latchedBy lo.toNat) s.dev.latches := by
        rw [Device.lowWordRead, hbus, if_neg Bool.false_ne_true, Device.readAt_window hlo, Device.readWindow_latches]
        rfl
      rw [hlatches, hafter]
      exact foundLatch_latchWords _ (.inl hmem)
    have hhigh : (d.readAt q hi.toNat).1 = s.dev.busWord hi.toNat := by
      rw [Device.readAt_window hhi, Device.readWindow, hnone]
      simp only [List.isEmpty_nil, if_true, Device.peek_eq, d.usbHidden_outside hbelow, Bool.false_eq_true, if_false, hfound]
    rw [hlow] at hshown
    rw [hhigh] at hshown'
    exact ⟨hshown, hshown'⟩
  · obtain ⟨-, rfl⟩ := exec_latchedLowWordRead_next hread
    rw [Device.lowWordRead, hbus, if_neg Bool.false_ne_true, Device.readAt_window hlo, Device.readWindow_latches]
    simp only [Device.peek_eq]
    have hfind := foundLatch_latchWords_other hpq s.dev.busWord (latchedBy lo.toNat) s.dev.latches a
    simp only [Device.showRead, hfind]
    rfl

end Sys2Proof.Machine
end

section
/-! PROOFS. What follows a register write, address by address, and which words it reaches (R6, R300, R326, R629). -/
namespace Sys2Proof.Machine

/-! ### What follows a write, by its address -/

/-- The words and blocks whose write something may follow. -/
def followedWords : List Nat := [0x404, 0x408, 0x608, 0x60C, 0x9000, 0xB080, 0xB084, 0xB088, 0xB100, 0xB200, 0xB400, 0xD000,
  0xD100, 0xD118]

def followedBlocks : List (Nat × Nat) := [(0x300, 0x380), (0x1200, 0x1240), (0x1244, 0x1254), (0x2000, 0x3000),
  (0x8000, 0x9000), (0xA500, 0xA5C0), (0xB000, 0xB080), (0xB0A0, 0xB0C0), (0xB500, 0xB600), (0xD120, 0xD140)]

/-- Nothing follows a write elsewhere. -/
theorem Device.afterWrite_elsewhere {a : Nat} (hword : a ∉ followedWords)
    (hblock : ∀ b ∈ followedBlocks, ¬ (b.1 ≤ a ∧ a < b.2)) (w d : Device) (own : Bool) (data mask : Nat) :
    w.afterWrite d own a data mask = w := by
  simp only [followedWords, List.mem_cons, List.not_mem_nil, or_false, not_or] at hword
  simp only [followedBlocks, List.forall_mem_cons, List.not_mem_nil, false_imp_iff, implies_true, and_true] at hblock
  unfold Device.afterWrite
  extract_lets m within port ring tile converter fan cam corner car slot
  have hout {lo hi : Nat} (h : ¬ (lo ≤ a ∧ a < hi)) : ¬ within lo hi = true := by
    simpa only [within, Bool.and_eq_true, decide_eq_true_eq] using h
  obtain ⟨h404, h408, h608, h60C, h9000, hB080, hB084, hB088, hB100, hB200, hB400, hD000, hD100, hD118⟩ := hword
  obtain ⟨hport, hlat, hint, hring, hlink, hfan, hcam, hcorner, hcar, hslot⟩ := hblock
  rw [if_neg h404, if_neg h408, if_neg (hout hport), if_neg (by omega), if_neg (not_or.mpr ⟨hout hlat, hout hint⟩),
    if_neg (hout hring), if_neg (hout hlink), if_neg h9000, if_neg (hout hfan), if_neg (hout hcam), if_neg hB080,
    if_neg (by omega), if_neg (hout hcorner), if_neg hB100, if_neg hB200, if_neg hB400, if_neg (hout hcar), if_neg hD000,
    if_neg hD100, if_neg hD118, if_neg (hout hslot)]

/-- The balls follow GPIO_OUT. -/
theorem Device.afterWrite_gpio {a : Nat} (h : a = 0x608 ∨ a = 0x60C) (w d : Device) (own : Bool) (data mask : Nat) :
    w.afterWrite d own a data mask = w.driveGpio := by
  unfold Device.afterWrite
  extract_lets m within port ring tile converter fan cam corner car slot
  have hport : ¬ within 0x300 0x380 = true := by
    simp only [within, Bool.and_eq_true, decide_eq_true_eq]
    omega
  rw [if_neg (by omega), if_neg (by omega), if_neg hport, if_pos h]

/-- The sums and the interrupts follow the event latches and the interrupt lines. -/
theorem Device.afterWrite_events {a : Nat} (h : 0x1200 ≤ a ∧ a < 0x1240 ∨ 0x1244 ≤ a ∧ a < 0x1254) (w d : Device)
    (own : Bool) (data mask : Nat) : w.afterWrite d own a data mask = w.refreshSum.refreshInts := by
  unfold Device.afterWrite
  extract_lets m within port ring tile converter fan cam corner car slot
  have hin (lo hi : Nat) : within lo hi = true ↔ lo ≤ a ∧ a < hi := by
    simp only [within, Bool.and_eq_true, decide_eq_true_eq]
  rw [if_neg (by omega), if_neg (by omega), if_neg (by rw [hin]; omega), if_neg (by omega), if_pos (by simpa only [hin] using h)]

/-! ### Which words are taken by their fields -/

/-- A word that is no WO action, no routing byte, scruple or direction and no held staging area is taken by its fields. -/
theorem Device.writeReg_eq {d : Device} {a : Nat} (hbus : d.busOff = false) (hhid : d.usbHidden a = false)
    (hword : a ∉ [0x3000, 0x100, 0x3C, 0x610, 0x614]) (hroute : ¬ (0x1000 ≤ a ∧ a < 0x1200))
    (hscruple : ¬ (0x1300 ≤ a ∧ a < 0x1380))
    (hstage : ¬ (0xC400 ≤ a ∧ a < 0xCC00 ∧ d.stageLocked ((a - 0xC400) / 0x400) = true)) (own : Bool) (data mask : Nat) :
    d.writeReg own a data mask = (d.writeFields a data mask).afterWrite d own a data mask := by
  simp only [List.mem_cons, List.not_mem_nil, or_false, not_or] at hword
  obtain ⟨hdoorbell, hupdate, harb, hoeLow, hoeHigh⟩ := hword
  unfold Device.writeReg
  rw [hbus, hhid, if_neg (by simp), if_neg hdoorbell, if_neg hupdate, if_neg harb, if_neg hroute, if_neg hscruple,
    if_neg hoeLow, if_neg hoeHigh, if_neg hstage]

/-- A row that writes a word of the window, or the alias of one of its bits, writes the bits of its mask. -/
theorem exec_wordOrAlias {s : State} {v : Word} {a : BitVec 32} {i : Instr} {t data mask : Nat} (h4 : a.toNat % 4 = 0)
    (h : (a.toNat < 0x10000 ∧ i = .registerWrite a v ∧ t = a.toNat ∧ data = v.toNat ∧ mask = 0xFFFFFFFF)
      ∨ (0x100000 ≤ a.toNat ∧ a.toNat < 0x300000 ∧ (i = .bitAliasWrite a v ∨ i = .registerWrite a v)
          ∧ t = (a.toNat - 0x100000) / 128 * 4 ∧ data = v.toNat % 2 * 2 ^ ((a.toNat - 0x100000) / 4 % 32)
          ∧ mask = 2 ^ ((a.toNat - 0x100000) / 4 % 32))) :
    exec i s = s.gives (s.dev.writeReg false t data mask) := by
  have hwrite := exec_registerWrite_cases a v s
  have halias := exec_bitAliasWrite_cases a v s
  obtain ⟨ha, rfl, rfl, rfl, rfl⟩ | ⟨hlow, hhigh, hrow, rfl, rfl, rfl⟩ := h
  · rw [if_neg (by simp [h4, mapped, ha]), Device.writeAt, if_pos ha] at hwrite
    exact hwrite
  · have hin : inAlias a.toNat = true := by simp [inAlias, hlow, hhigh]
    have hat : s.dev.writeAt false a.toNat v.toNat = s.dev.writeReg false ((a.toNat - 0x100000) / 128 * 4)
        (v.toNat % 2 * 2 ^ ((a.toNat - 0x100000) / 4 % 32)) (2 ^ ((a.toNat - 0x100000) / 4 % 32)) := by
      rw [Device.writeAt, if_neg (by omega), if_pos hin]
      rfl
    rcases hrow with rfl | rfl
    · rw [if_neg (by omega), hat] at halias
      exact halias
    · rw [if_neg (by simp [h4, mapped]; omega), hat] at hwrite
      exact hwrite

/-- Words with an effect of their own that the fields do not take, or that a staging area may hold back. -/
theorem Device.writeReg_of_noOwnEffect {d : Device} {a : Nat} (hbus : d.busOff = false) (hhid : d.usbHidden a = false)
    (hown : ownEffect a = false) (data mask : Nat) :
    d.writeReg false a data mask = (d.writeFields a data mask).afterWrite d false a data mask := by
  simp [ownEffect] at hown
  exact Device.writeReg_eq hbus hhid (by simp; omega) (by omega) (by omega) (by omega) false data mask

/-- A write of a routing word or a scruple goes to the routing or the class. -/
theorem Device.writeReg_route {d : Device} {a : Nat} (hbus : d.busOff = false) (hlow : 0x1000 ≤ a) (hhigh : a < 0x1200)
    (own : Bool) (data mask : Nat) : d.writeReg own a data mask = d.writeRoute ((a - 0x1000) / 4) data mask := by
  unfold Device.writeReg
  rw [hbus, d.usbHidden_outside (.inl (by omega)), if_neg (by simp), if_neg (by omega), if_neg (by omega),
    if_neg (by omega), if_pos ⟨hlow, hhigh⟩]

theorem Device.writeReg_scruple {d : Device} {a : Nat} (hbus : d.busOff = false) (hlow : 0x1300 ≤ a) (hhigh : a < 0x1380)
    (own : Bool) (data mask : Nat) : d.writeReg own a data mask = d.writeScruple ((a - 0x1300) / 4) data mask := by
  unfold Device.writeReg
  rw [hbus, d.usbHidden_outside (.inl (by omega)), if_neg (by simp), if_neg (by omega), if_neg (by omega),
    if_neg (by omega), if_neg (by omega), if_pos ⟨hlow, hhigh⟩]

/-- A staging area takes a write where no IMG_WRITE holds it. -/
theorem Device.writeReg_stage {d : Device} {a : Nat} (hbus : d.busOff = false) (hlow : 0xC400 ≤ a) (hhigh : a < 0xCC00)
    (own : Bool) (data mask : Nat) : d.writeReg own a data mask =
      if d.stageLocked ((a - 0xC400) / 0x400) then d.imgEvt 7 else d.writeFields a data mask := by
  have hhid : d.usbHidden a = false := d.usbHidden_outside (.inl (by omega))
  split
  · next hlocked =>
    unfold Device.writeReg
    rw [hbus, hhid, if_neg (by simp), if_neg (by omega), if_neg (by omega), if_neg (by omega), if_neg (by omega),
      if_neg (by omega), if_neg (by omega), if_neg (by omega), if_pos ⟨hlow, hhigh, hlocked⟩]
  · next hfree =>
    rw [Device.writeReg_eq hbus hhid (by simp; omega) (by omega) (by omega) (by tauto)]
    refine Device.afterWrite_elsewhere (by simp [followedWords]; omega) ?_ _ _ own data mask
    simp only [followedBlocks, List.forall_mem_cons, List.not_mem_nil, false_imp_iff, implies_true, and_true]
    omega

/-- A write in the SRAM window while a requester reaches the bus is a write of the host. -/
theorem Device.writeAt_sram {d : Device} {a : Nat} (hbus : d.busOff = false) (h : inSram a = true) (v : Nat) :
    d.writeAt false a v = d.hostWrite a (leBytes 4 v) := by
  have hrange : 0x10000000 ≤ a := by simp [inSram] at h; omega
  have hwindow : inAlias a = false := by simp [inAlias]; omega
  unfold Device.writeAt
  rw [if_neg (by omega), hwindow, if_neg Bool.false_ne_true, if_pos h, hbus, if_neg Bool.false_ne_true]

/-- A write in no other region has no effect. -/
theorem Device.writeAt_elsewhere {a : Nat} (hwindow : 0x10000 ≤ a) (halias : inAlias a = false) (hsram : inSram a = false)
    (d : Device) (v : Nat) : d.writeAt false a v = d := by
  unfold Device.writeAt
  rw [if_neg (by omega), halias, hsram, if_neg Bool.false_ne_true, if_neg Bool.false_ne_true]

/-- Settles O30: a word of the window, or an alias of one of its bits, is written under its mask. -/
theorem writesReachTheirRegister : Obligations.WritesReachTheirRegister := by
  unfold Obligations.WritesReachTheirRegister
  intro s v hbus d
  have hregion (a : BitVec 32) (h4 : a.toNat % 4 = 0) (hmapped : mapped a.toNat = true) :
      exec (.registerWrite a v) s = s.gives (d.writeAt false a.toNat v.toNat) := by
    have hwrite := exec_registerWrite_cases a v s
    rw [if_neg (by simp [h4, hmapped])] at hwrite
    exact hwrite
  refine ⟨fun a i t data mask h4 hrow hhid => ?_, fun a h4 hhid => ?_, fun a h4 hsram => ?_, fun a h4 hmram => ?_,
    fun a h4 hlow hhigh => ?_⟩
  · have hexec := exec_wordOrAlias (s := s) h4 hrow
    intro w
    have hfields (hword : t ∉ [0x3000, 0x100, 0x3C, 0x610, 0x614]) (hroute : ¬ (0x1000 ≤ t ∧ t < 0x1200))
        (hscruple : ¬ (0x1300 ≤ t ∧ t < 0x1380)) (hstage : ¬ (0xC400 ≤ t ∧ t < 0xCC00)) :
        exec i s = s.gives (w.afterWrite d false t data mask) := by
      rw [hexec, Device.writeReg_eq hbus hhid hword hroute hscruple (by tauto)]
    refine ⟨fun hown hkept => ?_, fun ht => ?_, fun ht => ?_, fun ht => ?_, fun ht => ?_, fun hlow hhigh => ?_,
      fun hlow hhigh => ?_, fun hlow hhigh => ?_⟩
    · rw [hexec, Device.writeReg_of_noOwnEffect hbus hhid hown]
      exact congrArg s.gives (Device.afterWrite_of_kept hkept hown data mask)
    · rw [hfields (by simp [ht]) (by omega) (by omega) (by omega), ht]
      rfl
    · rw [hfields (by simp; omega) (by omega) (by omega) (by omega)]
      rw [Device.afterWrite_gpio ht]
    · rw [hfields (by simp [ht]) (by omega) (by omega) (by omega), ht]
      rfl
    · rw [hfields (by simp; omega) (by omega) (by omega) (by omega), Device.afterWrite_events ht]
    · rw [hexec, Device.writeReg_route hbus hlow hhigh]
    · rw [hexec, Device.writeReg_scruple hbus hlow hhigh]
      rfl
    · rw [hexec, Device.writeReg_stage hbus hlow hhigh]
  · have hrange : 0xD100 ≤ a.toNat ∧ a.toNat < 0xD200 := by
      simp only [Device.usbHidden, Bool.and_eq_true, decide_eq_true_eq] at hhid
      exact hhid.1
    rw [hregion a h4 (window_mapped (by omega)), Device.writeAt_window (by omega), Device.busWrite, Device.writeReg, hhid,
      Bool.or_true, if_pos rfl]
    rfl
  · rw [hregion a h4 (by simp [mapped, hsram]), Device.writeAt_sram hbus hsram]
  · have hrange : 0x20000000 ≤ a.toNat := by simp [inMram] at hmram; omega
    rw [hregion a h4 (by simp [mapped, hmram]), Device.writeAt_elsewhere (by omega) (by simp [inAlias]; omega)
      (by simp [inSram]; omega)]
    rfl
  · have hnone := Device.writeAt_elsewhere (a := a.toNat) (by omega) (by simp [inAlias]; omega) (by simp [inSram]; omega)
      d v.toNat
    have halias := exec_bitAliasWrite_cases a v s
    rw [if_neg (by omega), hnone] at halias
    rw [hregion a h4 (by simp [mapped]; omega), hnone]
    exact ⟨rfl, halias⟩

end Sys2Proof.Machine
end

section
/-! PROOFS. The rows of single registers: rings, hints, wake reasons, directions, and the enables of the blocks (R209,
R268 to R297, R313, R353, R368, R402 to R468, R488, R531, R591). -/
namespace Sys2Proof.Machine

/-! ### What follows the write of an indexed register -/

theorem Device.afterWrite_port (w d : Device) {p : Nat} (hp : p < 4) (own : Bool) (data mask : Nat) :
    w.afterWrite d own (0x300 + 0x20 * p) data mask = if rose d w Reg.SPM_CTRL.EN p then w.portWritten p else w := by
  unfold Device.afterWrite
  extract_lets m within port ring tile converter fan cam corner car slot
  have hindex : port = p := show (0x300 + 0x20 * p - 0x300) / 0x20 = p by omega
  have hin (lo hi : Nat) : within lo hi = true ↔ lo ≤ 0x300 + 0x20 * p ∧ 0x300 + 0x20 * p < hi := by
    simp only [within, Bool.and_eq_true, decide_eq_true_eq]
  simp (disch := omega) only [hin, if_neg, if_pos, hindex]

theorem Device.afterWrite_ring (w d : Device) {r : Nat} (hr : r < 256) (own : Bool) (data mask : Nat) :
    w.afterWrite d own (0x2004 + 0x10 * r) data mask = if rose d w Reg.RING_CFG.EN r then w.enableRing r else w := by
  unfold Device.afterWrite
  extract_lets m within port ring tile converter fan cam corner car slot
  have hindex : ring = r := show (0x2004 + 0x10 * r - 0x2000) / 0x10 = r by omega
  have hin (lo hi : Nat) : within lo hi = true ↔ lo ≤ 0x2004 + 0x10 * r ∧ 0x2004 + 0x10 * r < hi := by
    simp only [within, Bool.and_eq_true, decide_eq_true_eq]
  simp (disch := omega) only [hin, if_neg, if_pos, hindex]

theorem Device.afterWrite_link (w d : Device) {t : Nat} (ht : t < 16) (own : Bool) (data mask : Nat) :
    w.afterWrite d own (0x8000 + 0x100 * t) data mask = w.enableWritten d Reg.TL_CTRL.EN t (fun _ d => d.linkWritten t) := by
  unfold Device.afterWrite
  extract_lets m within port ring tile converter fan cam corner car slot
  have hindex : tile = t := show (0x8000 + 0x100 * t - 0x8000) / 0x100 = t by omega
  have hin (lo hi : Nat) : within lo hi = true ↔ lo ≤ 0x8000 + 0x100 * t ∧ 0x8000 + 0x100 * t < hi := by
    simp only [within, Bool.and_eq_true, decide_eq_true_eq]
  simp (disch := omega) only [hin, if_neg, if_pos, hindex]

theorem Device.afterWrite_fan (w d : Device) {f : Nat} (hf : f < 6) (own : Bool) (data mask : Nat) :
    w.afterWrite d own (0xA500 + 0x20 * f) data mask = if turned d w Reg.FAN_CTRL.EN f then w.fanEnabled f (w.on Reg.FAN_CTRL.EN f) else w := by
  unfold Device.afterWrite
  extract_lets m within port ring tile converter fan cam corner car slot
  have hindex : fan = f := show (0xA500 + 0x20 * f - 0xA500) / 0x20 = f by omega
  have hin (lo hi : Nat) : within lo hi = true ↔ lo ≤ 0xA500 + 0x20 * f ∧ 0xA500 + 0x20 * f < hi := by
    simp only [within, Bool.and_eq_true, decide_eq_true_eq]
  simp (disch := omega) only [hin, if_neg, if_pos, hindex]

theorem Device.afterWrite_cam (w d : Device) {c : Nat} (hc : c < 2) (own : Bool) (data mask : Nat) :
    w.afterWrite d own (0xB000 + 0x40 * c) data mask = w.enableWritten d Reg.CAM_CTRL.EN c (fun on d => d.camWritten c on) := by
  unfold Device.afterWrite
  extract_lets m within port ring tile converter fan cam corner car slot
  have hindex : cam = c := show (0xB000 + 0x40 * c - 0xB000) / 0x40 = c by omega
  have hin (lo hi : Nat) : within lo hi = true ↔ lo ≤ 0xB000 + 0x40 * c ∧ 0xB000 + 0x40 * c < hi := by
    simp only [within, Bool.and_eq_true, decide_eq_true_eq]
  simp (disch := omega) only [hin, if_neg, if_pos, hindex]

theorem Device.afterWrite_corner (w d : Device) {k : Nat} (hk : k < 2) (own : Bool) (data mask : Nat) :
    w.afterWrite d own (0xB0A0 + 0x10 * k) data mask = w.enableWritten d Reg.CD_CFG.EN k (fun on d => d.cdWritten k on) := by
  unfold Device.afterWrite
  extract_lets m within port ring tile converter fan cam corner car slot
  have hindex : corner = k := show (0xB0A0 + 0x10 * k - 0xB0A0) / 0x10 = k by omega
  have hin (lo hi : Nat) : within lo hi = true ↔ lo ≤ 0xB0A0 + 0x10 * k ∧ 0xB0A0 + 0x10 * k < hi := by
    simp only [within, Bool.and_eq_true, decide_eq_true_eq]
  simp (disch := omega) only [hin, if_neg, if_pos, hindex]

theorem Device.afterWrite_car (w d : Device) {c : Nat} (hc : c < 8) (own : Bool) (data mask : Nat) :
    w.afterWrite d own (0xB500 + 0x20 * c) data mask = if turned d w Reg.ADV_CFG.EN c then w.advWritten c (w.on Reg.ADV_CFG.EN c) else w := by
  unfold Device.afterWrite
  extract_lets m within port ring tile converter fan cam corner car slot
  have hindex : car = c := show (0xB500 + 0x20 * c - 0xB500) / 0x20 = c by omega
  have hin (lo hi : Nat) : within lo hi = true ↔ lo ≤ 0xB500 + 0x20 * c ∧ 0xB500 + 0x20 * c < hi := by
    simp only [within, Bool.and_eq_true, decide_eq_true_eq]
  simp (disch := omega) only [hin, if_neg, if_pos, hindex]

theorem Device.afterWrite_slot (w d : Device) {k : Nat} (hk : k < 8) (own : Bool) (data mask : Nat) :
    w.afterWrite d own (0xD120 + 4 * k) data mask = if rose d w Reg.USB_STRM.SEN k then w.streamWritten k else w := by
  unfold Device.afterWrite
  extract_lets m within port ring tile converter fan cam corner car slot
  have hindex : slot = k := show (0xD120 + 4 * k - 0xD120) / 4 = k by omega
  have hin (lo hi : Nat) : within lo hi = true ↔ lo ≤ 0xD120 + 4 * k ∧ 0xD120 + 4 * k < hi := by
    simp only [within, Bool.and_eq_true, decide_eq_true_eq]
  simp (disch := omega) only [hin, if_neg, if_pos, hindex]

theorem Device.afterWrite_hint (w d : Device) {c : Nat} (hc : c < 2) (own : Bool) (data mask : Nat) :
    w.afterWrite d own (0xB084 + 4 * c) data mask = w.hintWritten c := by
  unfold Device.afterWrite
  extract_lets m within port ring tile converter fan cam corner car slot
  have hindex : (0xB084 + 4 * c - 0xB084) / 4 = c := by omega
  have hin (lo hi : Nat) : within lo hi = true ↔ lo ≤ 0xB084 + 4 * c ∧ 0xB084 + 4 * c < hi := by
    simp only [within, Bool.and_eq_true, decide_eq_true_eq]
  simp (disch := omega) only [hin, if_neg, if_pos, hindex]

/-! ### Rows of registers that the fields take -/

/-- A row that writes the word `a`, which the fields take: what follows the write follows. -/
theorem exec_word {s : State} {i : Instr} {a v : Nat} {d : Device} (hrow : exec i s = s.devStep (fun d => d.busWrite a v))
    (hbus : s.dev.busOff = false) (hhid : s.dev.usbHidden a = false)
    (htaken : ownEffect a = false ∨ a ∈ [0x404, 0x408, 0x608, 0x60C, 0xB084, 0xB088, 0xD000, 0xD100, 0xD118]
      ∨ (0x1200 ≤ a ∧ a < 0x1254))
    (hafter : (s.dev.writeFields a v 0xFFFFFFFF).afterWrite s.dev false a v 0xFFFFFFFF = d) : exec i s = s.gives d := by
  rw [hrow, State.devStep, Device.busWrite_eq hbus hhid htaken, hafter, State.gives]

/-- The mask of a whole word leaves a word as it is. -/
theorem word_and_mask (v : Word) : v.toNat &&& 0xFFFFFFFF = v.toNat := by
  have hmask : (0xFFFFFFFF : Nat) = 2 ^ 32 - 1 := by norm_num
  rw [hmask, Nat.and_two_pow_sub_one_eq_mod, Nat.mod_eq_of_lt v.isLt]

theorem bitOf_word (v : Word) (k : Nat) : bitOf v.toNat k = v.getLsbD k := rfl

/-- Settles O36: each row's write is followed by that of an enable. -/
theorem blockEnablesAct : Obligations.BlockEnablesAct := by
  unfold Obligations.BlockEnablesAct
  intro s v t c hbus i f k act hrow w
  have hexec : exec i s = s.gives (w.enableWritten s.dev f k act) := by
    obtain ⟨rfl, rfl, rfl, rfl⟩ | ⟨rfl, rfl, rfl, rfl⟩ | ⟨rfl, rfl, rfl, rfl⟩ | ⟨rfl, rfl, rfl, rfl⟩ | ⟨rfl, rfl, rfl, rfl⟩
      | ⟨rfl, rfl, rfl, rfl⟩ := hrow
    · exact exec_word (a := 0x8000 + 0x100 * t) rfl hbus (s.dev.usbHidden_outside (by omega)) (.inl (by simp [ownEffect]; omega))
        (Device.afterWrite_link _ _ t.isLt ..)
    · exact exec_word (a := 0xB000 + 0x40 * c) rfl hbus (s.dev.usbHidden_outside (by omega)) (.inl (by simp [ownEffect]; omega))
        (Device.afterWrite_cam _ _ c.isLt ..)
    · exact exec_word (a := 0xB080) rfl hbus (s.dev.usbHidden_outside (by omega)) (.inl (by decide)) rfl
    · exact exec_word (a := 0xB0A0 + 0x10 * c) rfl hbus (s.dev.usbHidden_outside (by omega)) (.inl (by simp [ownEffect]; omega))
        (Device.afterWrite_corner _ _ c.isLt ..)
    · exact exec_word (a := 0xB100) rfl hbus (s.dev.usbHidden_outside (by omega)) (.inl (by decide)) rfl
    · exact exec_word (a := 0xB400) rfl hbus (s.dev.usbHidden_outside (by omega)) (.inl (by decide)) rfl
  obtain ⟨hkept, hrestricted, hset, hcleared⟩ := Device.enableWritten_cases w s.dev f k act
  exact ⟨fun h => by rw [hexec, hkept h], fun h0 h1 hr => by rw [hexec, hrestricted h0 h1 hr],
    fun h0 h1 hr => by rw [hexec, hset h0 h1 hr], fun h0 h1 => by rw [hexec, hcleared h0 h1]⟩

/-! ### Rings, hints, wake reasons and directions -/

/-- A row whose write finds no requester on the bus has no effect. -/
theorem exec_busOff {s : State} {i : Instr} {a v : Nat} (hrow : exec i s = s.devStep (fun d => d.busWrite a v))
    (hbus : s.dev.busOff = true) : exec i s = .next s := by
  rw [hrow, State.devStep, Device.busWrite_off hbus]

/-- A field at the low end of a word takes of a whole word what it can hold. -/
theorem Field.merged_word {f : Field} {old : Nat} (hlsb : f.lsb = 0) (hwidth : f.width = 32 ∨ f.width = 16)
    (hold : old < 2 ^ f.width) (v : Nat) : f.merged old v 0xFFFFFFFF = v % 2 ^ f.width := by
  have hmask : bitsOf 0xFFFFFFFF 0 f.width = 2 ^ f.width - 1 := by
    rcases hwidth with h | h <;> rw [h] <;> decide
  rw [Field.merged, merge, hlsb, hmask, Nat.and_two_pow_sub_one_eq_mod, Nat.and_two_pow_sub_one_eq_mod,
    Nat.mod_eq_of_lt hold, Nat.sub_self, Nat.zero_or, bitsOf, Nat.shiftRight_zero, Nat.mod_mod]

/-- A direction register takes a whole word but for the bits of mapped balls. -/
theorem Device.writeOe_word (d : Device) (high : Bool) (v : Nat) :
    let f := if high then Reg.GPIO_OE_H.OE else Reg.GPIO_OE_L.OE
    let clash := (bitsBelow (v % 2 ^ f.width) f.width).filter (fun k => !bitOf (d.rd f) k
      && (List.range 64).any (fun n => d.stepMaps n ((if high then 32 else 0) + k)
        || d.homeMaps n ((if high then 32 else 0) + k)))
    d.rd f < 2 ^ f.width → d.writeOe high v 0xFFFFFFFF =
      if clash = [] then (d.wr f 0 (clash.foldl clrBitOf (v % 2 ^ f.width))).driveGpio
      else (d.wr f 0 (clash.foldl clrBitOf (v % 2 ^ f.width))).driveGpio.wr Reg.PAD_STAT.GPIO_CONFLICT 0 1 := by
  intro f clash hfits
  have hmerged : f.merged (d.rd f) v 0xFFFFFFFF = v % 2 ^ f.width :=
    Field.merged_word (by cases high <;> rfl) (by cases high <;> simp [f, Reg.GPIO_OE_L.OE, Reg.GPIO_OE_H.OE]) hfits v
  simp only [f] at hmerged
  simp only [Device.writeOe, hmerged, List.isEmpty_iff, clash, f]

theorem Device.busWrite_oe {d : Device} (hbus : d.busOff = false) (high : Bool) (v : Nat) :
    d.busWrite (if high then Reg.GPIO_OE_H.OE.addr 0 else Reg.GPIO_OE_L.OE.addr 0) v = d.writeOe high v 0xFFFFFFFF := by
  cases high <;> simp only [Device.busWrite, Device.writeReg, hbus, Bool.false_eq_true, if_false, if_true] <;> rfl

/-- EN of a ring that is set: the conditions of Table 7.1 (R209, R272). -/
theorem Device.enableRing_cases (w : Device) (r : Nat) :
    ((r = 2 ∨ r = 3) ∧ w.usbPresent = false → w.enableRing r = w.wr Reg.RING_CFG.EN r 0)
    ∧ (¬ ((r = 2 ∨ r = 3) ∧ w.usbPresent = false) → w.ringFit r = true →
        w.enableRing r = (w.wr Reg.RING_PI.PI r 0).wr Reg.RING_CI.CI r 0)
    ∧ (¬ ((r = 2 ∨ r = 3) ∧ w.usbPresent = false) → w.ringFit r = false →
        w.enableRing r = ((w.wr Reg.RING_CFG.EN r 0).wr Reg.RING_CFG.CFG_REJECT r 1).mbEvt 5) := by
  unfold Device.enableRing
  simp only [Bool.not_eq_true']
  refine ⟨fun h => if_pos h, fun h hfit => ?_, fun h hfit => ?_⟩
  · rw [if_neg h, if_pos hfit]
  · rw [if_neg h, hfit, if_neg Bool.false_ne_true]

theorem rose_eq_true {d w : Device} {f : Field} {i : Nat} (h0 : d.on f i = false) (h1 : w.on f i = true) :
    rose d w f i = true := by
  simp only [rose, h0, h1, Bool.not_false, Bool.and_self]

theorem rose_eq_false {d w : Device} {f : Field} {i : Nat} (h : d.on f i = true ∨ w.on f i = false) :
    rose d w f i = false := by
  rcases h with h | h <;> simp only [rose, h, Bool.not_true, Bool.false_and, Bool.and_false]

/-- What follows the write of a plain register of the system, checker or encoder blocks. -/
theorem exec_plainWord {s : State} {i : Instr} {a v : Nat} (hrow : exec i s = s.devStep (fun d => d.busWrite a v))
    (hbus : s.dev.busOff = false) (ha : (0x200 ≤ a ∧ a < 0x240) ∨ (0x380 ≤ a ∧ a < 0x400) ∨ a = 0x1400) :
    exec i s = s.gives (s.dev.writeFields a v 0xFFFFFFFF) := by
  refine exec_word hrow hbus (s.dev.usbHidden_outside (by omega)) (.inl (by simp [ownEffect]; omega))
    (Device.afterWrite_elsewhere (by simp [followedWords]; omega) ?_ ..)
  simp only [followedBlocks, List.forall_mem_cons, List.not_mem_nil, false_imp_iff, implies_true, and_true]
  omega

/-- Settles O35. -/
theorem systemRegisterRowsAct : Obligations.SystemRegisterRowsAct := by
  unfold Obligations.SystemRegisterRowsAct
  intro s v
  refine ⟨fun hbus i hrow => ?_, fun hbus => ⟨?_, ?_, fun r => ?_, fun c => ?_, ?_, fun high => ?_, ?_, fun m => ?_,
    fun k => ?_, fun p => ?_⟩⟩
  · obtain rfl | rfl | rfl | ⟨r, rfl⟩ | ⟨t, rfl⟩ | rfl | rfl | rfl | rfl | ⟨k, rfl⟩ | rfl | rfl | ⟨c, rfl⟩ | rfl | rfl
      | ⟨k, rfl⟩ | rfl | rfl | rfl | rfl | ⟨c, rfl⟩ | ⟨f, rfl⟩ | rfl | ⟨m, rfl⟩ | ⟨k, rfl⟩ | ⟨p, rfl⟩ | ⟨c, rfl⟩ | rfl
      | ⟨h, rfl⟩ := hrow <;> exact exec_busOff rfl hbus
  · have hwrite : s.dev.busWrite 0x100 v.toNat = s.dev.raiseStrobes (v.toNat &&& 0xFFFFFFFF) := by
      simp only [Device.busWrite, Device.writeReg, hbus]
      rfl
    rw [word_and_mask] at hwrite
    exact congrArg s.gives hwrite
  · have hwrite : s.dev.busWrite 0x3C v.toNat = if bitOf (v.toNat &&& 0xFFFFFFFF) 0 then
        (s.dev.each 5 (fun i d => d.wr Reg.ARB_WAIT.COUNT i 0)).wr Reg.ARB_AGED.COUNT 0 0 else s.dev := by
      simp only [Device.busWrite, Device.writeReg, hbus]
      rfl
    rw [word_and_mask] at hwrite
    exact congrArg s.gives hwrite
  · have hexec (d : Device) (hafter : (if rose s.dev (s.dev.writeFields (0x2004 + 0x10 * r) v.toNat 0xFFFFFFFF)
        Reg.RING_CFG.EN r then (s.dev.writeFields (0x2004 + 0x10 * r) v.toNat 0xFFFFFFFF).enableRing r
        else s.dev.writeFields (0x2004 + 0x10 * r) v.toNat 0xFFFFFFFF) = d) : exec (.ringEnable r v) s = s.gives d :=
      exec_word (a := 0x2004 + 0x10 * r) rfl hbus (s.dev.usbHidden_outside (by omega))
        (.inl (by simp [ownEffect]; omega)) ((Device.afterWrite_ring _ _ r.isLt ..).trans hafter)
    intro w
    have hpair : ((r : Nat) = 2 ∨ (r : Nat) = 3) ↔ (r = 2 ∨ r = 3) := by
      rw [Fin.ext_iff, Fin.ext_iff]
      rfl
    obtain ⟨hport, hfit, hreject⟩ := w.enableRing_cases r
    rw [hpair] at hport hfit hreject
    refine ⟨fun h => hexec _ ?_, fun h0 h1 hnone => hexec _ ?_, fun h0 h1 hany hf => hexec _ ?_,
      fun h0 h1 hany hf => hexec _ ?_⟩
    · rw [rose_eq_false h, if_neg Bool.false_ne_true]
    · rw [rose_eq_true h0 h1, if_pos rfl, hport hnone]
    · rw [rose_eq_true h0 h1, if_pos rfl, hfit hany hf]
    · rw [rose_eq_true h0 h1, if_pos rfl, hreject hany hf]
  · exact exec_word (a := 0xB084 + 4 * c) rfl hbus (s.dev.usbHidden_outside (by omega)) (.inr (.inl (by simp; omega)))
      (Device.afterWrite_hint _ _ c.isLt ..)
  · exact exec_word (a := 0x404) rfl hbus (s.dev.usbHidden_outside (by decide)) (.inr (.inl (by decide))) rfl
  · intro f mappedBall clash hfits e
    have hwrite := (Device.busWrite_oe hbus high v.toNat).trans (s.dev.writeOe_word high v.toNat hfits)
    exact congrArg s.gives hwrite
  · exact exec_plainWord rfl hbus (by decide)
  · exact exec_plainWord (a := 0x200 + 4 * m) rfl hbus (by omega)
  · exact exec_plainWord (a := 0x380 + 0x10 * k) rfl hbus (by omega)
  · intro w
    have hexec (d : Device) (hafter : (if rose s.dev w Reg.SPM_CTRL.EN p then w.portWritten p else w) = d) :
        exec (.spmEnable p v) s = s.gives d :=
      exec_word (a := 0x300 + 0x20 * p) rfl hbus (s.dev.usbHidden_outside (by omega))
        (.inl (by simp [ownEffect]; omega)) ((Device.afterWrite_port _ _ p.isLt ..).trans hafter)
    refine ⟨fun h => hexec _ ?_, fun h0 h1 hover => hexec _ ?_⟩
    · rcases h with h | h | h
      · rw [rose_eq_false (.inl h), if_neg Bool.false_ne_true]
      · rw [rose_eq_false (.inr h), if_neg Bool.false_ne_true]
      · simp only [Device.portWritten, h, Bool.false_eq_true, if_false, ite_self]
    · rw [rose_eq_true h0 h1, if_pos rfl]
      simp only [Device.portWritten, hover, if_true]

end Sys2Proof.Machine
end

section
/-! PROOFS. The enables of the ports, streams, converter, audio, advisories and fans (R268 to R297, R368, R369, R433, R445,
R450, R466, R488). -/
namespace Sys2Proof.Machine

theorem turned_eq_true {d w : Device} {f : Field} {i : Nat} (h : w.on f i ≠ d.on f i) : turned d w f i = true := by
  simpa [turned, bne_iff_ne] using h.symm

/-- What follows where a bit has turned, and not where it stays. -/
theorem ite_turned (d w : Device) (f : Field) (i : Nat) (x y : Device) :
    (if turned d w f i then x else y) = if w.on f i = d.on f i then y else x := by
  by_cases h : w.on f i = d.on f i
  · rw [turned_of_kept h, if_neg Bool.false_ne_true, if_pos h]
  · rw [turned_eq_true h, if_pos rfl, if_neg h]

/-! ### The cyclic port -/

/-- CYC_CTRL.EN goes back to 0 where the frame is too short for it. -/
def Device.cycRejected (w : Device) : Device :=
  (w.wr Reg.CYC_CTRL.EN 0 0).cause Reg.CYC_CTRL.CFG_REJECT 0 0 true 33

theorem Device.cycRejected_on (w : Device) : w.cycRejected.on Reg.CYC_CTRL.EN = false := by
  have hrd : w.cycRejected.rd Reg.CYC_CTRL.EN = 0 := by
    unfold Device.cycRejected
    rw [Device.cause_rd _ _ _ _ _ _ (by unfold beyondEvents beyondLatches; decide) (by unfold apart; decide),
      Device.rd_wr_same, Nat.zero_mod]
  simp only [Device.on, hrd, bne_self_eq_false]

/-- A write of CYC_CTRL from the host's side. -/
theorem Device.cycWritten_eq (w d : Device) (reinit : Bool) :
    let x := if d.on Reg.CYC_CTRL.EN = false ∧ w.on Reg.CYC_CTRL.EN = true ∧ w.cycWords < 4 + 2 * w.liveAxes.length
      then w.cycRejected else w
    w.cycWritten d false reinit = if reinit || rose d x Reg.CYC_CTRL.EN 0 then x.cycRestart reinit
      else if turned d x Reg.CYC_CTRL.EN 0 then x.cycStop else x := by
  intro x
  have hx : (if (rose d w Reg.CYC_CTRL.EN 0 && decide (w.cycWords < 4 + 2 * w.liveAxes.length)) = true
      then (w.wr Reg.CYC_CTRL.EN 0 0).cause Reg.CYC_CTRL.CFG_REJECT 0 0 true 33 else w) = x := by
    simp only [rose, Bool.and_eq_true, Bool.not_eq_true', decide_eq_true_eq, and_assoc, x, Device.cycRejected]
  unfold Device.cycWritten
  simp only [hx, Bool.not_false, Bool.and_true, Bool.false_eq_true, if_false]

/-! ### The USB port -/

/-- A stream slot takes a device-produced ring that no other slot holds. -/
theorem Device.streamWritten_eq (w : Device) (k : Nat) :
    let r := w.rd Reg.USB_STRM.RING k
    let free := w.rd Reg.RING_CFG.ROLE r = 1
      ∧ ∀ j < 8, j ≠ k → w.on Reg.USB_STRM.SEN j = true → w.rd Reg.USB_STRM.RING j ≠ r
    (free → w.streamWritten k = w) ∧ (¬ free → w.streamWritten k = (w.wr Reg.USB_STRM.SEN k 0).usbEvt 9) := by
  intro r free
  have hfree : (w.rd Reg.RING_CFG.ROLE r = 1 ∧ (List.range 8).all (fun j =>
      j == k || !(w.on Reg.USB_STRM.SEN j && w.rd Reg.USB_STRM.RING j == r)) = true) ↔ free := by
    simp only [free, List.all_eq_true, List.mem_range, Bool.or_eq_true, beq_iff_eq, Bool.not_eq_true',
      Bool.and_eq_false_iff, beq_eq_false_iff_ne, ne_eq]
    refine and_congr_right fun _ => forall₂_congr fun j _ => ?_
    cases w.on Reg.USB_STRM.SEN j <;> simp [imp_iff_not_or]
  exact ⟨fun h => if_pos (hfree.mpr h), fun h => if_neg (hfree.not.mpr h)⟩

/-- A row of the USB block has no effect where the port does not exist. -/
theorem exec_usbHidden {s : State} {i : Instr} {a v : Nat} (hrow : exec i s = s.devStep (fun d => d.busWrite a v))
    (hhid : s.dev.usbHidden a = true) : exec i s = .next s := by
  rw [hrow, State.devStep, Device.busWrite, Device.writeReg, hhid, Bool.or_true, if_pos rfl]

theorem Device.usbHidden_block {d : Device} {a : Nat} (hlow : 0xD100 ≤ a) (hhigh : a < 0xD200) :
    d.usbHidden a = !d.usbPresent := by
  simp only [Device.usbHidden, hlow, hhigh, decide_true, Bool.true_and]

/-! ### The audio front end -/

/-- A write of the audio enables. -/
theorem Device.audioWritten_eq (w d : Device) :
    let a := if d.on Reg.AUD_CTRL.AUD_EN = false ∧ w.on Reg.AUD_CTRL.AUD_EN = true
        ∧ w.on Reg.IMG_STAT.RESTRICTED = true then w.wr Reg.AUD_CTRL.AUD_EN 0 0 else w
    let b := if a.on Reg.AUD_CTRL.AUD_EN = d.on Reg.AUD_CTRL.AUD_EN then a else a.audWritten (a.on Reg.AUD_CTRL.AUD_EN)
    let k := if b.on Reg.AUD_CTRL.KWS_EN = d.on Reg.AUD_CTRL.KWS_EN then b else b.kwsWritten (b.on Reg.AUD_CTRL.KWS_EN)
    w.audioWritten d = if k.on Reg.AUD_CTRL.CLIP_EN = d.on Reg.AUD_CTRL.CLIP_EN then k
      else k.clipWritten (k.on Reg.AUD_CTRL.CLIP_EN) := by
  intro a b k
  have ha : w.unrestricted d Reg.AUD_CTRL.AUD_EN 0 = a := by
    simp only [Device.unrestricted, rose, Bool.and_eq_true, Bool.not_eq_true', and_assoc, a]
  simp only [Device.audioWritten, ha, ite_turned]
  rfl

/-- Settles O37. -/
theorem portAndSensorEnablesAct : Obligations.PortAndSensorEnablesAct := by
  unfold Obligations.PortAndSensorEnablesAct
  intro s v hbus d
  refine ⟨?_, ?_, fun i hrow habsent => ?_, fun k hport => ?_, ?_, ?_, fun c => ?_, fun f => ?_⟩
  · intro w i hrow
    have hexec : exec i s = s.gives (w.cycWritten d false (v.getLsbD 1)) := by
      have hafter : w.afterWrite d false 0xD000 v.toNat 0xFFFFFFFF = w.cycWritten d false (v.getLsbD 1) := by
        have hbit : bitOf (v.toNat &&& 0xFFFFFFFF) 1 = v.getLsbD 1 := by rw [word_and_mask, bitOf_word]
        rw [← hbit]
        rfl
      rcases hrow with rfl | rfl
      · exact exec_word (a := 0xD000) rfl hbus (s.dev.usbHidden_outside (by decide)) (.inr (.inl (by decide))) hafter
      · exact exec_word (a := 0xD000) rfl hbus (s.dev.usbHidden_outside (by decide)) (.inr (.inl (by decide))) hafter
    have hwritten := w.cycWritten_eq d (v.getLsbD 1)
    refine ⟨fun hr hsame => ?_, fun hr h0 h1 => ?_, fun hr h0 h1 hfits => ?_, fun hr h0 h1 hshort => ?_, fun hr => ?_⟩
    · have hgood : ¬ (d.on Reg.CYC_CTRL.EN = false ∧ w.on Reg.CYC_CTRL.EN = true
          ∧ w.cycWords < 4 + 2 * w.liveAxes.length) := by
        rw [hsame]
        rintro ⟨h0, h1, -⟩
        exact absurd (h0.symm.trans h1) Bool.false_ne_true
      simp only [if_neg hgood, hr, rose_of_kept hsame, turned_of_kept hsame, Bool.or_false, Bool.false_eq_true, if_false]
        at hwritten
      rw [hexec, hr, hwritten]
    · have hgood : ¬ (d.on Reg.CYC_CTRL.EN = false ∧ w.on Reg.CYC_CTRL.EN = true
          ∧ w.cycWords < 4 + 2 * w.liveAxes.length) := by
        simp [h0]
      simp only [if_neg hgood, hr, rose_eq_false (.inl h0), turned_eq_true (by rw [h0, h1]; decide : w.on _ 0 ≠ d.on _ 0),
        Bool.or_false, Bool.false_eq_true, if_false, if_true] at hwritten
      rw [hexec, hr, hwritten]
      rfl
    · have hgood : ¬ (d.on Reg.CYC_CTRL.EN = false ∧ w.on Reg.CYC_CTRL.EN = true
          ∧ w.cycWords < 4 + 2 * w.liveAxes.length) := by omega
      simp only [if_neg hgood, hr, rose_eq_true h0 h1, Bool.or_true, if_true] at hwritten
      rw [hexec, hr, hwritten]
    · have hkept : w.cycRejected.on Reg.CYC_CTRL.EN 0 = d.on Reg.CYC_CTRL.EN 0 := by rw [w.cycRejected_on, h0]
      simp only [h0, h1, hshort, and_self, if_true, hr, rose_of_kept hkept, turned_of_kept hkept, Bool.or_false,
        Bool.false_eq_true, if_false] at hwritten
      rw [hexec, hr, hwritten]
      rfl
    · simp only [hr, Bool.true_or, if_true] at hwritten
      rw [hexec, hr, hwritten]
      rfl
  · intro w i hrow hport
    have hhid : d.usbHidden 0xD100 = false := by rw [Device.usbHidden_block (by decide) (by decide), hport, Bool.not_true]
    have hafter : w.afterWrite d false 0xD100 v.toNat 0xFFFFFFFF = if v.getLsbD 2 then w.usbReinit else w.usbPull := by
      have hbit : bitOf (v.toNat &&& 0xFFFFFFFF) 2 = v.getLsbD 2 := by rw [word_and_mask, bitOf_word]
      rw [← hbit]
      rfl
    rcases hrow with rfl | rfl
    · exact exec_word (a := 0xD100) rfl hbus hhid (.inr (.inl (by decide))) hafter
    · exact exec_word (a := 0xD100) rfl hbus hhid (.inr (.inl (by decide))) hafter
  · have hhid {a : Nat} (hlow : 0xD100 ≤ a) (hhigh : a < 0xD200) : d.usbHidden a = true := by
      rw [Device.usbHidden_block hlow hhigh, habsent, Bool.not_false]
    rcases hrow with rfl | rfl | ⟨k, rfl⟩
    · exact exec_usbHidden (a := 0xD100) rfl (hhid (by decide) (by decide))
    · exact exec_usbHidden (a := 0xD100) rfl (hhid (by decide) (by decide))
    · exact exec_usbHidden (a := 0xD120 + 4 * k) rfl (hhid (by omega) (by omega))
  · intro w r free
    have hhid : d.usbHidden (0xD120 + 4 * k) = false := by
      rw [Device.usbHidden_block (by omega) (by omega), hport, Bool.not_true]
    have hexec (x : Device) (hafter : (if rose d w Reg.USB_STRM.SEN k then w.streamWritten k else w) = x) :
        exec (.usbStreamEnable k v) s = s.gives x :=
      exec_word (a := 0xD120 + 4 * k) rfl hbus hhid (.inl (by simp [ownEffect]; omega))
        ((Device.afterWrite_slot _ _ k.isLt ..).trans hafter)
    obtain ⟨hfree, hheld⟩ := w.streamWritten_eq k
    refine ⟨fun h => hexec _ ?_, fun h0 h1 hnot => hexec _ ?_⟩
    · rcases h with h | h | h
      · rw [rose_eq_false (.inl h), if_neg Bool.false_ne_true]
      · rw [rose_eq_false (.inr h), if_neg Bool.false_ne_true]
      · rw [hfree h, ite_self]
    · rw [rose_eq_true h0 h1, if_pos rfl, hheld hnot]
  · intro w r i hrow
    have hafter : w.afterWrite d false 0x9000 v.toNat 0xFFFFFFFF = if r.on Reg.ADC_CTRL.SCAN_EN = d.on Reg.ADC_CTRL.SCAN_EN
        then r else r.scanWritten (r.on Reg.ADC_CTRL.SCAN_EN) := by
      have hr : (if turned d w Reg.ADC_CTRL.REFBUF_EN 0 then w.refbufWritten (w.on Reg.ADC_CTRL.REFBUF_EN) else w) = r :=
        ite_turned ..
      rw [← ite_turned, ← hr]
      rfl
    rcases hrow with rfl | rfl
    · exact exec_word (a := 0x9000) rfl hbus (s.dev.usbHidden_outside (by decide)) (.inl (by decide)) hafter
    · exact exec_word (a := 0x9000) rfl hbus (s.dev.usbHidden_outside (by decide)) (.inl (by decide)) hafter
  · intro w a b k i hrow
    have hafter : w.afterWrite d false 0xB200 v.toNat 0xFFFFFFFF = if k.on Reg.AUD_CTRL.CLIP_EN = d.on Reg.AUD_CTRL.CLIP_EN
        then k else k.clipWritten (k.on Reg.AUD_CTRL.CLIP_EN) := w.audioWritten_eq d
    rcases hrow with rfl | rfl | rfl
    · exact exec_word (a := 0xB200) rfl hbus (s.dev.usbHidden_outside (by decide)) (.inl (by decide)) hafter
    · exact exec_word (a := 0xB200) rfl hbus (s.dev.usbHidden_outside (by decide)) (.inl (by decide)) hafter
    · exact exec_word (a := 0xB200) rfl hbus (s.dev.usbHidden_outside (by decide)) (.inl (by decide)) hafter
  · exact exec_word (a := 0xB500 + 0x20 * c) rfl hbus (s.dev.usbHidden_outside (by omega)) (.inl (by simp [ownEffect]; omega))
      ((Device.afterWrite_car _ _ c.isLt ..).trans (ite_turned ..))
  · exact exec_word (a := 0xA500 + 0x20 * f) rfl hbus (s.dev.usbHidden_outside (by omega)) (.inl (by simp [ownEffect]; omega))
      ((Device.afterWrite_fan _ _ f.isLt ..).trans (ite_turned ..))

end Sys2Proof.Machine
end

section
/-! PROOFS. The scheduler's own rows: the dispatch pass, waits that run out, held completions, and the ends of long commands
(R211, R219, R222, R226, R232). -/
namespace Sys2Proof.Machine

/-! ### The steps of a pass -/

/-- A task whose wait has not run out is left alone. -/
theorem Device.expire_early {d : Device} {tag : Nat} (h : ∀ t, d.task? tag = some t → d.waitOut t = false) :
    d.expire tag = d := by
  unfold Device.expire
  cases ht : d.task? tag with
  | none => rfl
  | some t => exact if_neg (by rw [h t ht]; exact Bool.false_ne_true)

theorem Device.expire_due {d : Device} {tag : Nat} {t : Task} (ht : d.task? tag = some t) (h : d.waitOut t = true) :
    d.expire tag = (d.complete tag .expired true []).mbEvt 4 := by
  simp only [Device.expire, ht, h, if_true]

/-- A task that does not wait, whose condition is met, that has no WAIT_TMO, or whose WAIT_TMO still runs. -/
theorem Device.waitOut_eq_false {d : Device} {t : Task} : d.waitOut t = false ↔ (t.state ≠ .waiting ∨ t.met = true
    ∨ t.entry.waitTmo = 0 ∨ d.sched.clock < t.taken + 1000 * t.entry.waitTmo.toNat) := by
  have hzero : t.entry.waitTmo.toNat = 0 ↔ t.entry.waitTmo = 0 := ⟨fun h => BitVec.eq_of_toNat_eq h, fun h => by rw [h]; rfl⟩
  simp only [Device.waitOut, Bool.and_eq_false_iff, beq_eq_false_iff_ne, bne_eq_false_iff_eq, Bool.not_eq_false',
    decide_eq_false_iff_not, Nat.not_le, hzero, or_assoc]

/-- No held completion of a pair is written without one, or without room. -/
theorem Device.writeHeld_none {d : Device} {q : Nat}
    (h : (∀ x ∈ d.sched.held, x.pair ≠ q) ∨ d.ringRoom (2 * q + 1) 1 = false) (k : Nat) : d.writeHeld q k = d := by
  cases k with
  | zero => rfl
  | succ k =>
    unfold Device.writeHeld
    cases hfind : d.sched.held.find? (fun h => h.pair == q) with
    | none => rfl
    | some x =>
      rcases h with h | h
      · have hmem := List.mem_of_find?_eq_some hfind
        have hpair := List.find?_some hfind
        exact absurd (by simpa using hpair) (h x hmem)
      · exact if_neg (by rw [h]; exact Bool.false_ne_true)

/-- The oldest held completion of a pair is written, and those behind it follow. -/
theorem Device.writeHeld_first {d : Device} {q : Nat} {front back : List HeldCpl} {h : HeldCpl}
    (hheld : d.sched.held = front ++ h :: back) (hfront : ∀ x ∈ front, x.pair ≠ q) (hpair : h.pair = q)
    (hroom : d.ringRoom (2 * q + 1) 1 = true) : d.writeHeld q d.sched.held.length
      = ((d.modSched (fun k => { k with held := d.sched.held.erase h })).writeCpl h true).writeHeld q
          (d.sched.held.length - 1) := by
  have hfind : d.sched.held.find? (fun h => h.pair == q) = some h := by
    rw [hheld, List.find?_append, List.find?_eq_none.mpr (by simpa using hfront), Option.none_or]
    simp [hpair]
  have hlength : d.sched.held.length = (d.sched.held.length - 1) + 1 := by
    rw [hheld, List.length_append, List.length_cons]
    omega
  rw [hlength]
  simp only [Device.writeHeld, hfind, hroom, if_true, Nat.add_sub_cancel]
  rfl

/-- Settles O38. -/
theorem schedulerRowsAct : Obligations.SchedulerRowsAct := by
  unfold Obligations.SchedulerRowsAct
  intro s d
  have hpass (x : Device) (h : d.pass = x) : exec .dispatchPass s = s.gives x := congrArg s.gives h
  refine ⟨fun hoff => ?_, fun hon hreset => hpass _ ?_, fun hon hreset => hpass _ ?_, fun tag => ⟨fun t hon ht hwaiting hunmet
    htmo hout => ?_, fun h => ?_⟩, fun q => ⟨fun h => ?_, fun front back h hon hheld hfront hpair hroom => ?_⟩⟩
  · exact hpass d (by simp only [Device.pass, hoff, Bool.not_false, if_true])
  · simp only [Device.pass, hon, Bool.not_true, Bool.false_eq_true, if_false, Device.modSched_sched, hreset, if_true]
  · simp only [Device.pass, hon, Bool.not_true, Bool.false_eq_true, if_false, Device.modSched_sched, hreset]
  · have hdue : d.waitOut t = true := by
      rw [← Bool.not_eq_false, Device.waitOut_eq_false]
      rintro (h | h | h | h)
      · exact h hwaiting
      · exact Bool.false_ne_true (hunmet.symm.trans h)
      · exact htmo h
      · omega
    have hexpire : (if d.passes then d.expire tag else d) = (d.complete tag .expired true []).mbEvt 4 := by
      rw [hon, if_pos rfl, Device.expire_due ht hdue]
    exact congrArg s.gives hexpire
  · have hexpire : (if d.passes then d.expire tag else d) = d := by
      rcases h with hoff | hearly
      · rw [hoff, if_neg Bool.false_ne_true]
      · rw [Device.expire_early (fun t ht => Device.waitOut_eq_false.mpr (hearly t ht)), ite_self]
    exact congrArg s.gives hexpire
  · have hwrite : (if d.passes then d.writeHeld q d.sched.held.length else d) = d := by
      rcases h with hoff | hnone
      · rw [hoff, if_neg Bool.false_ne_true]
      · rw [Device.writeHeld_none hnone, ite_self]
    exact congrArg s.gives hwrite
  · have hwrite := Device.writeHeld_first hheld hfront hpair hroom
    have hpass : (if d.passes then d.writeHeld q d.sched.held.length else d) = d.writeHeld q d.sched.held.length := by
      rw [hon, if_pos rfl]
    exact congrArg s.gives (hpass.trans hwrite)

/-! ### Long commands -/

/-- A long command that executes ends, the fuses staying as they are unless it is IMG_CONFIRM. -/
theorem exec_longCommandDone {s : State} {tag : Fin 128} {o : LongOutcome} {t : Task} (ht : s.dev.task? tag.val = some t)
    (hstate : t.state = .executing) (hop : t.op ≠ 0x0C06) :
    exec (.longCommandDone tag o) s = s.gives (s.dev.longDone t o s.fuses s.fuses) := by
  simp only [exec, execLongCommandDone, ht, hstate, if_true, if_neg hop]
  rfl

/-- Settles O39. -/
theorem longCommandsEnd : Obligations.LongCommandsEnd := by
  unfold Obligations.LongCommandsEnd
  intro s tag o d
  refine ⟨fun h => ?_, fun t ht hstate => ?_⟩
  · simp only [exec, execLongCommandDone]
    rcases h with hnone | ⟨t, ht, hstate⟩
    · simp only [d] at hnone
      simp only [hnone]
    · simp only [d] at ht
      simp only [ht, if_neg hstate]
  · have hend (hop : t.op ≠ 0x0C06) := exec_longCommandDone (o := o) ht hstate hop
    refine ⟨fun hop => ?_, fun hop => ?_, fun hop => ?_, fun hop => ?_, fun hop => ?_, fun hop => ?_, fun hop => ?_,
      fun hop => ?_, fun hop => ?_, fun hop => ?_⟩
    case refine_8 =>
      have hconfirm : exec (.longCommandDone tag o) s = .next { s with
          dev := d.longDone t o s.fuses (d.confirmFuses s.fuses), fuses := d.confirmFuses s.fuses } := by
        simp only [exec, execLongCommandDone, d] at ht ⊢
        simp only [ht, hstate, hop, if_true]
      rw [hconfirm]
      simp only [Device.longDone, hop]
    all_goals
      rw [hend (by rw [hop]; decide)]
      simp only [Device.longDone, hop]
      rfl

end Sys2Proof.Machine
end

section
/-! PROOFS. The rows of the tick and of an axis: ticks, loop periods and strobes, the ends that its states wait for, and the
stall (R23 to R51, R75, R127, R128, R136 to R140, R158, R163, R315 to R323). -/
namespace Sys2Proof.Machine

/-! ### Ticks, periods and strobes -/

/-- The tick boundary while the motion blocks run. -/
theorem Device.tick_runs {d : Device} (h : d.motionRuns = true) (mismatch : Bool) :
    let a := ((List.range 64).foldl (fun e k => e.closeTick k) d).invalidateAxes.judgeCheck mismatch
    let b := (a.executing 0x0D05).foldl (fun e tag => e.finishReinit tag) a
    let entered := axisMask (fun k => (b.ax k).stopReq.isSome && b.stoppable k)
    d.tick mismatch
      = (((List.range 64).foldl (fun e k => e.planTick k) b).finishStops entered).chooseCheck.publish false := by
  unfold Device.tick
  rw [h, Bool.not_true, if_neg Bool.false_ne_true]
  unfold Device.each
  rfl

/-- The staged sets while the motion blocks run. -/
theorem Device.strobeApply_runs {d : Device} (h : d.motionRuns = true) :
    let a := (List.range 64).foldl (fun e k => match d.staged.find? (fun x => x.axis == k) with
      | some x => e.applyAxis k x.fields
      | none => e) { d with staged := [] }
    let b := (List.range 64).foldl (fun e k => if d.staged.any (fun x => x.axis == k) then e.startArmed k else e) a
    d.strobeApply = ((bitsBelow (d.rd Reg.STROBE_STAT.PEND) 8).foldl
      (fun e g => e.wr Reg.SG_TICK.COUNT g e.loops) b).wr Reg.STROBE_STAT.PEND 0 0 := by
  unfold Device.strobeApply
  rw [h, Bool.not_true, if_neg Bool.false_ne_true]
  unfold Device.each Device.eachIn
  rfl

/-- A loop period while the motion blocks run. -/
theorem Device.loopPeriod_runs {d : Device} (h : d.motionRuns = true) :
    let a := (d.modPower (fun p => { p with
      loops := p.loops + 1, cd03 := p.cd03 + 5000, loopGrain := d.grain })).acceptInputs
    let b := (List.range 64).foldl (fun e k => e.advance k) ((List.range 16).foldl (fun e t => e.countHeld t) a)
    let c := (List.range 16).foldl (fun e t => e.tilePeriod t) b
    let z := (List.range 16).foldl (fun e t => (e.telemetryAdd t).modTile t (fun x => { x with tag := .absent })) c
    d.loopPeriod = ((List.range 4).foldl (fun e p => e.sendAddresses p) z).addSupply := by
  unfold Device.loopPeriod
  rw [h, Bool.not_true, if_neg Bool.false_ne_true]
  unfold Device.each
  rfl

/-- Settles O40. -/
theorem tickRowsAct : Obligations.TickRowsAct := by
  unfold Obligations.TickRowsAct
  intro s n mismatch d
  refine ⟨fun hoff => ?_, fun hon => ⟨?_, ?_, ?_, ?_, ?_⟩⟩
  · have hstill : ¬ d.motionRuns = true := by rw [hoff]; exact Bool.false_ne_true
    have hstill' : (!d.motionRuns) = true := by rw [hoff, Bool.not_false]
    exact ⟨congrArg s.gives (if_pos hstill'), congrArg s.gives (if_neg hstill), congrArg s.gives (if_pos hstill'),
      congrArg s.gives (if_neg hstill), congrArg s.gives (if_pos hstill')⟩
  · exact congrArg s.gives (Device.tick_runs hon mismatch)
  · exact congrArg s.gives (if_pos hon)
  · exact congrArg s.gives (if_pos hon)
  · exact congrArg s.gives (Device.strobeApply_runs hon)
  · exact congrArg s.gives (Device.loopPeriod_runs hon)

/-! ### The ends that an axis waits for -/

/-- MAXDIST is reached in a seeking phase of a homing that has neither detected nor failed. -/
theorem Device.maxdistReached_iff (d : Device) (n : Nat) : d.maxdistReached n = true ↔ ∃ h, (d.ax n).home = some h
    ∧ d.axSt n = stHoming ∧ (d.rd Reg.HOME_STAT.PHASE n = 1 ∨ d.rd Reg.HOME_STAT.PHASE n = 4) ∧ h.detected = false
    ∧ h.fail = 0 ∧ d.rd Reg.HOME_MAXD.MAXDIST n ≠ 0
    ∧ d.rd Reg.HOME_MAXD.MAXDIST n * 2 ^ 24 ≤ d.homeTravelled n h := by
  unfold Device.maxdistReached
  cases hhome : (d.ax n).home with
  | none => simp
  | some h =>
    simp only [Bool.and_eq_true, Bool.or_eq_true, beq_iff_eq, Bool.not_eq_true', bne_iff_ne, decide_eq_true_eq,
      Option.some.injEq, exists_eq_left', and_assoc]

/-- What follows the end of a stall's run, where no homing seeks the stall. -/
theorem Device.stallHoming_eq (b : Device) (n : Nat) : b.stallHoming n = b.modHome n (fun h => { h with
    fail := if b.axSt n = stHoming ∧ h.fail = 0 then 3 else h.fail
    redefine := false, capt := if h.redefine = true then none else h.capt }) := by
  simp only [Device.stallHoming, Bool.and_eq_true, beq_iff_eq]

/-- Settles O41. -/
theorem endsAndStallsOfAnAxisAct : Obligations.EndsAndStallsOfAnAxisAct := by
  unfold Obligations.EndsAndStallsOfAnAxisAct
  refine ⟨fun s n => ?_, fun s n => ?_⟩
  · intro d
    refine ⟨fun r hr hdone => congrArg s.gives ?_, fun h => congrArg s.gives (?_ : _ = d),
      fun r hr hend => congrArg s.gives ?_, fun h => congrArg s.gives (?_ : _ = d), ⟨fun hdue => ?_, fun hearly => ?_⟩,
      ⟨fun hdue => congrArg s.gives ?_, fun hearly => congrArg s.gives (?_ : _ = d)⟩, ⟨fun hdue => ?_, fun hearly => ?_⟩,
      fun h hhome hredefine => congrArg s.gives ?_, fun h => congrArg s.gives (?_ : _ = d), ⟨fun hdue => ?_, fun hearly => ?_⟩⟩
    · beta_reduce
      rw [show (s.dev.ax n).run = some r from hr]
      exact if_pos hdone
    · beta_reduce
      rcases h with hnone | ⟨r, hr, hgoing⟩
      · rw [show (s.dev.ax n).run = none from hnone]
      · rw [show (s.dev.ax n).run = some r from hr]
        exact if_neg (by rw [hgoing]; exact Bool.false_ne_true)
    · beta_reduce
      rw [show (s.dev.ax n).stop = some r from hr]
      exact if_pos hend
    · beta_reduce
      rcases h with hnone | ⟨r, hr, hgoing⟩
      · rw [show (s.dev.ax n).stop = none from hnone]
      · rw [show (s.dev.ax n).stop = some r from hr]
        exact if_neg (Nat.not_lt.mpr hgoing)
    · exact congrArg s.gives (if_pos (by simpa only [Option.isNone_iff_eq_none] using hdue))
    · exact congrArg s.gives (if_neg (by simpa only [Option.isNone_iff_eq_none] using hearly))
    · obtain ⟨r, hr, hhold, hk⟩ := hdue
      beta_reduce
      rw [show (s.dev.ax n).ramp = some r from hr]
      exact if_pos (by rw [hhold, decide_eq_true hk]; rfl)
    · beta_reduce
      cases hr : (s.dev.ax n).ramp with
      | none => rfl
      | some r =>
        refine if_neg ?_
        rw [Bool.and_eq_true, decide_eq_true_eq]
        exact fun ⟨hhold, hk⟩ => hearly ⟨r, hr, hhold, hk⟩
    · exact congrArg s.gives (if_pos hdue)
    · exact congrArg s.gives (if_neg hearly)
    · beta_reduce
      rw [show (s.dev.ax n).home = some h from hhome]
      exact if_pos hredefine
    · beta_reduce
      rcases h with hnone | ⟨x, hx, hgoing⟩
      · rw [show (s.dev.ax n).home = none from hnone]
      · rw [show (s.dev.ax n).home = some x from hx]
        exact if_neg (by rw [hgoing]; exact Bool.false_ne_true)
    · exact congrArg s.gives (if_pos ((d.maxdistReached_iff n).mpr hdue))
    · exact congrArg s.gives (if_neg ((d.maxdistReached_iff n).not.mpr hearly))
  · intro d limit a
    refine ⟨fun hfew => congrArg s.gives (if_pos hfew), fun hlimit hseek => ?_, fun hlimit hseek => ?_⟩
    · exact congrArg s.gives ((if_neg (Nat.not_lt.mpr hlimit)).trans (if_pos hseek))
    · intro b c
      have hc : b.stallHoming n = c := b.stallHoming_eq n
      have hlost : d.stall n = if c.rd Reg.CUR_CTRL.STALL_ACT n = 0 then
            (if c.axSt n = stHoming then c.wr Reg.HOME_STAT.PHASE n 2 else c)
          else if c.rd Reg.CUR_CTRL.STALL_ACT n = 2 then c.hardFaultFree n
          else if c.stoppable n then c.askStop n 6 else c := by
        rw [← hc]
        exact (if_neg (Nat.not_lt.mpr hlimit)).trans (if_neg (by rw [hseek]; exact Bool.false_ne_true))
      refine ⟨fun hact => ?_, fun hact => ?_, fun hact hact' => ?_⟩
      · exact congrArg s.gives (hlost.trans (if_pos hact))
      · exact congrArg s.gives (hlost.trans ((if_neg (by omega)).trans (if_pos hact)))
      · exact congrArg s.gives (hlost.trans ((if_neg hact).trans (if_neg hact')))

end Sys2Proof.Machine
end

section
/-! PROOFS. Follow mode, encoder inputs, GPIO levels and the stop ball (R52, R67, R82 to R84, R89 to R103, R153, R353, R636). -/
namespace Sys2Proof.Machine

/-! ### Follow mode -/

/-- The input of an axis is idle once its last edge is a period of the longest kind ago. -/
theorem Device.inputIdle_iff (d : Device) (n : Nat) : d.inputIdle n = true
    ↔ ∀ t, (d.sdiIn (d.rd Reg.FOL_CFG.SRC n)).last = some t → t + 400000 ≤ d.cd03 := by
  unfold Device.inputIdle
  cases (d.sdiIn (d.rd Reg.FOL_CFG.SRC n)).last with
  | none => simp
  | some t => simp

/-- An axis may leave FOLLOW once its input is idle and its motion has come to rest. -/
theorem Device.mayLeave_iff (d : Device) (n : Nat) : d.mayLeave n = true
    ↔ d.inputIdle n = true ∧ ∃ f, (d.ax n).follow = some f ∧ f.lastU = 0 := by
  unfold Device.mayLeave
  cases (d.ax n).follow with
  | none => simp
  | some f => simp

/-- Settles O43. -/
theorem followEndsAct : Obligations.FollowEndsAct := by
  unfold Obligations.FollowEndsAct
  intro s n d idle
  have hidle : d.inputIdle n = true ↔ idle := d.inputIdle_iff n
  refine ⟨fun h => ?_, fun h => ?_, fun f hfollow hf hleave hi hrest => ?_, fun h => ?_, rfl⟩
  · exact congrArg s.gives (if_pos (hidle.mpr h))
  · exact congrArg s.gives (if_neg (hidle.not.mpr h))
  · exact congrArg s.gives (if_pos ⟨hfollow, hleave, (d.mayLeave_iff n).mpr ⟨hidle.mpr hi, f, hf, hrest⟩⟩)
  · refine congrArg s.gives (if_neg ?_)
    rintro ⟨hfollow, hleave, hmay⟩
    obtain ⟨hi, f, hf, hrest⟩ := (d.mayLeave_iff n).mp hmay
    rcases h with h | h | h | h
    · exact h hfollow
    · exact hleave h
    · exact h (hidle.mp hi)
    · exact h f hf hrest

/-! ### Quadrature inputs -/

/-- A step that changes one channel alone, or none, counts. -/
theorem quadStep_isSome_of_one (mode : Nat) {a0 b0 a1 b1 : Bool} (h : a1 = a0 ∨ b1 = b0) :
    (quadStep mode a0 b0 a1 b1).isSome = true := by
  unfold quadStep
  rw [if_neg (by rcases h with h | h <;> simp [h])]
  simp only [apply_ite Option.isSome, Option.isSome_some, ite_self]

/-- A change of both channels counts no step. -/
theorem quadStep_both (mode : Nat) {a0 b0 a1 b1 : Bool} (ha : a1 ≠ a0) (hb : b1 ≠ b0) :
    quadStep mode a0 b0 a1 b1 = none :=
  if_pos (by simp [ha.symm, hb.symm])

/-- The index is taken where the sample brings it to its active level and the gate holds. -/
theorem Device.indexTaken_iff (d : Device) (k : Nat) (old new : QeLevels) : d.indexTaken k old new = true
    ↔ old.i ≠ new.i ∧ new.i ≠ d.on Reg.QE_CFG.IDX_POL k ∧ gateOk (d.rd Reg.QE_CFG.IDX_GATE k) new.a new.b = true := by
  simp only [Device.indexTaken, Bool.and_eq_true, bne_iff_ne, and_assoc]

/-- What an accepted sample counts of its channels, before the index. -/
def Device.quadCounted (w : Device) (k : Nat) (old new : QeLevels) : Device :=
  match quadStep (w.rd Reg.QE_CFG.MODE k) old.a old.b new.a new.b with
  | none => w.qeEvt k 0
  | some x => w.wr Reg.QE_CNT.CNT k (toBits 32
      ((w.rd Reg.QE_CNT.CNT k : Int) + (if w.on Reg.QE_CFG.INVERT k then -x else x)))

/-- The levels of a sample are remembered, and its motion counts toward the wake counter. -/
def Device.quadSeen (d : Device) (k : Nat) (new : QeLevels) : Device :=
  ({ d with pads := { d.pads with qe := modNth (fun _ => new) k d.pads.qe } }).qeWakeMotion k (d.qeLevels k) new

theorem Device.quadSample_eq (d : Device) (k : Nat) (new : QeLevels) :
    let m := d.quadSeen k new
    let w := m.wr Reg.QE_STAT.ABI k (b2n new.a + 2 * b2n new.b + 4 * b2n new.i)
    let x := w.quadCounted k (d.qeLevels k) new
    d.quadSample k new = if m.power.grain || !m.on Reg.QE_CFG.EN k then m
      else if x.indexTaken k (d.qeLevels k) new then x.indexEdge k else x := rfl

/-- Settles O44. -/
theorem encoderInputsCount : Obligations.EncoderInputsCount := by
  unfold Obligations.EncoderInputsCount
  intro s k a b i d old m w indexed
  have hindexed (x : Device) : (if x.indexTaken k old ⟨a, b, i⟩ then x.indexEdge k else x) = indexed x :=
    if_congr (x.indexTaken_iff k old ⟨a, b, i⟩) rfl rfl
  have hcounts (hgrain : m.power.grain = false) (hen : m.on Reg.QE_CFG.EN k = true) :
      exec (.qeCountStep k a b i) s = s.gives (indexed (w.quadCounted k old ⟨a, b, i⟩)) := by
    refine congrArg s.gives (((d.quadSample_eq k ⟨a, b, i⟩).trans (if_neg ?_)).trans (hindexed _))
    rw [show (d.quadSeen k ⟨a, b, i⟩).power.grain = false from hgrain,
      show (d.quadSeen k ⟨a, b, i⟩).on Reg.QE_CFG.EN k = true from hen]
    exact Bool.false_ne_true
  refine ⟨fun h => ?_, fun hgrain hen ha hb => ?_, fun hgrain hen x hx => ?_, fun h => quadStep_isSome_of_one _ h, rfl⟩
  · refine congrArg s.gives ((d.quadSample_eq k ⟨a, b, i⟩).trans (if_pos ?_))
    rcases h with hgrain | hen
    · rw [show (d.quadSeen k ⟨a, b, i⟩).power.grain = true from hgrain, Bool.true_or]
    · rw [show (d.quadSeen k ⟨a, b, i⟩).on Reg.QE_CFG.EN k = false from hen, Bool.not_false, Bool.or_true]
  · rw [hcounts hgrain hen]
    simp only [Device.quadCounted, quadStep_both _ ha hb]
  · rw [hcounts hgrain hen]
    simp only [Device.quadCounted, hx]

/-! ### GPIO levels and the stop ball -/

/-- The levels with that of one ball set. -/
def withLevel (v : BitVec 48) (g : Fin 48) (level : Bool) : BitVec 48 :=
  if level then v ||| BitVec.ofNat 48 (2 ^ g.val) else v &&& ~~~(BitVec.ofNat 48 (2 ^ g.val))

theorem getLsbD_ball (g k : Fin 48) : (BitVec.ofNat 48 (2 ^ g.val)).getLsbD k = decide (k = g) := by
  simp only [BitVec.getLsbD_ofNat, k.isLt, decide_true, Bool.true_and, Nat.testBit_two_pow, Fin.ext_iff, eq_comm]

theorem getLsbD_withLevel (v : BitVec 48) (g : Fin 48) (level : Bool) (k : Fin 48) :
    (withLevel v g level).getLsbD k = if k = g then level else v.getLsbD k := by
  unfold withLevel
  cases level
  · rw [if_neg Bool.false_ne_true, BitVec.getLsbD_and, BitVec.getLsbD_not, getLsbD_ball]
    by_cases h : k = g <;> simp [h]
  · rw [if_pos rfl, BitVec.getLsbD_or, getLsbD_ball]
    by_cases h : k = g <;> simp [h]

theorem toNat_ball (g : Fin 48) : (BitVec.ofNat 48 (2 ^ g.val)).toNat = 2 ^ g.val := by
  rw [BitVec.toNat_ofNat, Nat.mod_eq_of_lt (Nat.pow_lt_pow_right (by decide) g.isLt)]

/-- A set bit is the ball's alone: without it the others stay. -/
theorem sub_ball {v : BitVec 48} {g : Fin 48} (h : v.getLsbD g = true) :
    v - BitVec.ofNat 48 (2 ^ g.val) = v &&& ~~~(BitVec.ofNat 48 (2 ^ g.val)) := by
  have hdisjoint : (v &&& ~~~(BitVec.ofNat 48 (2 ^ g.val))) &&& BitVec.ofNat 48 (2 ^ g.val) = 0#48 := by
    rw [BitVec.and_assoc, BitVec.and_comm (~~~_), BitVec.and_not_self]
    exact BitVec.and_zero
  have hwhole : (v &&& ~~~(BitVec.ofNat 48 (2 ^ g.val))) ||| BitVec.ofNat 48 (2 ^ g.val) = v := by
    refine BitVec.eq_of_getLsbD_eq fun i hi => ?_
    have hball := getLsbD_ball g ⟨i, hi⟩
    simp only at hball
    rw [BitVec.getLsbD_or, BitVec.getLsbD_and, BitVec.getLsbD_not, hball]
    by_cases hig : (⟨i, hi⟩ : Fin 48) = g
    · rw [← hig] at h
      simp only at h
      simp [hig, h]
    · simp [hig, hi]
  have hsum := BitVec.add_eq_or_of_and_eq_zero _ _ hdisjoint
  rw [hwhole] at hsum
  rw [← hsum, BitVec.add_sub_cancel]
  rw [hsum]

theorem toNat_withLevel (v : BitVec 48) (g : Fin 48) (level : Bool) :
    (if level then setBitOf v.toNat g else clrBitOf v.toNat g) = (withLevel v g level).toNat := by
  unfold withLevel
  cases level
  · rw [if_neg Bool.false_ne_true, if_neg Bool.false_ne_true, clrBitOf]
    split
    · next hset =>
      have hle : BitVec.ofNat 48 (2 ^ g.val) ≤ v := by
        rw [BitVec.le_def, toNat_ball]
        exact Nat.ge_two_pow_of_testBit hset
      rw [← sub_ball hset, BitVec.toNat_sub_of_le hle, toNat_ball]
    · next hclear =>
      refine congrArg BitVec.toNat (BitVec.eq_of_getLsbD_eq fun i hi => ?_)
      have hball := getLsbD_ball g ⟨i, hi⟩
      simp only at hball
      rw [BitVec.getLsbD_and, BitVec.getLsbD_not, hball]
      by_cases hig : (⟨i, hi⟩ : Fin 48) = g
      · have hoff : v.getLsbD i = false := by
          rw [← hig] at hclear
          exact Bool.eq_false_iff.mpr hclear
        rw [hoff, Bool.false_and]
      · simp [hig, hi]
  · rw [if_pos rfl, if_pos rfl, BitVec.toNat_or, toNat_ball, setBitOf]

/-- A level on a ball is shown and may wake the device. -/
theorem Device.gpioLevel_eq (d : Device) (g : Fin 48) (level : Bool) :
    let bits := withLevel d.pads.gpio g level
    let a := (({ d with pads := { d.pads with gpio := bits } }).wr Reg.GPIO_IN_L.IN 0 bits.toNat).wr Reg.GPIO_IN_H.IN 0
      (bits.toNat / 2 ^ 32)
    d.gpioLevel g level
      = if a.rd Reg.WAKE_CFG.GPIO_SEL = g.val ∧ a.on Reg.WAKE_CFG.GPIO_POL ≠ level then a.wakeLatch 3 else a := by
  intro bits a
  have hbits := toNat_withLevel d.pads.gpio g level
  unfold Device.gpioLevel
  simp only [hbits, BitVec.ofNat_toNat, BitVec.setWidth_eq, a, bits]

/-- An accepted level: home switches are remembered, and every axis is held against its limits. -/
theorem Device.inputLevel_eq (b : Device) (g : Fin 48) (level : Bool) :
    b.inputLevel g level = (List.range 64).foldl (fun e n =>
      let e := if e.rd Reg.HOME_CFG.SW_GPIO n = g.val ∧ e.switchActive n = true
        then e.modHome n (fun h => { h with swEdge := true }) else e
      (e.refreshLimits n).checkLimit n (e.ax n).moved.toInt)
        { b with pads := { b.pads with accepted := withLevel b.pads.accepted g level } } := by
  have hbits := toNat_withLevel b.pads.accepted g level
  unfold Device.inputLevel Device.each
  simp only [hbits, BitVec.ofNat_toNat, BitVec.setWidth_eq]

/-- Settles O45. -/
theorem pinLevelsAct : Obligations.PinLevelsAct := by
  unfold Obligations.PinLevelsAct
  intro s g level d
  refine ⟨?_, fun hsame => ?_, fun hlow hhigh => ?_, fun hhigh hlow => ?_⟩
  · intro bits a b
    have hlevel : d.gpioLevel g level = b := d.gpioLevel_eq g level
    refine ⟨getLsbD_withLevel d.pads.gpio g level, fun hstill => ?_, fun hruns => ?_⟩
    · refine congrArg s.gives (Eq.trans (if_neg ?_) hlevel)
      rw [show (d.gpioLevel g level).running = false from hlevel ▸ hstill]
      exact Bool.false_ne_true
    · intro accepted c
      refine congrArg s.gives (Eq.trans (if_pos ?_) ?_)
      · exact hlevel ▸ hruns
      · rw [show (d.gpioLevel g level) = b from hlevel]
        exact b.inputLevel_eq g level
  · exact congrArg s.gives (if_pos hsame)
  · refine congrArg s.gives (Eq.trans (if_neg ?_) ?_)
    · rw [show s.dev.pads.sstopN = false from hlow, hhigh]
      exact Bool.false_ne_true
    · subst hhigh
      rfl
  · refine congrArg s.gives (Eq.trans (if_neg ?_) ?_)
    · rw [show s.dev.pads.sstopN = true from hhigh, hlow]
      exact Bool.false_ne_true.symm
    · subst hlow
      rfl

end Sys2Proof.Machine
end

section
/-! PROOFS. The rows of a tile link, by the state that the link is in (R183 to R206). -/
namespace Sys2Proof.Machine

/-! ### A frame that comes back -/

theorem Device.trainFrame_passes {d : Device} {t : Nat} (hframes : (d.tile t).frames ≠ 0) :
    d.trainFrame t true = d.modTile t (fun x => { x with
      trainHits := modNth (fun n => n + 1) ((x.frames - 1) / 2) x.trainHits }) :=
  if_pos (by simp [hframes])

theorem Device.trainFrame_fails {d : Device} {t : Nat} {passes : Bool}
    (h : passes = false ∨ (d.tile t).frames = 0) : d.trainFrame t passes = d :=
  if_neg (by rcases h with h | h <;> simp [h])

section
variable {d : Device} {t : Nat} (f : BitVec 3000) (diff : Nat) (crc echo : Bool)

/-- A frame in TRAIN tests a sampling phase. -/
theorem Device.judgeReturn_train (h : d.lstate t = 2) :
    d.judgeReturn t f diff crc echo = d.trainFrame t (diff == 0 && crc) := if_pos h

/-- A frame in CHECK counts toward the run of good ones, or leads back to TRAIN. -/
theorem Device.judgeReturn_check (h : d.lstate t = 3) : d.judgeReturn t f diff crc echo =
    if diff ≤ 2 ∧ (crc && echo) then
      ((d.takeStatus t f false).modTile t (fun x => { x with goodRun := x.goodRun + 1 })).takeFaults t (frameField f 40 32)
    else (d.badFrame t).setLstate t 2 :=
  (if_neg (by omega)).trans (if_pos h)

/-- A frame in UP is accepted, or its values are substituted until the sync is lost. -/
theorem Device.judgeReturn_up (h : d.lstate t = 4) : d.judgeReturn t f diff crc echo =
    if diff ≤ 2 ∧ (crc && echo) then d.acceptFrame t f
    else
      let a := (d.badFrame t).modTile t (fun x => { x with
        tag := .absent, syncLoss := if diff ≤ 2 then 0 else x.syncLoss + 1 })
      if 2 ≤ (a.tile t).syncLoss then a.wr Reg.TL_STAT.LSTATE t 5 else a.substitute t :=
  (if_neg (by omega)).trans ((if_neg (by omega)).trans (if_pos h))

/-- A frame in REALIGN ends it, or is bad. -/
theorem Device.judgeReturn_realign (h : d.lstate t = 5) : d.judgeReturn t f diff crc echo =
    if diff = 0 ∧ (crc && echo) then
      (((((d.wr Reg.TL_STAT.LSTATE t 4).modTile t (fun x => { x with syncDue := true })).count Reg.TL_CNT.REALIGN t).tlEvt t
        2).occur 0x05 t).acceptFrame t f
    else d.badFrame t :=
  (if_neg (by omega)).trans ((if_neg (by omega)).trans ((if_neg (by omega)).trans (if_pos h)))

/-- A frame in another state is not judged. -/
theorem Device.judgeReturn_other (h2 : d.lstate t ≠ 2) (h3 : d.lstate t ≠ 3) (h4 : d.lstate t ≠ 4) (h5 : d.lstate t ≠ 5) :
    d.judgeReturn t f diff crc echo = d :=
  (if_neg h2).trans ((if_neg h3).trans ((if_neg h4).trans (if_neg h5)))

end

/-! ### Telemetry and the end of a stop -/

/-- The telemetry entry of tile `t` is written where its ring has room, and is else dropped and counted (R200). -/
theorem Device.telemetry_full (d : Device) (t : Nat) (f : Tile → Bool → Tile) :
    (if d.ringTakes (80 + t) 32 1 = true then d.ringPush (80 + t) (d.telemetryBytes t)
      else (d.count Reg.TEL_DROPS.COUNT t).tlEvt t 12).modTile t (fun x => f x (!d.ringTakes (80 + t) 32 1))
    = (if d.ringTakes (80 + t) 32 1 = false then (d.count Reg.TEL_DROPS.COUNT t).tlEvt t 12
      else d.ringPush (80 + t) (d.telemetryBytes t)).modTile t
        (fun x => f x (decide (d.ringTakes (80 + t) 32 1 = false))) := by
  cases d.ringTakes (80 + t) 32 1 <;> rfl

/-- A link that is stopped starts again exactly where its enable is set and links may run. -/
theorem Device.startsAgain_iff (d : Device) (t : Nat) :
    (d.on Reg.TL_CTRL.EN t && d.running && !(d.power.step == .entering && decide (d.power.goal ≤ 1))) = true
      ↔ d.on Reg.TL_CTRL.EN t = true ∧ d.running = true ∧ ¬ (d.power.step = .entering ∧ d.power.goal ≤ 1) := by
  rw [Bool.and_eq_true, Bool.and_eq_true, Bool.not_eq_true', ← Bool.not_eq_true, Bool.and_eq_true, beq_iff_eq,
    decide_eq_true_eq, and_assoc]

theorem Device.stoppingEnd_again (d : Device) {t : Nat}
    (h : (d.setLstate t 0).finishTiles.on Reg.TL_CTRL.EN t = true ∧ (d.setLstate t 0).finishTiles.running = true
      ∧ ¬ ((d.setLstate t 0).finishTiles.power.step = .entering ∧ (d.setLstate t 0).finishTiles.power.goal ≤ 1)) :
    d.stoppingEnd t = (d.setLstate t 0).finishTiles.startLink t := by
  unfold Device.stoppingEnd
  exact if_pos ((Device.startsAgain_iff (d.setLstate t 0).finishTiles t).mpr h)

theorem Device.stoppingEnd_stays (d : Device) {t : Nat}
    (h : ¬ ((d.setLstate t 0).finishTiles.on Reg.TL_CTRL.EN t = true ∧ (d.setLstate t 0).finishTiles.running = true
      ∧ ¬ ((d.setLstate t 0).finishTiles.power.step = .entering ∧ (d.setLstate t 0).finishTiles.power.goal ≤ 1))) :
    d.stoppingEnd t = (d.setLstate t 0).finishTiles := by
  unfold Device.stoppingEnd
  exact if_neg (mt (Device.startsAgain_iff (d.setLstate t 0).finishTiles t).mp h)

/-! ### The rows -/

/-- What makes a frame bad: too many wrong sync bits, or a wrong CRC or echo. -/
theorem not_good {p : Prop} {good : Bool} (h : ¬ p ∨ good = false) : ¬ (p ∧ good = true) :=
  fun ⟨hp, hgood⟩ => h.elim (fun hn => hn hp) (fun hf => by rw [hf] at hgood; exact Bool.false_ne_true hgood)

/-- Settles O53. -/
theorem linkRowsAct : Obligations.LinkRowsAct := by
  unfold Obligations.LinkRowsAct
  intro s t frame order below above rtt d st good run
  have judged (e : Device) (h : d.judgeReturn t frame (syncDiff frame) (frameCrcOk frame) ((d.tile t).echoOk frame) = e) :
      exec (.returnFrame t frame) s = s.gives e := congrArg s.gives h
  have hin (hlow : 408 ≤ rtt.toNat) (hhigh : rtt.toNat ≤ 468) : ¬ (rtt.toNat < 408 ∨ 468 < rtt.toNat) := by omega
  refine ⟨fun h => congrArg s.gives (if_pos h), fun h0 h7 => congrArg s.gives (if_neg (not_or.mpr ⟨h0, h7⟩)),
    fun h2 h3 h4 h5 => judged d (d.judgeReturn_other _ _ _ _ h2 h3 h4 h5),
    fun h2 hsync hcrc hframes => judged _ ?_, fun h2 hbad => judged d ?_,
    fun h3 hsync hgood => judged _ ?_, fun h3 hbad => judged _ ?_, fun h4 hsync hgood => judged _ ?_,
    fun h4 hbad => judged _ ?_, fun h5 hsync hgood => judged _ ?_, fun h5 hbad => judged _ ?_,
    fun h1 h8 => congrArg s.gives (if_pos ⟨h1, h8⟩), fun h => congrArg s.gives (if_neg ?_),
    fun h2 h16 hrun => ?_, fun h2 h16 hrun => ?_, fun h => congrArg s.gives (if_neg ?_),
    fun h3 => congrArg s.gives (if_neg h3), fun h3 => ⟨fun hout => ?_, fun hlow hhigh hfit => ?_, fun hlow hhigh hfit => ?_⟩,
    fun h6 h4 => ⟨fun hagain => ?_, fun hagain => ?_⟩, fun h => congrArg s.gives (if_neg ?_),
    ⟨fun h => congrArg s.gives (if_pos h), fun h => congrArg s.gives (if_neg h)⟩,
    ⟨fun h => congrArg s.gives (if_pos h), fun h => congrArg s.gives (if_neg h)⟩,
    ⟨fun hdue heq => ?_, fun hdue hb ha => ?_, fun hdue hb ha => ?_, fun h => congrArg s.gives (if_neg h)⟩,
    ⟨fun h => congrArg s.gives (if_pos h), fun h => congrArg s.gives (if_neg h)⟩,
    ⟨fun hdue => congrArg s.gives ?_, fun h => congrArg s.gives (if_neg h)⟩⟩
  · rw [Device.judgeReturn_train _ _ _ _ h2, hsync, hcrc]
    exact Device.trainFrame_passes hframes
  · rw [Device.judgeReturn_train _ _ _ _ h2]
    refine Device.trainFrame_fails ?_
    rcases hbad with hsync | hcrc | hframes
    · exact .inl (by rw [beq_eq_false_iff_ne.mpr hsync, Bool.false_and])
    · exact .inl (by rw [hcrc, Bool.and_false])
    · exact .inr hframes
  · exact (Device.judgeReturn_check _ _ _ _ h3).trans (if_pos ⟨hsync, hgood⟩)
  · exact (Device.judgeReturn_check _ _ _ _ h3).trans (if_neg (not_good (hbad.imp_left Nat.not_le.mpr)))
  · exact (Device.judgeReturn_up _ _ _ _ h4).trans (if_pos ⟨hsync, hgood⟩)
  · exact (Device.judgeReturn_up _ _ _ _ h4).trans (if_neg (not_good (hbad.imp_left Nat.not_le.mpr)))
  · exact (Device.judgeReturn_realign _ _ _ _ h5).trans (if_pos ⟨hsync, hgood⟩)
  · exact (Device.judgeReturn_realign _ _ _ _ h5).trans (if_neg (not_good hbad))
  · exact fun ⟨h1, h8⟩ => h.elim (fun hn => hn h1) (Nat.not_lt.mpr h8)
  · have hphase : (d.tile t).trainPhase order = some ((run.1 + (run.2 - 1) / 2) % 8) := if_pos hrun
    refine congrArg s.gives ((if_pos ⟨h2, h16⟩).trans ?_)
    rw [hphase]
  · have hphase : (d.tile t).trainPhase order = none := if_neg (Nat.not_le.mpr hrun)
    refine congrArg s.gives ((if_pos ⟨h2, h16⟩).trans ?_)
    rw [hphase]
  · exact fun ⟨h2, h16⟩ => h.elim (fun hn => hn h2) (Nat.not_lt.mpr h16)
  · exact congrArg s.gives ((if_pos h3).trans (if_pos hout))
  · exact congrArg s.gives ((if_pos h3).trans ((if_neg (hin hlow hhigh)).trans (if_pos hfit)))
  · exact congrArg s.gives ((if_pos h3).trans ((if_neg (hin hlow hhigh)).trans (if_neg hfit)))
  · exact congrArg s.gives ((if_pos ⟨h6, h4⟩).trans (d.stoppingEnd_again hagain))
  · exact congrArg s.gives ((if_pos ⟨h6, h4⟩).trans (d.stoppingEnd_stays hagain))
  · exact fun ⟨h6, h4⟩ => h.elim (fun hn => hn h6) (Nat.not_lt.mpr h4)
  · exact congrArg s.gives ((if_pos hdue).trans (if_pos heq))
  · subst hb ha
    exact congrArg s.gives ((if_pos hdue).trans (if_neg Bool.false_ne_true))
  · subst hb ha
    exact congrArg s.gives ((if_pos hdue).trans (if_neg Bool.false_ne_true.symm))
  · exact (if_pos hdue).trans (d.telemetry_full t (fun x drop => { x with
      telCnt := 0, telSum := List.replicate 10 0, telN := 0, telFlags := 0, telDrop := drop }))

end Sys2Proof.Machine
end

section
/-! PROOFS. The offset of a link at a whole tick (R35), and the events that no table lists (R549). -/
namespace Sys2Proof.Machine

/-! ### Rounding -/

/-- A quotient that `roundDiv` rounds is within one half of the result; one half itself is rounded away from zero. -/
theorem roundDiv_nearest (num : Int) {den : Nat} (hden : 0 < den) :
    2 * (roundDiv num den * den - num).natAbs ≤ den
      ∧ (2 * (roundDiv num den * den - num).natAbs = den → num.natAbs < (roundDiv num den).natAbs * den) := by
  obtain ⟨q, hq⟩ : ∃ q, q = (2 * num.natAbs + den) / (2 * den) := ⟨_, rfl⟩
  have hlow : 2 * (q * den) ≤ 2 * num.natAbs + den := by
    have h := Nat.div_mul_le_self (2 * num.natAbs + den) (2 * den)
    rw [← hq] at h
    linarith
  have hhigh : 2 * num.natAbs + den < 2 * (q * den) + 2 * den := by
    have h := Nat.lt_div_mul_add (a := 2 * num.natAbs + den) (b := 2 * den) (by omega)
    rw [← hq] at h
    linarith
  have hround : roundDiv num den = if num < 0 then -(q : Int) else q := by rw [hq]; rfl
  rw [hround]
  have hcast : (q : Int) * den = ((q * den : Nat) : Int) := by push_cast; ring
  split
  · rw [Int.neg_mul, hcast, Int.natAbs_neg, Int.natAbs_natCast]
    omega
  · rw [hcast, Int.natAbs_natCast]
    omega

/-- A whole quotient is what it rounds to. -/
theorem roundDiv_mul_self (x : Int) {den : Nat} (hden : 0 < den) : roundDiv (x * den) den = x := by
  obtain ⟨hnear, -⟩ := roundDiv_nearest (x * den) hden
  rw [← Int.sub_mul, Int.natAbs_mul, Int.natAbs_natCast] at hnear
  by_contra hne
  have hpos : 1 ≤ (roundDiv (x * den) den - x).natAbs := Int.natAbs_pos.mpr (sub_ne_zero.mpr hne)
  have := Nat.mul_le_mul_right den hpos
  omega

/-- A common factor does not change what a quotient rounds to. -/
theorem roundDiv_mul_right (num : Int) (den : Nat) {k : Nat} (hk : 0 < k) :
    roundDiv (num * k) (den * k) = roundDiv num den := by
  have hquot : (2 * (num * k).natAbs + den * k) / (2 * (den * k)) = (2 * num.natAbs + den) / (2 * den) := by
    rw [Int.natAbs_mul, Int.natAbs_natCast, show 2 * (num.natAbs * k) + den * k = (2 * num.natAbs + den) * k by ring,
      show 2 * (den * k) = 2 * den * k by ring, Nat.mul_div_mul_right _ _ hk]
  have hsign : num * k < 0 ↔ num < 0 := by
    have hk' : (0 : Int) < k := by exact_mod_cast hk
    exact ⟨fun h => by_contra fun hn => absurd (Int.mul_nonneg (not_lt.mp hn) hk'.le) (not_le.mpr h),
      fun h => Int.mul_neg_of_neg_of_pos h hk'⟩
  simp only [roundDiv, hquot, hsign]

/-! ### Link offsets -/

/-- The numerator of the Hermite segment of link `l` at tick `tau`, over T³ and in 2^-24 counts (R35). -/
def Link.hermite (l : Link) (v0 : Int) (tau : Nat) : Int :=
  l.delta * 2 ^ 24 * (3 * (tau : Int) ^ 2 * l.duration - 2 * (tau : Int) ^ 3)
    + 2 ^ 8 * l.duration * (v0 * ((tau : Int) ^ 3 - 2 * (tau : Int) ^ 2 * l.duration + tau * (l.duration : Int) ^ 2)
      + l.endVel * ((tau : Int) ^ 3 - (tau : Int) ^ 2 * l.duration))

theorem Link.offset_wholeTick {l : Link} (h : l.unbounded = false) (v0 : Int) (tau : Nat) :
    l.offset v0 (tau * 65535) = roundDiv (l.hermite v0 tau) (l.duration ^ 3) := by
  rw [← roundDiv_mul_right _ _ (k := fullScale ^ 3) (by decide)]
  unfold Link.offset
  simp only [h, Bool.false_eq_true, if_false]
  congr 1
  simp only [Link.hermite, fullScale]
  push_cast
  ring

theorem Link.hermite_start (l : Link) (v0 : Int) : l.hermite v0 0 = 0 := by
  simp [Link.hermite]

theorem Link.hermite_end (l : Link) (v0 : Int) :
    l.hermite v0 l.duration = l.delta * 2 ^ 24 * ((l.duration ^ 3 : Nat) : Int) := by
  simp only [Link.hermite]
  push_cast
  ring

/-- Settles O59: the chain time of a whole tick cancels, and what is left is a rounded quotient. -/
theorem linkOffsetIsTheNearestInteger : Obligations.LinkOffsetIsTheNearestInteger := by
  unfold Obligations.LinkOffsetIsTheNearestInteger
  intro l v0 tau hfinite hduration _ x u num off
  have hpos : 0 < l.duration ^ 3 := Nat.pow_pos (Nat.pos_of_ne_zero hduration)
  have hoff : off = roundDiv (l.hermite v0 tau) (l.duration ^ 3) := Link.offset_wholeTick hfinite v0 tau
  have hcube : u ^ 3 = ((l.duration ^ 3 : Nat) : Int) := by push_cast; rfl
  obtain ⟨hnear, htie⟩ := roundDiv_nearest (l.hermite v0 tau) hpos
  rw [hoff, hcube]
  refine ⟨hnear, htie, fun hstart => ?_, fun hend => ?_⟩
  · rw [hstart, Link.hermite_start]
    simpa using roundDiv_mul_self 0 hpos
  · rw [hend, Link.hermite_end, roundDiv_mul_self _ hpos]

/-! ### The listed events -/

/-- A run of pairs of numbers is an interval. -/
theorem exists_pair_iff (e base count : Nat) :
    (∃ n < count, e = base + 2 * n ∨ e = base + 1 + 2 * n) ↔ base ≤ e ∧ e < base + 2 * count := by
  constructor
  · rintro ⟨n, hn, h | h⟩ <;> omega
  · rintro ⟨hlow, hhigh⟩
    exact ⟨(e - base) / 2, by omega, by omega⟩

/-- A run of numbers is an interval. -/
theorem exists_offset_iff (e base count : Nat) : (∃ n < count, e = base + n) ↔ base ≤ e ∧ e < base + count := by
  constructor
  · rintro ⟨n, hn, h⟩
    omega
  · rintro ⟨hlow, hhigh⟩
    exact ⟨e - base, by omega, by omega⟩

/-- The events of Table 19.1, as numbers and intervals. -/
theorem eventListed_iff (e : Nat) : eventListed e = true ↔
    (e = 0 ∨ e = 4 ∨ (8 ≤ e ∧ e ≤ 10) ∨ e = 12 ∨ e = 16 ∨ e = 17 ∨ e = 20 ∨ (32 ≤ e ∧ e ≤ 35) ∨ e = 48
      ∨ (∃ n < 64, e = 64 + 2 * n ∨ e = 65 + 2 * n) ∨ (∃ k < 68, e = 192 + k) ∨ (∃ t < 16, e = 260 + 2 * t ∨ e = 261 + 2 * t)
      ∨ (∃ n < 40, e = 292 + n) ∨ (332 ≤ e ∧ e ≤ 343) ∨ (352 ≤ e ∧ e ≤ 359) ∨ (360 ≤ e ∧ e ≤ 365) ∨ (376 ≤ e ∧ e ≤ 399)
      ∨ e = 400 ∨ e = 401 ∨ e = 416 ∨ e = 417 ∨ (432 ≤ e ∧ e ≤ 511)) := by
  rw [exists_pair_iff e 64 64, exists_offset_iff e 192 68, exists_pair_iff e 260 16, exists_offset_iff e 292 40]
  simp only [eventListed, Bool.or_eq_true, Bool.and_eq_true, decide_eq_true_eq, List.contains_iff_mem, List.mem_cons,
    List.not_mem_nil, or_false]
  omega

/-! ### The routing bytes -/

/-- The routing byte of event `e` as its register holds it, whether or not the event is listed. -/
def Device.routeByte (d : Device) (e : Nat) : Nat := bitsOf (d.rd Reg.EV_ROUTE.ROUTE (e / 4)) (8 * (e % 4)) 8

theorem Device.busField_route (d : Device) (i : Nat) : d.busField Reg.EV_ROUTE.ROUTE i = d.rd Reg.EV_ROUTE.ROUTE i := rfl

/-- A byte that is put in a word leaves the other bytes of the word. -/
theorem bitsOf_putByte (w v : Nat) {a b : Nat} (ha : a < 4) (hb : b < 4) (hne : a ≠ b) :
    bitsOf ((w - bitsOf w (8 * a) 8 * 2 ^ (8 * a) + v % 128 * 2 ^ (8 * a)) % 2 ^ 32) (8 * b) 8 = bitsOf w (8 * b) 8 := by
  simp only [bitsOf, Nat.shiftRight_eq_div_pow]
  interval_cases a <;> interval_cases b <;> omega

/-- A routing byte that is given changes no other, and none of an event that is not listed. -/
theorem Device.routeByte_setRoute (d : Device) {e : Nat} (hunlisted : eventListed e = false) (n v : Nat) :
    (d.setRoute n v).routeByte e = d.routeByte e := by
  unfold Device.setRoute
  split
  · next hlisted =>
    have hne : n ≠ e := fun h => by rw [h, hunlisted] at hlisted; exact Bool.false_ne_true hlisted
    unfold Device.routeByte
    by_cases hword : n / 4 = e / 4
    · rw [hword, Device.rd_wr_same]
      exact bitsOf_putByte _ v (by omega) (by omega) (by omega)
    · have hn : Reg.EV_ROUTE.ROUTE.key (n / 4) = (0x1000 + 4 * (n / 4)) * 8 := rfl
      have he : Reg.EV_ROUTE.ROUTE.key (e / 4) = (0x1000 + 4 * (e / 4)) * 8 := rfl
      rw [d.rd_wr_other (.inr (by omega))]
  · rfl

/-- The routing words are none of the registers that events and the scheduler write. -/
theorem route_beyond {i : Nat} (hi : i < 128) : beyondEvents Reg.EV_ROUTE.ROUTE i ∧ beyondSched Reg.EV_ROUTE.ROUTE i := by
  have hkey : Reg.EV_ROUTE.ROUTE.key i = (0x1000 + 4 * i) * 8 := rfl
  have hint : Reg.INT_STAT.ACTIVE.key 0 = 0x1254 * 8 := rfl
  have hring : Reg.RING_PI.PI.key 144 = 0x2908 * 8 := rfl
  have hdrops : Reg.LOG_STAT.EV_DROPS.key 0 = 0x1258 * 8 := rfl
  have hfault : Reg.FAULT_EVT.CAUSE.key 0 = 0x1444 * 8 := rfl
  have hflight : Reg.MB_STAT.IN_FLIGHT.key 0 = 0x3004 * 8 + 1 := rfl
  exact ⟨⟨.inr ⟨by omega, by omega⟩, .inr ⟨by omega, by omega, by omega⟩⟩, .inr ⟨by omega, by omega⟩⟩

section
variable {i : Nat} (hi : i < 128)
include hi

/-- A ring's index is no routing word. -/
theorem Device.ringPush_route (d : Device) (r : Nat) (bs : List Byte) :
    (d.ringPush r bs).rd Reg.EV_ROUTE.ROUTE i = d.rd Reg.EV_ROUTE.ROUTE i := by
  have hring : Reg.RING_PI.PI.key r = (0x2008 + 0x10 * r) * 8 := rfl
  have hkey : Reg.EV_ROUTE.ROUTE.key i = (0x1000 + 4 * i) * 8 := rfl
  have hput := d.ringPut_rd r bs (g := Reg.EV_ROUTE.ROUTE) (j := i) (.inr (by omega))
  unfold Device.ringPush Device.ringEvt
  split
  · rw [Device.latchEvent_rd _ _ (route_beyond hi).1, hput]
  · exact hput

theorem Device.setTaskFlags_route (d : Device) (v : Nat) :
    (d.setTaskFlags v).rd Reg.EV_ROUTE.ROUTE i = d.rd Reg.EV_ROUTE.ROUTE i := by
  have hlow : Reg.TASK_FLAGS.FLAGS.key 0 = 0x3050 * 8 := rfl
  have hhigh : Reg.TASK_FLAGS.FLAGS.key 1 = 0x3054 * 8 := rfl
  have hkey : Reg.EV_ROUTE.ROUTE.key i = (0x1000 + 4 * i) * 8 := rfl
  unfold Device.setTaskFlags
  rw [Device.rd_wr_other _ (.inr (by omega)), Device.rd_wr_other _ (.inr (by omega))]

/-- A completion that is written writes no routing word. -/
theorem Device.writeCpl_route (d : Device) (h : HeldCpl) (late : Bool) :
    (d.writeCpl h late).rd Reg.EV_ROUTE.ROUTE i = d.rd Reg.EV_ROUTE.ROUTE i := by
  unfold Device.writeCpl
  extract_lets bs d1 k d2
  have hpush : d1.rd Reg.EV_ROUTE.ROUTE i = d.rd Reg.EV_ROUTE.ROUTE i := d.ringPush_route hi _ bs
  have hflags : d2.rd Reg.EV_ROUTE.ROUTE i = d.rd Reg.EV_ROUTE.ROUTE i := by
    unfold d2
    split
    · rw [Device.modSched_rd, Device.setTaskFlags_route hi, hpush]
    · exact hpush
  rw [Device.refreshSched_rd _ (route_beyond hi).2, Device.modSched_rd, hflags]

theorem Device.complete_route (d : Device) (tag : Nat) (st : Status) (noEffect : Bool) (result : List Byte) :
    (d.complete tag st noEffect result).rd Reg.EV_ROUTE.ROUTE i = d.rd Reg.EV_ROUTE.ROUTE i := by
  have hmb : Reg.MB_EVT.CAUSE.key 0 = 0x3008 * 8 := rfl
  have hkey : Reg.EV_ROUTE.ROUTE.key i = (0x1000 + 4 * i) * 8 := rfl
  have hdeliver (e : Device) (h : HeldCpl) : (e.deliver h).rd Reg.EV_ROUTE.ROUTE i = e.rd Reg.EV_ROUTE.ROUTE i := by
    unfold Device.deliver Device.mbEvt
    split
    · exact e.writeCpl_route hi h false
    · rw [Device.cause_rd _ _ _ _ _ _ (route_beyond hi).1 (.inr (by omega)), Device.refreshSched_rd _ (route_beyond hi).2,
        Device.modSched_rd]
  unfold Device.complete
  split
  · rfl
  · split
    · rfl
    · rw [hdeliver, Device.modTask, Device.modSched_rd]

end

/-- The interrupt outputs are no routing word. -/
theorem Device.routeByte_refreshInts (d : Device) {e : Nat} (he : e < 512) :
    d.refreshInts.routeByte e = d.routeByte e := by
  unfold Device.routeByte
  rw [d.refreshInts_rd (route_beyond (by omega)).1.1]

/-- A bus write of a routing word leaves the bytes of the events that are not listed. -/
theorem Device.routeByte_writeRoute (d : Device) {e : Nat} (he : e < 512) (hunlisted : eventListed e = false)
    (i data mask : Nat) : (d.writeRoute i data mask).routeByte e = d.routeByte e := by
  unfold Device.writeRoute
  rw [Device.routeByte_refreshInts _ he]
  refine Device.each_keeps (fun x => x.routeByte e) (fun b x => ?_) d 4
  split
  · rfl
  · exact x.routeByte_setRoute hunlisted _ _

theorem Device.routeByte_busWrite (d : Device) {e : Nat} (he : e < 512) (hunlisted : eventListed e = false) {i : Nat}
    (hi : i < 128) (v : Nat) : (d.busWrite (0x1000 + 4 * i) v).routeByte e = d.routeByte e := by
  cases hbus : d.busOff with
  | true => rw [Device.busWrite_off hbus]
  | false =>
    rw [Device.busWrite, Device.writeReg_route hbus (by omega) (by omega)]
    exact d.routeByte_writeRoute he hunlisted _ _ _

/-- EVT_ROUTE leaves the bytes of the events that are not listed, whatever range it names. -/
theorem Device.routeByte_runEvtRoute (d : Device) {e : Nat} (he : e < 512) (hunlisted : eventListed e = false) (tag : Nat) :
    (runEvtRoute tag d).routeByte e = d.routeByte e := by
  unfold runEvtRoute
  extract_lets en x
  have hcomplete : (x.refreshInts.ok tag false []).routeByte e = x.refreshInts.routeByte e := by
    unfold Device.routeByte Device.ok
    rw [Device.complete_route (by omega)]
  rw [hcomplete, Device.routeByte_refreshInts _ he]
  exact Device.each_keeps (fun y => y.routeByte e) (fun k y => y.routeByte_setRoute hunlisted _ _) d _

/-- No routing byte is set after reset. -/
theorem reset_route : ∀ i < 128, State.reset.dev.rd Reg.EV_ROUTE.ROUTE i = 0 := by decide +kernel

/-- Settles O60. -/
theorem reservedEventsNeverLatch : Obligations.ReservedEventsNeverLatch := by
  unfold Obligations.ReservedEventsNeverLatch
  refine ⟨eventListed_iff, fun d e h => ⟨if_pos (by rw [h]; rfl), if_neg (by rw [h]; exact Bool.false_ne_true), fun v =>
    if_neg (by rw [h]; exact Bool.false_ne_true)⟩, fun e he h => ?_, fun s t i v e he h hnext => ?_,
    fun s t en e he h haccepts hnext => ?_⟩
  · rw [Device.busField_route, reset_route _ (by omega)]
    simp [bitsOf]
  · have haddr : (BitVec.ofNat 32 (0x1000 + 4 * i)).toNat = 0x1000 + 4 * i := by
      rw [BitVec.toNat_ofNat]
      omega
    have hword : ¬ ((0x1000 + 4 * i.val) % 4 ≠ 0 ∨ true = false) := by
      simp only [Bool.true_eq_false, or_false]
      omega
    have hrow := exec_registerWrite_cases (BitVec.ofNat 32 (0x1000 + 4 * i)) v s
    rw [haddr, window_mapped (by omega), if_neg hword, Device.writeAt, if_pos (by omega), hnext] at hrow
    obtain rfl : t = { s with dev := s.dev.busWrite (0x1000 + 4 * i) v.toNat } := Host.Outcome.next.inj hrow
    exact s.dev.routeByte_busWrite he h i.isLt v.toNat
  · have hrow : exec (.evtRoute en) s = s.gives (runEvtRoute (s.dev.tagFor en) (s.dev.begun 0x0D03 en)) :=
      exec_accepted haccepts rfl rfl
    rw [hrow] at hnext
    obtain rfl := Host.Outcome.next.inj hnext
    refine (Device.routeByte_runEvtRoute _ he h _).trans ?_
    unfold Device.routeByte
    rw [s.dev.begun_rd 0x0D03 en (route_beyond (by omega)).2]
    rfl

end Sys2Proof.Machine
end

section
/-! PROOFS. The reset state, the boot, the supply and clock rows (R355, R527, R607), and the edge of the grain clock (R303). -/
namespace Sys2Proof.Machine

/-! ### Reset -/

/-- Every axis is OFF at position 0, LOST and on its own engine after reset. -/
theorem reset_axes : ∀ n : Fin 64, State.reset.dev.axSt n = stOff ∧ State.reset.dev.posNow n = 0
    ∧ State.reset.dev.rd Reg.AX_STAT.POS_STATE n = posLost ∧ State.reset.dev.rd Reg.AX_STAT.ENGINE n = n.val := by
  decide +kernel

/-- Settles O6. -/
theorem resetLeaves : Obligations.ResetLeaves := by
  unfold Obligations.ResetLeaves
  refine ⟨⟨by decide, by decide⟩, rfl, rfl, rfl, by decide +kernel, by decide +kernel, reset_axes, by decide +kernel,
    by decide +kernel, by decide +kernel, by decide +kernel, by decide +kernel, by decide +kernel, rfl⟩

/-! ### The boot -/

/-- MB_READY is none of the registers that the ends of the boot write after it. -/
theorem Device.usbPull_mbReady (d : Device) : d.usbPull.on Reg.MB_STAT.MB_READY = d.on Reg.MB_STAT.MB_READY := by
  have hevt (x : Device) (b : Nat) : (x.usbEvt b).rd Reg.MB_STAT.MB_READY = x.rd Reg.MB_STAT.MB_READY :=
    x.cause_rd _ _ _ _ _ (by unfold beyondEvents beyondLatches; decide) (by unfold apart; decide)
  have hstate (x : Device) (k : Nat) : (x.usbState k false).rd Reg.MB_STAT.MB_READY = x.rd Reg.MB_STAT.MB_READY := by
    unfold Device.usbState
    rw [Device.rd_wr_other _ (by unfold apart; decide), Device.rd_wr_other _ (by unfold apart; decide),
      Device.rd_wr_other _ (by unfold apart; decide), Device.rd_wr_other _ (by unfold apart; decide)]
  have hforget (x : Device) : x.usbForget.rd Reg.MB_STAT.MB_READY = x.rd Reg.MB_STAT.MB_READY := rfl
  unfold Device.usbPull Device.on
  extract_lets want
  split
  · rfl
  · split <;> rw [hevt, hstate, hforget]

/-- MB_READY is set when the boot is over (R240). -/
theorem Device.bootEnds_mbReady (d : Device) : d.bootEnds.on Reg.MB_STAT.MB_READY = true := by
  unfold Device.bootEnds
  extract_lets a
  have hready : a.rd Reg.MB_STAT.MB_READY = 1 := Device.rd_wr_same ..
  have hshow (x : Device) : x.showClocks.rd Reg.MB_STAT.MB_READY = x.rd Reg.MB_STAT.MB_READY :=
    x.showClocks_rd (by unfold apart; decide)
  rw [Device.usbPull_mbReady, Device.on, show ∀ x : Device, x.refreshSrdy.rd Reg.MB_STAT.MB_READY
    = x.rd Reg.MB_STAT.MB_READY from fun _ => rfl, hshow, Device.modPower_rd, hready]
  rfl

theorem Device.boot_mbReady (d : Device) (r : BootReport) (f : Fuses) :
    (d.boot r f).1.on Reg.MB_STAT.MB_READY = true := by
  unfold Device.boot
  extract_lets a b
  split
  split
  split
  dsimp only
  exact Device.bootEnds_mbReady _

/-- A boot that is over, or that may not begin, does nothing. -/
theorem exec_boot_idle {s : State} (r : BootReport)
    (h : s.dev.power.por = true ∨ s.dev.power.devrst = true ∨ s.dev.on Reg.MB_STAT.MB_READY = true) :
    exec (.boot r) s = .next s := by
  refine if_pos ?_
  rcases h with h | h | h <;> rw [h] <;> simp only [Bool.true_or, Bool.or_true]

theorem exec_boot_runs {s : State} {r : BootReport} (hpor : s.dev.power.por = false) (hrst : s.dev.power.devrst = false)
    (hready : s.dev.on Reg.MB_STAT.MB_READY = false) : exec (.boot r) s
      = if bitOf (s.dev.rd Reg.BO_STAT.OK) 4 = true
        then .next { s with dev := (s.dev.boot r s.fuses).1, fuses := (s.dev.boot r s.fuses).2 }
        else s.gives (s.dev.modPower (fun p => { p with bootWaits := true })) := by
  refine (if_neg (by rw [hpor, hrst, hready]; exact Bool.false_ne_true)).trans ?_
  cases h : bitOf (s.dev.rd Reg.BO_STAT.OK) 4
  · exact if_pos rfl
  · exact if_neg Bool.false_ne_true

/-- A boot that has set MB_READY does not run again. -/
theorem exec_boot_once {s : State} {r : BootReport} {d : Device} {f : Fuses}
    (h : exec (.boot r) s = .next { s with dev := d, fuses := f }) (hready : d.on Reg.MB_STAT.MB_READY = true) (t : State)
    (ht : exec (.boot r) s = .next t) : exec (.boot r) t = .next t := by
  obtain rfl := Host.Outcome.next.inj (h.symm.trans ht)
  exact exec_boot_idle r (.inr (.inr hready))

/-! ### Supplies -/

/-- A supply below its warning threshold is a warning, seen once (R355). -/
theorem Device.warn_low (d : Device) {io mram : Bool} (h : (io || mram) = true) :
    d.warn io mram = ((if d.boWarn then (d.showSupplies io mram).comparator 3 true
      else ((((d.showSupplies io mram).comparator 3 true).count Reg.BO_CNT.COUNT).wr Reg.BO_STAT.BO_WARN_SEEN 0 1).pwrEvt
        4).stopStore 1).stopImage 1 := by
  unfold Device.warn
  rw [if_pos h]
  cases d.boWarn <;> rfl

/-- With both supplies back VDD_MRAM is shown, and nothing waits for it. -/
theorem Device.showSupplies_back (d : Device) : d.showSupplies false false
    = (d.comparator 4 true).modPower (fun p => { p with ioWarn := false, bootWaits := false }) := by
  simp only [Device.showSupplies, Bool.not_false, Bool.and_false]

/-- With both supplies back a warning ends (R355). -/
theorem Device.warn_clear (d : Device) : d.warn false false
    = let a := (d.comparator 4 true).modPower (fun p => { p with ioWarn := false, bootWaits := false })
      if d.boWarn then (a.comparator 3 false).pwrEvt 5 else a := by
  unfold Device.warn
  rw [Device.showSupplies_back]
  cases d.boWarn <;> rfl

/-- The supplies that a warning names are shown, VDD_MRAM in BO_STAT. -/
theorem Device.showSupplies_eq (d : Device) (w : WarnSupply) : d.showSupplies (w != .vddMram) (w != .vddioA)
    = (d.comparator 4 (decide ¬ (w = .vddMram ∨ w = .both))).modPower (fun p => { p with
        ioWarn := decide (w = .vddioA ∨ w = .both), bootWaits := p.bootWaits && decide (w = .vddMram ∨ w = .both) }) := by
  have hio : (w != .vddMram) = decide (w = .vddioA ∨ w = .both) := by cases w <;> rfl
  have hmram : (w != .vddioA) = decide (w = .vddMram ∨ w = .both) := by cases w <;> rfl
  rw [hio, hmram, decide_not]
  rfl

/-- Settles O47. -/
theorem bootSupplyAndClockRowsAct : Obligations.BootSupplyAndClockRowsAct := by
  unfold Obligations.BootSupplyAndClockRowsAct
  refine ⟨fun s r => ⟨fun h => exec_boot_idle r h, fun hpor hrst hmb hlow => ?_, fun hpor hrst hmb hready => ?_⟩,
    fun s w low => ⟨?_, ⟨fun hwarn => ?_, fun hwarn => ?_⟩, rfl, fun hcrystal => ?_, fun hcrystal => ?_, fun hpor => ⟨?_, ?_⟩,
      fun hpor => ?_, fun hpor hcrystal => ?_, fun hpor hcrystal => ?_, rfl⟩⟩
  · exact (exec_boot_runs hpor hrst hmb).trans (if_neg (by rw [hlow]; exact Bool.false_ne_true))
  · have hboot := (exec_boot_runs (r := r) hpor hrst hmb).trans (if_pos hready)
    exact ⟨hboot, s.dev.boot_mbReady r s.fuses, exec_boot_once hboot (s.dev.boot_mbReady r s.fuses)⟩
  · intro io mram a b c
    have ha : s.dev.showSupplies (w != .vddMram) (w != .vddioA) = a := s.dev.showSupplies_eq w
    refine congrArg s.gives ((s.dev.warn_low (by cases w <;> rfl)).trans ?_)
    rw [ha]
  · exact congrArg s.gives (s.dev.warn_clear.trans (if_pos hwarn))
  · exact congrArg s.gives (s.dev.warn_clear.trans (if_neg (Bool.not_eq_true _ ▸ hwarn)))
  · exact congrArg s.gives (if_pos hcrystal)
  · exact congrArg s.gives (if_neg (Bool.not_eq_true _ ▸ hcrystal))
  · exact congrArg s.gives (if_pos hpor)
  · exact congrArg s.gives (if_pos (by rw [hpor, Bool.or_true]))
  · exact congrArg s.gives (if_neg (Bool.not_eq_true _ ▸ hpor))
  · exact congrArg s.gives (if_pos (by rw [hcrystal, Bool.true_or]))
  · exact congrArg s.gives (if_neg (by rw [hcrystal, hpor]; exact Bool.false_ne_true))

/-! ### The edge of the grain clock -/

/-- The counts of occurrences that a grain edge ages. -/
def Device.ageCounts (d : Device) : Device :=
  (List.range 25).foldl (fun e c => if e.events.units.any (fun x => x.cls == c) then e.refreshScr c else e) d

theorem Device.ageCounts_mem (d : Device) : d.ageCounts.mem = d.mem := by
  refine Device.each_keeps Device.mem (fun c x => ?_) d 25
  split
  · unfold Device.refreshScr
    rw [Device.wr_mem, Device.wr_mem]
  · rfl

theorem Device.showClocks_mem_of (d : Device) (held : Bool) : (if held then d else d.showClocks).mem = d.mem := by
  cases held <;> rfl

/-- A copy of class G reads the live value that it has just taken. -/
theorem Device.busField_edge (d : Device) {f : Field} (hf : f.acc = .rcBG) (i : Nat) :
    { d with regs := d.regs.edge }.busField f i = { d with regs := d.regs.edge }.rd f i := by
  simp only [Device.busField, Device.rd, hf]
  rfl

/-- Settles O48. -/
theorem grainEdgesRefreshTheCopies : Obligations.GrainEdgesRefreshTheCopies := by
  unfold Obligations.GrainEdgesRefreshTheCopies
  intro s d a b c e
  refine ⟨⟨_, rfl⟩, fun hpor => congrArg s.gives (if_pos hpor), fun hpor => ?_,
    ⟨rfl, rfl⟩, fun f i hf => c.busField_edge hf i, ?_⟩
  · have hrow : exec .grainClockEdge s = s.gives s.dev.grainEdge := rfl
    rw [hrow]
    unfold Device.grainEdge e c b a
    rw [hpor, if_neg Bool.false_ne_true]
  · have hb : b = a.ageCounts := rfl
    have hmem : b.mem = d.mem := by
      rw [hb, Device.ageCounts_mem]
      rfl
    clear_value b
    rw [← hmem]
    exact b.showClocks_mem_of _

end Sys2Proof.Machine
end

section
/-! PROOFS. The power-mode rows (R342 to R360). -/
namespace Sys2Proof.Machine

/-! ### Wakes -/

theorem Device.wake_idle {d : Device} {source : Nat} (h : d.wakeMode source = none ∨ d.wakeActs source = false) :
    d.wake source = d := by
  unfold Device.wake
  split
  · rfl
  · next m hm =>
    refine if_neg ?_
    rcases h with h | h
    · rw [h] at hm
      cases hm
    · rw [h]
      exact Bool.false_ne_true

theorem Device.wake_acts {d : Device} {source m : Nat} (hmode : d.wakeMode source = some m) (hacts : d.wakeActs source = true) :
    d.wake source = (if source = 0 then d else d.turnNormal).wakeTo source m := by
  unfold Device.wake
  rw [hmode]
  exact if_pos hacts

section
variable (e : Device) (source m : Nat)

/-- The wake raises the goal of the rise under way. -/
def Device.wakeFurther : Device := e.modPower (fun p => { p with wakeGoal := max p.wakeGoal m })

/-- The wake abandons an entry to GRAIN or DOZE that is no excursion's return. -/
def Device.wakeAbandons : Device := if e.power.target ≤ 1 ∧ e.power.excursion = none then e.abandonEntry m else e

/-- A wake by the step under way (R344, R349). -/
theorem Device.wakeTo_eq : e.wakeTo source m = match e.power.step with
    | .rising => e.wakeFurther m
    | .committed => if e.power.wakeLate then e.wakeFurther m else e.raiseFrom source m
    | .entering => if e.power.target = 2 then e.wakeFurther m else e.wakeAbandons m
    | .deferred => e.wakeAbandons m
    | .ready => e.wakeAbandons m
    | .none => if e.mode < m then e.raiseFrom source m else e := by
  have habandon : (if e.power.target ≤ 1 ∧ e.power.excursion.isNone then e.abandonEntry m else e) = e.wakeAbandons m := by
    simp only [Device.wakeAbandons, Option.isNone_iff_eq_none]
  unfold Device.wakeTo
  extract_lets p abandon further
  rw [show abandon = e.wakeAbandons m from habandon]
  rfl

end

/-! ### Deferral -/

theorem Device.deferralEnd_idle {d : Device} (h : d.power.step ≠ .deferred) : d.deferralEnd = d := if_pos h

theorem Device.deferralEnd_checks {d : Device} (h : d.power.step = .deferred) :
    d.deferralEnd = let e := d.endPhrase (d.mode - 1)
      if e.deferCause (e.mode - 1) ≠ 0 then e.deferStep (e.deferCause (e.mode - 1)) else e.lower .aborted :=
  if_neg (not_not.mpr h)

/-! ### The end of a step -/

section
variable {d : Device} (micros : Nat)

theorem Device.modeStepDone_idle (h : d.power.step = .none ∨ d.power.step = .deferred ∨ d.power.step = .ready
    ∨ (d.cyclic.frozen = true ∧ d.changesBusClock = true)) : d.modeStepDone micros = d := by
  unfold Device.modeStepDone
  split
  · rfl
  · next hfree =>
    rcases h with h | h | h | ⟨hfrozen, hclock⟩
    · rw [h]
    · rw [h]
    · rw [h]
    · rw [hfrozen, hclock] at hfree
      exact absurd rfl hfree

theorem not_clockHeld (h : d.cyclic.frozen = false ∨ d.changesBusClock = false) :
    ¬ (d.cyclic.frozen && d.changesBusClock) = true := by
  rcases h with h | h <;> rw [h] <;> simp only [Bool.false_and, Bool.and_false, Bool.false_eq_true, not_false_eq_true]

/-- The device with a step's time counted. -/
def Device.stepTimed (d : Device) : Device := d.modPower (fun p => { p with micros := p.micros + micros })

/-- The device with a step's time counted, but for the rise of a wake from GRAIN. -/
def Device.riseTimed (d : Device) : Device :=
  d.modPower (fun p => { p with micros := if p.target = 0 then p.micros else p.micros + micros })

/-- The device once an excursion that returns has reached the mode that it left. -/
def Device.excursionOver (d : Device) (g : Nat) : Device :=
  if d.power.excursion = some g then d.modPower (fun p => { p with excursion := none, excursions := p.excursions + 1 }) else d

/-- A step that ends by its kind (R341, R347, R348). -/
theorem Device.modeStepDone_eq (h : d.cyclic.frozen = false ∨ d.changesBusClock = false) :
    d.modeStepDone micros = match d.power.step with
      | .none => d
      | .deferred => d
      | .ready => d
      | .committed => (d.stepTimed micros).reachGrain
      | .entering => if d.power.goal = 0 then d.stepTimed micros
          else ((if d.power.goal = 2 then (d.stepTimed micros).setMode 2 else (d.stepTimed micros).reachDoze).excursionOver
            d.power.goal).showClocks.nextStep
      | .rising => if d.power.goal = 2 then ((d.riseTimed micros).reachRun.showClocks).nextStep
          else if d.power.goal = 3 then ((((d.riseTimed micros).setMode 3).perceptionOn).fusionOn.showClocks).nextStep
          else d.riseTimed micros :=
  if_neg (not_clockHeld h)

end

/-! ### GRAIN -/

/-- The commit point acts only in an entry to GRAIN that no frozen reply holds up. -/
theorem Device.commitPoint_acts {d : Device} (hstep : d.power.step = .entering) (hgoal : d.power.goal = 0)
    (hfree : d.cyclic.frozen = false) : ¬ (d.power.step ≠ .entering ∨ d.power.goal ≠ 0 ∨ d.cyclic.frozen = true) := by
  rw [hstep, hgoal, hfree]
  simp

theorem Device.leaveGrain_idle {d : Device} (h : d.power.grain = false ∨ d.power.step ≠ .rising) : d.leaveGrain = d := by
  refine if_pos ?_
  rcases h with h | h
  · rw [h]
    rfl
  · rw [bne_iff_ne.mpr h, Bool.or_true]

theorem Device.leaveGrain_acts {d : Device} (hgrain : d.power.grain = true) (hstep : d.power.step = .rising) :
    let a := (d.modPower (fun p => { p with grain := false, cdGrain := d.grain })).wr Reg.PWR_STAT.MODE 0 1
    let b := (((((a.machines true).pwrEvt 0).showClocks).adcOutOfGrain).fansOutOfGrain).emptyHandles
    d.leaveGrain = (if b.power.excursion.isSome then b else b.hostReturns).refreshInts.nextStep := by
  intro a b
  unfold Device.leaveGrain
  rw [if_neg (by rw [hgrain, hstep]; exact Bool.false_ne_true)]

/-! ### Excursions -/

theorem Device.excursionReturn_idle {d : Device} (h : d.power.excursion = none ∨ (∃ m, d.power.excursion = some m
    ∧ (d.power.step ≠ .none ∨ d.audio.seg.isSome = true ∨ d.mode ≤ m))) : d.excursionReturn = d := by
  unfold Device.excursionReturn
  rcases h with h | ⟨m, h, hearly⟩ <;> rw [h]
  exact if_pos hearly

theorem Device.excursionReturn_due {d : Device} {m : Nat} (h : d.power.excursion = some m) (hstep : d.power.step = .none)
    (hseg : d.audio.seg = none) (hmode : m < d.mode) : d.excursionReturn
      = if d.audio.verdict ≠ 0 ∨ (!d.on Reg.WAKE_CFG.VAD_RETURN) = true then d.turnNormal
        else (d.modPower (fun p => { p with target := m, wakeGoal := 0 })).lower .busyMoving := by
  unfold Device.excursionReturn
  rw [h]
  exact if_neg (by rw [hstep, hseg]; simp; omega)

/-! ### The rows -/

/-- Settles O49. -/
theorem powerRowsAct : Obligations.PowerRowsAct := by
  unfold Obligations.PowerRowsAct
  intro s source micros d
  have woken (e : Device) (h : d.wake source = e) : exec (.wakeSource source) s = s.gives e.nextMode :=
    congrArg (fun x : Device => s.gives x.nextMode) h
  have stepped (e : Device) (h : d.modeStepDone micros.toNat = e) : exec (.modeStepDone micros) s = s.gives e.nextMode :=
    congrArg (fun x : Device => s.gives x.nextMode) h
  have ended (e : Device) (h : d.deferralEnd = e) : exec .modeDeferralEnd s = s.gives e.nextMode :=
    congrArg (fun x : Device => s.gives x.nextMode) h
  have returned (e : Device) (h : d.excursionReturn = e) : exec .excursionReturn s = s.gives e.nextMode :=
    congrArg (fun x : Device => s.gives x.nextMode) h
  refine ⟨fun h => woken d (Device.wake_idle h), fun m hmode hacts => ?_, ⟨fun hen hgrain => congrArg s.gives (if_pos ?_),
    fun h => congrArg s.gives (if_neg ?_)⟩, ⟨fun h => congrArg s.gives (if_pos h), fun h => congrArg s.gives (if_neg h)⟩,
    fun h => ended d (Device.deferralEnd_idle h), fun h => ?_, fun h => stepped d (Device.modeStepDone_idle _ h),
    fun hfree => ?_, fun h => congrArg s.gives (if_pos h), fun hstep hgoal hfree htarget => congrArg s.gives ?_,
    fun hstep hgoal hfree htarget => congrArg s.gives ?_, fun h => ?_, fun hgrain hstep => ?_,
    fun h => returned d (Device.excursionReturn_idle h), fun m hexc hstep hseg hmode => ?_⟩
  · intro e abandoned further
    have hwake : d.wake source = e.wakeTo source m := Device.wake_acts hmode hacts
    rw [e.wakeTo_eq source m] at hwake
    refine ⟨fun h hlow => woken _ ?_, fun h hhigh => woken _ ?_, fun h => woken _ ?_, fun h hlate => woken _ ?_,
      fun h hlate => woken _ ?_, fun h htarget => woken _ ?_, fun h htarget => woken _ ?_, fun h => woken _ ?_⟩
    · rw [hwake, h]
      exact if_pos hlow
    · rw [hwake, h]
      exact if_neg (Nat.not_lt.mpr hhigh)
    · rw [hwake, h]
      rfl
    · rw [hwake, h]
      exact if_pos hlate
    · rw [hwake, h]
      exact if_neg (by rw [hlate]; exact Bool.false_ne_true)
    · rw [hwake, h]
      exact if_pos htarget
    · rw [hwake, h]
      exact if_neg htarget
    · rcases h with h | h <;> rw [hwake, h] <;> rfl
  · rw [show d.on Reg.WAKE_CFG.ALARM_EN = true from hen, Bool.true_and, beq_iff_eq]
    exact hgrain
  · rw [Bool.and_eq_true, beq_iff_eq]
    rintro ⟨hen, hgrain⟩
    rcases h with h | h
    · exact Bool.false_ne_true (h.symm.trans hen)
    · exact h hgrain
  · intro e
    have hend := Device.deferralEnd_checks h
    exact ⟨fun hcause => ended _ (hend.trans (if_pos hcause)), fun hcause => ended _ (hend.trans (if_neg (not_not.mpr hcause)))⟩
  · have hdone := Device.modeStepDone_eq micros.toNat hfree
    refine ⟨fun h => stepped _ ?_, ⟨fun h hgoal => stepped _ ?_, fun h hgoal => stepped _ ?_⟩, fun h =>
      ⟨fun hgoal => stepped _ ?_, fun hgoal => stepped _ ?_, fun hgoal hgoal' => stepped _ ?_⟩⟩
    · rw [hdone, h]
      rfl
    · rw [hdone, h]
      exact if_pos hgoal
    · rw [hdone, h]
      exact if_neg hgoal
    · rw [hdone, h]
      exact if_pos hgoal
    · rw [hdone, h]
      exact (if_neg (by omega)).trans (if_pos hgoal)
    · rw [hdone, h]
      exact (if_neg hgoal).trans (if_neg hgoal')
  · exact (if_neg (Device.commitPoint_acts hstep hgoal hfree)).trans (if_pos htarget)
  · exact (if_neg (Device.commitPoint_acts hstep hgoal hfree)).trans (if_neg (not_not.mpr htarget))
  · exact congrArg (fun x : Device => s.gives x.nextMode) (Device.leaveGrain_idle h)
  · intro a b
    have hrow : exec .grainExit s = s.gives d.leaveGrain.nextMode := rfl
    rw [hrow, Device.leaveGrain_acts hgrain hstep]
  · have hdue := Device.excursionReturn_due hexc hstep hseg hmode
    refine ⟨fun h => returned _ (hdue.trans (if_pos ?_)), fun hverdict hen => returned _ (hdue.trans (if_neg ?_))⟩
    · rwa [Bool.not_eq_true']
    · rw [hverdict, hen]
      simp

end Sys2Proof.Machine
end

section
/-! PROOFS. The rows of the cyclic port (R242 to R269). -/
namespace Sys2Proof.Machine

/-! ### The freeze of a reply -/

/-- The device with its reply frozen, before any stretch of the freeze is counted (R260). -/
def Device.replyFrozen (d : Device) : Device :=
  let a := (d.setScsN false).wr Reg.CYC_STAT.DALIVE 0 (d.rd Reg.CYC_STAT.DALIVE + 1)
  a.modCyclic (fun c => { c with frozen := true, reply := a.replyNow })

/-- A freeze that may begin freezes the reply, and where it may be long it takes a free value and may count it. -/
theorem Device.freeze_cases {d : Device} (hgrain : d.power.grain = false) (hon : d.cycOn = true)
    (hfrozen : d.cyclic.frozen = false) (hjudged : d.cyclic.unjudged = false) (hclock : d.busClockStep = false) :
    d.freeze = d.replyFrozen ∨ d.freeze = d.replyFrozen.draw.2
      ∨ d.freeze = d.replyFrozen.draw.2.countSat Reg.CYC_STRETCH.COUNT := by
  have hfree : ¬ (!d.cycOn || d.cyclic.frozen || d.cyclic.unjudged || d.busClockStep) = true := by
    rw [hon, hfrozen, hjudged, hclock]
    exact Bool.false_ne_true
  have hfreeze : d.freeze = if d.replyFrozen.liveAxes.isEmpty && !d.replyFrozen.motionRuns then d.replyFrozen
      else if Config.freezeLong d.replyFrozen.draw.1 then d.replyFrozen.draw.2.countSat Reg.CYC_STRETCH.COUNT
      else d.replyFrozen.draw.2 :=
    (if_neg (by rw [show (d.setScsN false).power.grain = false from hgrain]; exact Bool.false_ne_true)).trans (if_neg hfree)
  rw [hfreeze]
  split
  · exact .inl rfl
  · split
    · exact .inr (.inr rfl)
    · exact .inr (.inl rfl)

/-- The frozen reply's DALIVE is the next one. -/
theorem Device.replyFrozen_dalive (d : Device) :
    d.replyFrozen.rd Reg.CYC_STAT.DALIVE = (d.rd Reg.CYC_STAT.DALIVE + 1) % 16 := by
  unfold Device.replyFrozen
  extract_lets a
  exact Device.rd_wr_same ..

/-- A freeze that may begin advances DALIVE and keeps the memory, the axes and the scheduler. -/
theorem Device.freeze_takes {d : Device} (hgrain : d.power.grain = false) (hon : d.cycOn = true)
    (hfrozen : d.cyclic.frozen = false) (hjudged : d.cyclic.unjudged = false) (hclock : d.busClockStep = false) :
    d.freeze.cyclic.frozen = true ∧ d.freeze.rd Reg.CYC_STAT.DALIVE = (d.rd Reg.CYC_STAT.DALIVE + 1) % 16
      ∧ d.freeze.mem = d.mem ∧ d.freeze.axes = d.axes ∧ d.freeze.sched = d.sched := by
  have hstretch (x : Device) : (x.countSat Reg.CYC_STRETCH.COUNT).rd Reg.CYC_STAT.DALIVE = x.rd Reg.CYC_STAT.DALIVE :=
    x.rd_wr_other (by unfold apart; decide) _
  have hdraw (x : Device) : x.draw.2.rd Reg.CYC_STAT.DALIVE = x.rd Reg.CYC_STAT.DALIVE := rfl
  rcases Device.freeze_cases hgrain hon hfrozen hjudged hclock with h | h | h <;> rw [h]
  · exact ⟨rfl, d.replyFrozen_dalive, rfl, rfl, rfl⟩
  · exact ⟨rfl, d.replyFrozen_dalive, rfl, rfl, rfl⟩
  · exact ⟨rfl, by rw [hstretch, hdraw, d.replyFrozen_dalive], rfl, rfl, rfl⟩

/-! ### The judgement of a frame -/

section
variable {d : Device} {edges : SckEdges} {bits : Nat} (frame : List Word)

/-- A frame is judged by its edges, its length and its CRC before its words are (Table 8.3). -/
theorem Device.judgeFrame_notReady (h : edges = .early ∨ d.cyclic.frozen = false) :
    d.judgeFrame edges bits frame = (6, []) :=
  if_pos (h.imp_right (by rintro h; rw [h]; rfl))

theorem not_judgedEarly (hedges : edges = .ready) (hfrozen : d.cyclic.frozen = true) :
    ¬ (edges = .early ∨ (!d.cyclic.frozen) = true) := by
  rw [hedges, hfrozen]
  simp

theorem Device.judgeFrame_short (hedges : edges = .ready) (hfrozen : d.cyclic.frozen = true)
    (hbits : bits < 32 * d.cycWords) : d.judgeFrame edges bits frame = (2, []) :=
  (if_neg (not_judgedEarly hedges hfrozen)).trans (if_pos hbits)

theorem Device.judgeFrame_long (hedges : edges = .ready) (hfrozen : d.cyclic.frozen = true)
    (hbits : 32 * d.cycWords < bits) : d.judgeFrame edges bits frame = (3, []) :=
  (if_neg (not_judgedEarly hedges hfrozen)).trans ((if_neg (by omega)).trans (if_pos hbits))

theorem Device.judgeFrame_whole (hedges : edges = .ready) (hfrozen : d.cyclic.frozen = true)
    (hbits : bits = 32 * d.cycWords) : d.judgeFrame edges bits frame =
      let ws := (frame ++ List.replicate d.cycWords 0).take d.cycWords
      if (nth 0 (d.cycWords - 1) ws).toNat ≠ frameCrc (ws.take (d.cycWords - 1)) then (1, []) else d.judgeWords ws :=
  (if_neg (not_judgedEarly hedges hfrozen)).trans ((if_neg (by omega)).trans (if_neg (by omega)))

end

/-! ### The release of a frame -/

/-- The level of SCS_N has no part in the judgement. -/
theorem Device.judgeFrame_setScsN (d : Device) (level : Bool) (edges : SckEdges) (bits : Nat) (frame : List Word) :
    (d.setScsN level).judgeFrame edges bits frame = d.judgeFrame edges bits frame := rfl

/-- The device once a frame's judgement stands in its registers. -/
def Device.verdictShown (d : Device) (j : Nat × List CycItem) (w0 : Nat) : Device :=
  let b := (if j.1 = 0 then d.admitFrame w0 j.2 else d.refuseFrame j.1).wr Reg.CYC_STAT.LAST_RES 0 j.1
  b.wr Reg.CYC_STAT.HIST 0 (b.rd Reg.CYC_STAT.HIST * 2 + b2n (j.1 == 0))

theorem Device.judged_eq (d : Device) (edges : SckEdges) (bits : Nat) (frame : List Word) :
    d.judged edges bits frame =
      let c := d.verdictShown (d.judgeFrame edges bits frame) (nth 0 0 frame).toNat
      match c.cyclic.restartDue with
      | some reinit => (c.cycRestart reinit).cycStop
      | none => c.cycStop := rfl

theorem Device.releaseFrame_unjudged {d : Device} (h : d.cyclic.unjudged = true) (edges : SckEdges) (bits : Nat)
    (frame : List Word) :
    d.releaseFrame edges bits frame = (d.setScsN true).modCyclic (fun c => { c with unjudged := false }) := if_pos h

theorem Device.releaseFrame_empty {d : Device} (hjudged : d.cyclic.unjudged = false) {edges : SckEdges}
    (h : d.cycOn = false ∨ edges = .none) (bits : Nat) (frame : List Word) :
    d.releaseFrame edges bits frame = (d.setScsN true).cycStop := by
  have hempty : (!(d.setScsN true).cycOn) = true ∨ edges = .none := h.imp_left (by
    rintro h
    rw [show (d.setScsN true).cycOn = d.cycOn from rfl, h]
    rfl)
  exact (if_neg (by rw [show (d.setScsN true).cyclic.unjudged = false from hjudged]; exact Bool.false_ne_true)).trans
    (if_pos hempty)

theorem Device.releaseFrame_judged {d : Device} (hjudged : d.cyclic.unjudged = false) {edges : SckEdges}
    (hon : d.cycOn = true) (hedges : edges ≠ .none) (bits : Nat) (frame : List Word) :
    d.releaseFrame edges bits frame = (d.setScsN true).judged edges bits frame := by
  have hframe : ¬ ((!(d.setScsN true).cycOn) = true ∨ edges = .none) := by
    rw [show (d.setScsN true).cycOn = d.cycOn from rfl, hon]
    simpa using hedges
  exact (if_neg (by rw [show (d.setScsN true).cyclic.unjudged = false from hjudged]; exact Bool.false_ne_true)).trans
    (if_neg hframe)

/-! ### The silent master -/

/-- The condition under which the master is lost, as the row tests it. -/
theorem Device.masterHeld_iff (d : Device) : (!d.motionRuns || decide (d.rd Reg.CYC_CFG.LOSS_TMO = 0)
      || !d.on Reg.CYC_STAT.REF_VALID || d.on Reg.CYC_STAT.MASTER_LOST
      || decide (d.loops - d.cyclic.releasedAt ≤ 40 * d.rd Reg.CYC_CFG.LOSS_TMO)) = true
    ↔ ¬ (d.motionRuns = true ∧ d.rd Reg.CYC_CFG.LOSS_TMO ≠ 0 ∧ d.on Reg.CYC_STAT.REF_VALID = true
      ∧ d.on Reg.CYC_STAT.MASTER_LOST = false ∧ 40 * d.rd Reg.CYC_CFG.LOSS_TMO < d.loops - d.cyclic.releasedAt) := by
  simp only [Bool.or_eq_true, Bool.not_eq_true', decide_eq_true_eq]
  cases d.motionRuns <;> cases d.on Reg.CYC_STAT.REF_VALID <;> cases d.on Reg.CYC_STAT.MASTER_LOST <;> simp <;> omega

/-! ### The rows -/

/-- Settles O50. -/
theorem cyclicRowsAct : Obligations.CyclicRowsAct := by
  unfold Obligations.CyclicRowsAct
  intro s edges bits frame d low high freed
  have released (e : Device) (h : d.releaseFrame edges bits.toNat frame = e) :
      exec (.cyclicFrame ⟨edges, bits⟩ frame) s = s.gives e := congrArg s.gives h
  refine ⟨fun hgrain => congrArg s.gives (if_pos hgrain), fun hgrain h => congrArg s.gives ?_,
    fun hgrain hon hfrozen hjudged hclock => ⟨{ s with dev := d.freeze }, rfl,
      Device.freeze_takes hgrain hon hfrozen hjudged hclock⟩,
    fun h => released _ (Device.releaseFrame_unjudged h edges bits.toNat frame),
    fun hjudged h => released _ (Device.releaseFrame_empty hjudged h bits.toNat frame), fun hjudged hon hedges => ?_, ?_⟩
  · refine (if_neg ?_).trans (if_pos ?_)
    · rw [show (d.setScsN false).power.grain = d.power.grain from rfl, hgrain]
      exact Bool.false_ne_true
    · change (!d.cycOn || d.cyclic.frozen || d.cyclic.unjudged || d.busClockStep) = true
      rcases h with h | h | h | h <;> rw [h] <;> simp only [Bool.not_false, Bool.true_or, Bool.or_true]
  · intro ws j
    refine ⟨fun h => Device.judgeFrame_notReady frame h, fun h hfrozen hbits => Device.judgeFrame_short frame h hfrozen hbits,
      fun h hfrozen hbits => Device.judgeFrame_long frame h hfrozen hbits, fun h hfrozen hbits hcrc =>
        (Device.judgeFrame_whole frame h hfrozen hbits).trans (if_pos hcrc), fun h hfrozen hbits hcrc =>
        (Device.judgeFrame_whole frame h hfrozen hbits).trans (if_neg (not_not.mpr hcrc)), ?_⟩
    intro a b c
    have hrelease : d.releaseFrame edges bits.toNat frame = match c.cyclic.restartDue with
        | some reinit => (c.cycRestart reinit).cycStop
        | none => c.cycStop := by
      rw [Device.releaseFrame_judged hjudged hon hedges, Device.judged_eq, Device.judgeFrame_setScsN]
      rfl
    refine ⟨fun hnone => released _ ?_, fun reinit hsome => released _ ?_⟩
    · rw [hrelease, hnone]
      rfl
    · rw [hrelease, hsome]
      rfl
  · intro tmo lost a hit b
    have hlost (h : lost) := mt d.masterHeld_iff.mp (not_not.mpr h)
    have hone (hact : a.rd Reg.CYC_CFG.LOSS_ACT = 1) : ¬ a.rd Reg.CYC_CFG.LOSS_ACT = 0 := by omega
    refine ⟨fun h => congrArg s.gives (if_pos (d.masterHeld_iff.mpr h)),
      fun h hact => congrArg s.gives ((if_neg (hlost h)).trans (if_pos hact)),
      fun h hact => congrArg s.gives ((if_neg (hlost h)).trans ((if_neg (hone hact)).trans (if_pos hact))),
      fun h hact hact' => congrArg s.gives ((if_neg (hlost h)).trans ((if_neg hact).trans (if_neg hact')))⟩

end Sys2Proof.Machine
end

section
/-! PROOFS. The rows of the USB port, remote wake and the console (R274 to R298). -/
namespace Sys2Proof.Machine

/-! ### Transfers -/

/-- What an OUT transfer leaves: its answers and the device, committed or refused (R279, R280). -/
def Device.transferJudged (d : Device) (j : Nat × Nat × List UsbMsg) : List (List Byte) × Device :=
  if j.1 = 0 then d.commitTransfer j.2.2 else ([], ((d.count Reg.USB_REFUSED.COUNT).wr Reg.USB_REFUSED.LAST_RES 0 j.1).usbEvt 8)

/-- The answers and the status of a transfer are queued (R281). -/
def Device.transferAnswered (d : Device) (answers : List (List Byte)) (res i : Nat) : Device :=
  let a := answers.foldl Device.queueIn d
  (a.queueIn (usbHeader 0x81 0 4 a.usb.xferNo.toNat ++ leBytes 1 res ++ leBytes 1 i ++ leBytes 2 0)).modUsb (fun u => { u with
    xferNo := u.xferNo + 1 })

theorem Device.outTransfer_idle {d : Device} (h : d.epRuns 0 = false) (bs : List Byte) : d.outTransfer bs = d :=
  if_pos (by rw [h]; rfl)

theorem Device.outTransfer_runs {d : Device} (h : d.epRuns 0 = true) (bs : List Byte) :
    d.outTransfer bs = if (!(d.transferJudged (d.judgeTransfer bs)).2.usbServes) = true then (d.transferJudged (d.judgeTransfer bs)).2
      else (d.transferJudged (d.judgeTransfer bs)).2.transferAnswered (d.transferJudged (d.judgeTransfer bs)).1
        (d.judgeTransfer bs).1 (d.judgeTransfer bs).2.1 :=
  if_neg (by rw [h]; exact Bool.false_ne_true)

/-- An acknowledged packet leaves the speed of the port. -/
theorem Device.ackPacket_bulkPacket (d : Device) (x : InXfer) : (d.ackPacket x).2.bulkPacket = d.bulkPacket := by
  have hspeed : (d.ackPacket x).2.rd Reg.USB_STAT.HS = d.rd Reg.USB_STAT.HS := by
    obtain ⟨-, hkept⟩ := d.ackPacket_cases x
    exact hkept (.inl (by decide))
  unfold Device.bulkPacket Device.on
  rw [hspeed]

theorem Device.ackEp1_idle {d : Device} (h : d.epRuns 1 = false) : d.ackEp1 = d := if_pos (by rw [h]; rfl)

/-- A packet of the transfer under way is acknowledged. -/
theorem Device.ackEp1_goesOn {d : Device} (h : d.epRuns 1 = true) {x : InXfer} (hx : d.usb.ep1In = some x) :
    d.ackEp1 = (d.ackPacket x).2.modUsb (fun u => { u with
      ep1In := (d.ackPacket x).1, sent1 := (x.bytes.drop x.acked).take d.bulkPacket }) := by
  have hbegin : d.beginIn = d := if_pos (by rw [hx]; rfl)
  unfold Device.ackEp1
  rw [h, if_neg (by decide), hbegin]
  dsimp only
  rw [hx]
  exact congrArg (fun n => (d.ackPacket x).2.modUsb (fun u => { u with
    ep1In := (d.ackPacket x).1, sent1 := (x.bytes.drop x.acked).take n })) (d.ackPacket_bulkPacket x)

/-- The device once the next transfer of EP1 IN has begun. -/
def Device.inBegun (d : Device) (p : Nat × List Nat × List Byte) : Device :=
  d.modUsb (fun u => { u with ep1 := u.ep1.drop p.1, ep1In := some ⟨3, p.2.2, 0, p.2.1⟩ })

theorem Device.beginIn_none {d : Device} (hnone : d.usb.ep1In = none) :
    d.beginIn = if (d.inTransfer 4096 d.usb.ep1 0 [] []).2.2.isEmpty = true then d
      else d.inBegun (d.inTransfer 4096 d.usb.ep1 0 [] []) :=
  if_neg (by rw [hnone]; exact Bool.false_ne_true)

/-- With nothing to send EP1 IN has nothing to acknowledge. -/
theorem Device.ackEp1_empty {d : Device} (h : d.epRuns 1 = true) (hnone : d.usb.ep1In = none)
    (hempty : (d.inTransfer 4096 d.usb.ep1 0 [] []).2.2 = []) : d.ackEp1 = d := by
  have hbegin : d.beginIn = d := by
    rw [Device.beginIn_none hnone, hempty]
    exact if_pos rfl
  unfold Device.ackEp1
  rw [h, if_neg (by decide), hbegin]
  dsimp only
  rw [hnone]

/-- A transfer that begins has its first packet acknowledged. -/
theorem Device.ackEp1_begins {d : Device} (h : d.epRuns 1 = true) (hnone : d.usb.ep1In = none)
    (hsend : (d.inTransfer 4096 d.usb.ep1 0 [] []).2.2 ≠ []) :
    d.ackEp1 = (d.inBegun (d.inTransfer 4096 d.usb.ep1 0 [] [])).ackEp1 := by
  have hbegin : d.beginIn = d.inBegun (d.inTransfer 4096 d.usb.ep1 0 [] []) := by
    rw [Device.beginIn_none hnone]
    exact if_neg (by rw [List.isEmpty_iff]; exact hsend)
  generalize d.inTransfer 4096 d.usb.ep1 0 [] [] = p at hbegin ⊢
  have hruns : (d.inBegun p).epRuns 1 = true := h
  have hagain : (d.inBegun p).beginIn = d.inBegun p := if_pos rfl
  unfold Device.ackEp1
  rw [h, hruns, hbegin, hagain, if_neg (by decide), if_neg (by decide)]

/-! ### Polls and bursts -/

theorem Device.pollEp2_idle {d : Device} (h : d.epRuns 2 = false ∨ d.usb.ep2Sent = true) : d.pollEp2 = d :=
  if_pos (by rcases h with h | h <;> rw [h] <;> simp only [Bool.not_false, Bool.true_or, Bool.or_true])

theorem not_pollIdle {d : Device} (hruns : d.epRuns 2 = true) (hsent : d.usb.ep2Sent = false) :
    ¬ (!d.epRuns 2 || d.usb.ep2Sent) = true := by
  rw [hruns, hsent]
  exact Bool.false_ne_true

/-- A change is reported once, and stays the report until it is acknowledged. -/
theorem Device.pollEp2_reports {d : Device} (hruns : d.epRuns 2 = true) (hsent : d.usb.ep2Sent = false)
    (hnew : ¬ (d.evtSum 4 = d.usb.ep2Sum ∧ d.reportFlags = d.usb.ep2Flags ∧ d.usb.ep2New = [])) :
    d.pollEp2.usb.ep2Sent = true ∧ d.pollEp2.usb.ep2New = d.usb.ep2New.drop 4
      ∧ d.pollEp2.usb.sent2.take 2 = leBytes 2 (d.evtSum 4) ∧ d.pollEp2.regs = d.regs ∧ d.pollEp2.mem = d.mem := by
  unfold Device.pollEp2
  rw [if_neg (not_pollIdle hruns hsent), if_neg hnew]
  exact ⟨rfl, rfl, rfl, rfl, rfl⟩

theorem Device.burst_idle {d : Device} (h : d.epRuns 3 = false ∨ d.usb.ep3In.isSome = true) : d.burst = d :=
  if_pos (by rcases h with h | h <;> rw [h] <;> simp only [Bool.not_false, Bool.true_or, Bool.or_true])

theorem not_burstIdle {d : Device} (hruns : d.epRuns 3 = true) (hnone : d.usb.ep3In = none) :
    ¬ (!d.epRuns 3 || d.usb.ep3In.isSome) = true := by
  rw [hruns, hnone]
  exact Bool.false_ne_true

/-! ### The bus -/

theorem Device.setupOff_iff (d : Device) : (!d.usbPresent || decide (d.rd Reg.USB_STAT.STATE < 2)
      || decide (4 < d.rd Reg.USB_STAT.STATE) || !d.running || d.hostless || d.usb.test != 0) = true
    ↔ (d.usbPresent = false ∨ d.rd Reg.USB_STAT.STATE < 2 ∨ 4 < d.rd Reg.USB_STAT.STATE ∨ d.running = false
      ∨ d.hostless = true ∨ d.usb.test ≠ 0) := by
  simp only [Bool.or_eq_true, Bool.not_eq_true', decide_eq_true_eq, bne_iff_ne, or_assoc]

theorem Device.busResetOff_iff (d : Device) : (!d.usbPresent || d.rd Reg.USB_STAT.STATE == 0 || d.usb.test != 0) = true
    ↔ (d.usbPresent = false ∨ d.rd Reg.USB_STAT.STATE = 0 ∨ d.usb.test ≠ 0) := by
  simp only [Bool.or_eq_true, Bool.not_eq_true', beq_iff_eq, bne_iff_ne, or_assoc]

theorem Device.suspendOff_iff (d : Device) : (!d.usbPresent || d.rd Reg.USB_STAT.STATE == 0
      || d.rd Reg.USB_STAT.STATE == 5 || d.usb.test != 0) = true
    ↔ (d.usbPresent = false ∨ d.rd Reg.USB_STAT.STATE = 0 ∨ d.rd Reg.USB_STAT.STATE = 5 ∨ d.usb.test ≠ 0) := by
  simp only [Bool.or_eq_true, Bool.not_eq_true', beq_iff_eq, bne_iff_ne, or_assoc]

theorem Device.stalled_iff (d : Device) : (d.usbPresent && d.ringOn 3 && d.ringCount 3 != 0) = true
    ↔ d.usbPresent = true ∧ d.ringOn 3 = true ∧ d.ringCount 3 ≠ 0 := by
  simp only [Bool.and_eq_true, bne_iff_ne, and_assoc]

/-- Settles O51. -/
theorem usbRowsAct : Obligations.UsbRowsAct := by
  unfold Obligations.UsbRowsAct
  intro s bs high valid setup d packet upto passed rest
  have acked1 (e : Device) (h : d.ackEp1 = e) : exec (.usbInAck .ep1) s = s.gives e := congrArg s.gives h
  have sent (e : Device) (h : d.outTransfer bs = e) : exec (.usbOutTransfer bs) s = s.gives e := congrArg s.gives h
  refine ⟨fun h => sent d (Device.outTransfer_idle h bs), fun hruns => ?_, fun h => acked1 d (Device.ackEp1_idle h),
    fun hruns hnone => ?_, fun x hruns hx => acked1 _ (Device.ackEp1_goesOn hruns hx),
    fun h => ⟨congrArg s.gives (if_neg ?_), congrArg s.gives (Device.pollEp2_idle (.inl h))⟩, fun h => congrArg s.gives (if_pos h),
    fun _ hsent => congrArg s.gives (Device.pollEp2_idle (.inr hsent)), fun hruns hsent hsum hflags hnew =>
      congrArg s.gives ((if_neg (not_pollIdle hruns hsent)).trans (if_pos ⟨hsum, hflags, hnew⟩)), fun hruns hsent hchange =>
      ⟨{ s with dev := d.pollEp2 }, rfl, Device.pollEp2_reports hruns hsent ?_⟩, fun h => congrArg s.gives ?_,
    fun x hruns hx => congrArg s.gives ?_, fun h => congrArg s.gives (Device.burst_idle h), fun hruns hnone hturn =>
      congrArg s.gives ((if_neg (not_burstIdle hruns hnone)).trans ?_), fun k hruns hnone hturn =>
      congrArg s.gives ((if_neg (not_burstIdle hruns hnone)).trans ?_), ?_, ?_, ?_, fun h => congrArg s.gives (if_pos ?_),
    fun h => congrArg s.gives (if_neg ?_), rfl, fun h => congrArg s.gives (if_neg ?_), fun h => congrArg s.gives (if_pos h), ?_⟩
  · intro j p
    have hout := Device.outTransfer_runs hruns bs
    refine ⟨fun hlong => if_pos hlong, fun hserves => sent _ (hout.trans (if_pos ?_)),
      fun hserves => sent _ (hout.trans (if_neg ?_))⟩
    · rw [show (d.transferJudged (d.judgeTransfer bs)).2.usbServes = false from hserves]
      rfl
    · rw [show (d.transferJudged (d.judgeTransfer bs)).2.usbServes = true from hserves]
      exact Bool.false_ne_true
  · exact ⟨fun hempty => acked1 d (Device.ackEp1_empty hruns hnone hempty),
      fun hsend => acked1 _ (Device.ackEp1_begins hruns hnone hsend)⟩
  · rw [h]
    exact Bool.false_ne_true
  · rintro ⟨hsum, hflags, hnew⟩
    rcases hchange with h | h | h
    · exact h hsum
    · exact h hflags
    · exact h hnew
  · change d.ackEp3 = d
    unfold Device.ackEp3
    rcases h with h | h
    · split
      · exact if_neg (by rw [h]; exact Bool.false_ne_true)
      · rfl
    · rw [h]
  · change d.ackEp3 = _
    unfold Device.ackEp3
    rw [hx]
    exact if_pos hruns
  · rw [hturn]
  · rw [hturn]
  · exact ⟨fun h => congrArg s.gives (if_pos (d.setupOff_iff.mpr h)), fun h hkind =>
      congrArg s.gives ((if_neg (mt d.setupOff_iff.mp h)).trans (if_pos hkind)), fun h hkind hrecipient =>
      congrArg s.gives ((if_neg (mt d.setupOff_iff.mp h)).trans (if_neg (by omega)))⟩
  · exact ⟨fun h => congrArg s.gives (if_pos (d.busResetOff_iff.mpr h)),
      fun h => congrArg s.gives (if_neg (mt d.busResetOff_iff.mp h))⟩
  · exact ⟨fun h => congrArg s.gives (if_pos (d.suspendOff_iff.mpr h)),
      fun h => congrArg s.gives (if_neg (mt d.suspendOff_iff.mp h))⟩
  · exact bne_iff_ne.mpr h
  · rw [bne_iff_ne, not_not]
    exact h
  · rw [h]
    exact Bool.false_ne_true
  · exact ⟨fun h => congrArg s.gives (if_pos (d.stalled_iff.mpr h)),
      fun h => congrArg s.gives (if_neg (mt d.stalled_iff.mp h))⟩

end Sys2Proof.Machine
end

section
/-! PROOFS. Remote wake and the console (R289 to R298). -/
namespace Sys2Proof.Machine

/-! ### Remote wake -/

/-- A remote wake may start: the bus is suspended, an armed reason is fresh, and nothing is under way (R290). -/
theorem Device.wakeHostOff_iff (d : Device) (fresh : Nat) : (!d.usbPresent || d.rd Reg.USB_STAT.STATE != 5 || fresh == 0
      || d.usb.wake != .idle || d.power.excursion == some 0) = true
    ↔ ¬ (d.usbPresent = true ∧ d.rd Reg.USB_STAT.STATE = 5 ∧ fresh ≠ 0 ∧ d.usb.wake = .idle
      ∧ d.power.excursion ≠ some 0) := by
  simp only [Bool.or_eq_true, Bool.not_eq_true', bne_iff_ne, beq_iff_eq, not_and_or, ne_eq, not_not, Bool.not_eq_true,
    or_assoc]

theorem Device.leave_iff (d : Device) : (!(d.on Reg.USB_STAT.RWAKE_FEAT && d.usb.before == 4)) = true
    ↔ ¬ (d.on Reg.USB_STAT.RWAKE_FEAT = true ∧ d.usb.before = 4) := by
  rw [Bool.not_eq_true', ← Bool.not_eq_true, Bool.and_eq_true, beq_iff_eq]

/-- The fresh pending reasons of a remote wake. -/
def Device.wakeFresh (d : Device) : Nat :=
  d.rd Reg.USB_RWAKE.PEND - (d.rd Reg.USB_RWAKE.PEND &&& d.rd Reg.USB_RWAKE.DONE)

section
variable {d : Device} (hmay : d.usbPresent = true ∧ d.rd Reg.USB_STAT.STATE = 5 ∧ d.wakeFresh ≠ 0 ∧ d.usb.wake = .idle
  ∧ d.power.excursion ≠ some 0)
include hmay

theorem Device.wakeHost_blocked (hleave : ¬ (d.on Reg.USB_STAT.RWAKE_FEAT = true ∧ d.usb.before = 4)) :
    d.wakeHost = d.usbEvt 10 :=
  (if_neg (mt (d.wakeHostOff_iff _).mp (not_not.mpr hmay))).trans (if_pos (d.leave_iff.mpr hleave))

theorem Device.wakeHost_allowed (hleave : d.on Reg.USB_STAT.RWAKE_FEAT = true ∧ d.usb.before = 4) :
    d.wakeHost = if d.mode < 2 then d.wakeTo 4 2
      else (d.wr Reg.USB_RWAKE.DONE 0 (d.rd Reg.USB_RWAKE.DONE ||| d.rd Reg.USB_RWAKE.PEND)).modUsb (fun u => { u with
        wake := .listen }) :=
  (if_neg (mt (d.wakeHostOff_iff _).mp (not_not.mpr hmay))).trans (if_neg (mt d.leave_iff.mp (not_not.mpr hleave)))

end

/-! ### The console -/

theorem Device.consoleLine_idle {d : Device} (h : d.power.grain = true ∨ d.power.devrst = true ∨ d.power.por = true)
    (line : List Byte) : d.consoleLine line = d :=
  if_pos (by rcases h with h | h | h <;> rw [h] <;> simp only [Bool.true_or, Bool.or_true])

theorem Device.consoleLine_answers {d : Device} (hgrain : d.power.grain = false) (hrst : d.power.devrst = false)
    (hpor : d.power.por = false) (line : List Byte) :
    d.consoleLine line = (d.draw.2.consoleAnswer line d.draw.1).foldl Device.sayLine d.draw.2 :=
  if_neg (by rw [hgrain, hrst, hpor]; exact Bool.false_ne_true)

section
variable {d : Device} {line : List Byte} (k : Nat)

theorem Device.consoleAnswer_long (h : 64 < line.length) : d.consoleAnswer line k = [ascii "?"] := if_pos h

theorem Device.consoleAnswer_log (h : line.length ≤ 64) {l : List (List Byte)} (hlog : d.consoleLog line = some l) :
    d.consoleAnswer line k = l := by
  unfold Device.consoleAnswer
  rw [if_neg (Nat.not_lt.mpr h), hlog]

theorem Device.consoleAnswer_facts (h : line.length ≤ 64) (hlog : d.consoleLog line = none) {facts : List (List Nat)}
    (hfacts : d.consoleFacts line = some facts) :
    d.consoleAnswer line k = facts.map (fun fs => printable (Config.consoleText line fs k)) := by
  unfold Device.consoleAnswer
  rw [if_neg (Nat.not_lt.mpr h), hlog, hfacts]

theorem Device.consoleAnswer_unknown (h : line.length ≤ 64) (hlog : d.consoleLog line = none)
    (hfacts : d.consoleFacts line = none) : d.consoleAnswer line k = [ascii "?"] := by
  unfold Device.consoleAnswer
  rw [if_neg (Nat.not_lt.mpr h), hlog, hfacts]

end

/-- Settles O52. -/
theorem remoteWakeAndConsoleRowsAct : Obligations.RemoteWakeAndConsoleRowsAct := by
  unfold Obligations.RemoteWakeAndConsoleRowsAct
  intro s bus line d pend may leave
  have started (e : Device) (h : d.wakeHost = e) : exec .remoteWakeStart s = s.gives e := congrArg s.gives h
  have answered (e : Device) (h : d.consoleLine line = e) : exec (.consoleRequest line) s = s.gives e := congrArg s.gives h
  refine ⟨fun h => started d (if_pos ((d.wakeHostOff_iff _).mpr h)), fun hmay hleave =>
      started _ (Device.wakeHost_blocked hmay hleave), fun hmay hleave hmode =>
      started _ ((Device.wakeHost_allowed hmay hleave).trans (if_neg (Nat.not_lt.mpr hmode))), fun hmay hleave hmode => ?_,
    fun h => congrArg s.gives (if_pos (bne_iff_ne.mpr h)), fun h => congrArg s.gives ?_, fun h => congrArg s.gives ?_,
    fun h => congrArg s.gives ?_, fun h h' => congrArg s.gives (if_pos ⟨h, h'⟩), fun h hstate => congrArg s.gives ?_,
    fun h hstate => congrArg s.gives ?_, fun h hstate => congrArg s.gives ?_, fun h => congrArg s.gives (if_neg ?_),
    fun h => congrArg s.gives (if_pos (beq_iff_eq.mpr h)), fun h => answered d (Device.consoleLine_idle h line),
    fun hgrain hrst hpor => ?_⟩
  · intro abandoned further
    have hwake : d.wakeHost = d.wakeTo 4 2 := (Device.wakeHost_allowed hmay hleave).trans (if_pos hmode)
    rw [d.wakeTo_eq 4 2] at hwake
    refine ⟨fun h => started _ ?_, fun h => started _ ?_, fun h => started _ ?_⟩
    · rcases h with h | ⟨h, hlate⟩ <;> rw [hwake, h]
      · exact if_pos hmode
      · exact if_neg (by rw [hlate]; exact Bool.false_ne_true)
    · rcases h with h | ⟨h, hlate⟩ | ⟨h, htarget⟩ <;> rw [hwake, h]
      · rfl
      · exact if_pos hlate
      · exact if_pos htarget
    · rcases h with h | h | ⟨h, htarget⟩ <;> rw [hwake, h]
      · rfl
      · rfl
      · exact if_neg htarget
  · exact (if_neg (by rw [show s.dev.usb.wake = .listen from h]; exact Bool.false_ne_true)).trans (if_pos rfl)
  · exact (if_neg (by rw [show s.dev.usb.wake = .listen from h]; exact Bool.false_ne_true)).trans (if_neg (by decide))
  · exact (if_neg (by rw [show s.dev.usb.wake = .listen from h]; exact Bool.false_ne_true)).trans (if_neg (by decide))
  · exact (if_neg (by tauto)).trans (if_pos hstate)
  · have hmet : d.usb.wake ≠ .met := by rw [h]; decide
    exact (if_neg (by tauto)).trans ((if_neg (not_not.mpr hstate)).trans (if_neg hmet))
  · exact (if_neg (by tauto)).trans ((if_neg (not_not.mpr hstate)).trans (if_pos h))
  · rw [beq_iff_eq]
    exact h
  · intro p
    have hline := Device.consoleLine_answers hgrain hrst hpor line
    refine ⟨fun h => answered _ ?_, fun h l hlog => answered _ ?_, fun h hlog facts hfacts => answered _ ?_,
      fun h hlog hfacts => answered _ ?_⟩
    · rw [hline, Device.consoleAnswer_long _ h]
      rfl
    · rw [hline, Device.consoleAnswer_log _ h hlog]
    · rw [hline, Device.consoleAnswer_facts _ h hlog hfacts]
    · rw [hline, Device.consoleAnswer_unknown _ h hlog hfacts]
      rfl

end Sys2Proof.Machine
end

section
/-! PROOFS. The rows of the converter and of the SPI ports (R107 to R111, R364 to R383). -/
namespace Sys2Proof.Machine

/-! ### Conversions -/

theorem Device.adcDone_idle {d : Device} (h : d.adc.converting = false ∨ (d.adc.urgent = none ∧ d.adc.entry = none))
    (input : Int) (sub : Nat) : d.adcDone input sub = d := by
  unfold Device.adcDone
  extract_lets a flags
  split
  · rfl
  · next hconv =>
    rcases h with h | ⟨hurgent, hentry⟩
    · exact absurd (by rw [show a.converting = false from h]; rfl) hconv
    · rw [show a.urgent = none from hurgent]
      dsimp only
      rw [show a.entry = none from hentry]

theorem not_adcIdle {d : Device} (h : d.adc.converting = true) : ¬ (!d.adc.converting) = true := by
  rw [h]
  exact Bool.false_ne_true

/-! ### Rounds -/

theorem Device.roundOff_iff (d : Device) : (!d.on Reg.ADC_CTRL.SCAN_EN || d.power.grain || d.towardGrain) = true
    ↔ (d.on Reg.ADC_CTRL.SCAN_EN = false ∨ d.power.grain = true ∨ d.towardGrain = true) := by
  rw [Bool.or_eq_true, Bool.or_eq_true, Bool.not_eq_true', or_assoc]

/-- A round that is due by what is under way (R366, R383). -/
theorem Device.roundDue_on {d : Device} (hon : d.on Reg.ADC_CTRL.SCAN_EN = true) (hgrain : d.power.grain = false)
    (htoward : d.towardGrain = false) : d.roundDue
      = if d.adc.entry.isSome = true then
          (if d.rd Reg.SCAN_CFG.ROUND_PER = 0 ∨ d.on Reg.SCAN_CFG.SINGLE = true then d
            else (d.count Reg.ADC_OVERRUNS.COUNT).adcEvt 1)
        else if d.adc.urgent.isSome = true then
          (if d.adc.dueHeld = true then (d.count Reg.ADC_OVERRUNS.COUNT).adcEvt 1
            else d.modAdc (fun a => { a with dueHeld := true }))
        else d.startRound :=
  if_neg (by rw [hon, hgrain, htoward]; exact Bool.false_ne_true)

/-! ### SPI transfers -/

/-- An SPI port has a command to send and room for its completion (R107). -/
def Device.spiReady (d : Device) (p : Nat) : Prop :=
  d.running = true ∧ d.on Reg.SPM_CTRL.EN p = true ∧ d.ringOn (136 + 2 * p) = true
    ∧ d.ringCount (136 + 2 * p) ≠ 0 ∧ d.ringTakes (137 + 2 * p) 32 1 = true

/-- The command at the head of the ring of port `p`. -/
def Device.spiEntry (d : Device) (p : Nat) : List Byte :=
  d.bytes (d.ringAddr (136 + 2 * p) (d.rd Reg.RING_CI.CI (136 + 2 * p))) 32

/-- The length of a command is one that its port can send. -/
def Device.spiFits (d : Device) (p : Nat) (e : List Byte) : Prop :=
  1 ≤ jobByte e 1 ∧ jobByte e 1 ≤ 24 ∧ jobByte e 1 % d.spiWordBytes p = 0

/-- The device once port `p` has sent a command. -/
def Device.spiSent (d : Device) (p : Nat) (e : List Byte) : Device :=
  { d with spm := modNth (fun x => { x with
      used := x.used + d.spiCycles p (jobByte e 1) (bitOf (jobByte e 0) 2), sel := jobByte e 0 % 4
      bursts := spiBursts (d.spiWordBytes p) (bitOf (jobByte e 0) 2) ((e.drop 4).take (jobByte e 1)) }) p d.spm }

/-- A command moves to the completion ring of its port with its status and what was received. -/
def Device.spiMoved (d : Device) (p : Nat) (e status received : List Byte) : Device :=
  let b := d.count Reg.RING_CI.CI (136 + 2 * p)
  b.ringPush (137 + 2 * p) (e.take 2 ++ status ++ fit 24 received ++ leBytes 4 b.loops)

theorem Device.spiOff_iff (d : Device) (p : Nat) : (!d.running || !d.on Reg.SPM_CTRL.EN p || !d.ringOn (136 + 2 * p)
      || decide (d.ringCount (136 + 2 * p) = 0) || !d.ringTakes (136 + 2 * p + 1) 32 1) = true ↔ ¬ d.spiReady p := by
  rw [show 136 + 2 * p + 1 = 137 + 2 * p by omega]
  simp only [Device.spiReady, Bool.or_eq_true, Bool.not_eq_true', decide_eq_true_eq, not_and_or, Bool.not_eq_true, ne_eq,
    not_not, or_assoc]

theorem Device.spiTransfer_idle {d : Device} {p : Nat} (h : ¬ d.spiReady p) (received : List Byte) :
    d.spiTransfer p received = d := if_pos ((d.spiOff_iff p).mpr h)

theorem Device.spiFits_iff (d : Device) (p : Nat) (e : List Byte) : (decide (1 ≤ jobByte e 1) && decide (jobByte e 1 ≤ 24)
    && jobByte e 1 % d.spiWordBytes p == 0) = true ↔ d.spiFits p e := by
  rw [Bool.and_eq_true, Bool.and_eq_true, decide_eq_true_eq, decide_eq_true_eq, beq_iff_eq, and_assoc]
  rfl

section
variable {d : Device} {p : Nat} (hready : d.spiReady p) (received : List Byte)
include hready

/-- A command that its port can send is sent in the gap of the loop period, or waits for the next (R110). -/
theorem Device.spiTransfer_fits (hfits : d.spiFits p (d.spiEntry p)) : d.spiTransfer p received =
    if 4000 < (nth ⟨0, [], 0, []⟩ p d.spm).used + d.spiCycles p (jobByte (d.spiEntry p) 1)
        (bitOf (jobByte (d.spiEntry p) 0) 2) then d
    else (d.spiSent p (d.spiEntry p)).spiMoved p (d.spiEntry p) [0, 0] (received.take (jobByte (d.spiEntry p) 1)) := by
  unfold Device.spiTransfer
  extract_lets r e len cont good cycles x y
  refine (if_neg (mt (d.spiOff_iff p).mp (not_not.mpr hready))).trans ?_
  have hgood : good = true := (d.spiFits_iff p e).mpr hfits
  have hcycles : cycles = d.spiCycles p len cont := if_pos hgood
  have hx : x = d.spiSent p e := by
    unfold x
    rw [if_pos hgood, hcycles]
    rfl
  rw [hcycles]
  refine if_congr Iff.rfl rfl ?_
  unfold y
  rw [hx, hgood, show 136 + 2 * p + 1 = 137 + 2 * p by omega]
  rfl

/-- A command that its port cannot send is moved as BAD_PARAM (R111). -/
theorem Device.spiTransfer_bad (hbad : ¬ d.spiFits p (d.spiEntry p)) : d.spiTransfer p received =
    if 4000 < (nth ⟨0, [], 0, []⟩ p d.spm).used then d
    else d.spiMoved p (d.spiEntry p) (leBytes 2 Status.badParam.code) [] := by
  unfold Device.spiTransfer
  extract_lets r e len cont good cycles x y
  refine (if_neg (mt (d.spiOff_iff p).mp (not_not.mpr hready))).trans ?_
  have hgood : good = false := Bool.not_eq_true _ ▸ mt (d.spiFits_iff p e).mp hbad
  have hcycles : cycles = 0 := if_neg (by rw [hgood]; exact Bool.false_ne_true)
  have hx : x = d := if_neg (by rw [hgood]; exact Bool.false_ne_true)
  rw [hcycles, Nat.add_zero]
  refine if_congr Iff.rfl rfl ?_
  unfold y
  rw [hx, hgood, show 136 + 2 * p + 1 = 137 + 2 * p by omega]
  rfl

end

/-! ### The rows -/

/-- Settles O54. -/
theorem converterRowsAct : Obligations.ConverterRowsAct := by
  unfold Obligations.ConverterRowsAct
  intro s input sub p received d a flags
  have moved (x : Device) (h : d.spiTransfer p received = x) : exec (.spiTransfer p received) s = s.gives x :=
    congrArg s.gives h
  refine ⟨fun h => congrArg s.gives (Device.adcDone_idle h input.toInt sub), fun u hconv hurgent => ?_,
    fun n hconv hurgent hentry => ?_, fun h => congrArg s.gives (if_pos (d.roundOff_iff.mpr h)), fun hon hgrain htoward => ?_,
    fun h => congrArg s.gives (if_pos h), fun h => congrArg s.gives (if_neg h), ?_⟩
  · refine congrArg s.gives ((if_neg (not_adcIdle hconv)).trans ?_)
    rw [show d.adc.urgent = some u from hurgent]
  · refine congrArg s.gives ((if_neg (not_adcIdle hconv)).trans ?_)
    rw [show d.adc.urgent = none from hurgent]
    dsimp only
    rw [show d.adc.entry = some n from hentry]
  · have hdue := Device.roundDue_on hon hgrain htoward
    have due (x : Device) (h : d.roundDue = x) : exec .adcRoundDue s = s.gives x := congrArg s.gives h
    have nothing {α : Type} {o : Option α} (h : o = none) : ¬ o.isSome = true := by
      rw [h]
      exact Bool.false_ne_true
    refine ⟨fun hentry hurgent => due _ (hdue.trans ((if_neg (nothing hentry)).trans (if_neg (nothing hurgent)))),
      fun hentry hurgent hheld => due _ (hdue.trans ((if_neg (nothing hentry)).trans ((if_pos hurgent).trans (if_neg ?_)))),
      fun h => due _ (hdue.trans ?_), fun hentry h => due _ (hdue.trans ((if_pos hentry).trans (if_pos h)))⟩
    · rw [show d.adc.dueHeld = false from hheld]
      exact Bool.false_ne_true
    · rcases h with ⟨hentry, hurgent, hheld⟩ | ⟨hentry, hper, hsingle⟩
      · exact (if_neg (nothing hentry)).trans ((if_pos hurgent).trans (if_pos hheld))
      · exact (if_pos hentry).trans (if_neg (by rw [hsingle]; simp [hper]))
  · intro ready e len cont used fit' sent b
    refine ⟨fun hready hfits hgap => moved _ ?_, fun hready hfits hgap => moved _ ?_, fun hready hbad hgap => moved _ ?_,
      fun hready hbad hgap => moved _ ?_, fun hidle => moved _ (Device.spiTransfer_idle hidle received)⟩
    · refine (Device.spiTransfer_fits hready received hfits).trans ((if_neg (Nat.not_lt.mpr hgap)).trans ?_)
      rfl
    · exact (Device.spiTransfer_fits hready received hfits).trans (if_pos hgap)
    · exact (Device.spiTransfer_bad hready received hbad).trans (if_neg (Nat.not_lt.mpr hgap))
    · exact (Device.spiTransfer_bad hready received hbad).trans (if_pos hgap)

end Sys2Proof.Machine
end

section
/-! PROOFS. The rows of perception: frames, pyramids, corner lists, vector fields and neural jobs (R388 to R421). -/
namespace Sys2Proof.Machine

/-! ### The start of a frame -/

theorem Device.frameOff_iff (d : Device) (c : Nat) : (!d.on Reg.CAM_CTRL.EN c || !d.full || d.on Reg.CAM_STAT.CSI_LASTING c
      || (d.cam c).receiving.isSome) = true
    ↔ (d.on Reg.CAM_CTRL.EN c = false ∨ d.full = false ∨ d.on Reg.CAM_STAT.CSI_LASTING c = true
      ∨ (d.cam c).receiving.isSome = true) := by
  simp only [Bool.or_eq_true, Bool.not_eq_true', or_assoc]

theorem not_frameOff {d : Device} {c : Nat} (hen : d.on Reg.CAM_CTRL.EN c = true) (hfull : d.full = true)
    (hlasting : d.on Reg.CAM_STAT.CSI_LASTING c = false) (hnone : (d.cam c).receiving = none) :
    ¬ (!d.on Reg.CAM_CTRL.EN c || !d.full || d.on Reg.CAM_STAT.CSI_LASTING c || (d.cam c).receiving.isSome) = true := by
  rw [hen, hfull, hlasting, hnone]
  exact Bool.false_ne_true

/-- The device once a frame of camera `c` has its number, before it has a slot. -/
def Device.frameNumbered (d : Device) (c : Nat) : Device :=
  (d.modCam c (fun x => { x with seq := x.seq + 1 })).wr Reg.CAM_SEQ.SEQ c ((d.cam c).seq + 1)

/-- A frame that starts takes a slot, or is dropped for want of one (R396). -/
theorem Device.frameStart_starts {d : Device} {c : Nat} (hen : d.on Reg.CAM_CTRL.EN c = true) (hfull : d.full = true)
    (hlasting : d.on Reg.CAM_STAT.CSI_LASTING c = false) (hnone : (d.cam c).receiving = none) : d.frameStart c =
      let f : Frame := ⟨c, 0, (d.cam c).seq, d.ptime, d.ptime⟩
      let a := d.frameNumbered c
      match a.freeSlot c with
      | none => ((a.count Reg.CAM_DROPS.NO_SLOT c).camEvt c 1).frameEvent f 0xFF 4 0
      | some k => (((a.claimFlag (frameFlag c k) c f.seq).modCam c (fun x => { x with
          receiving := some { f with slot := k }, last := some k })).wr Reg.CAM_STAT.SLOT c k).wr Reg.CAM_STAT.STATE c 3 :=
  if_neg (not_frameOff hen hfull hlasting hnone)

/-! ### The end of a frame -/

theorem Device.setFlag_reports (d : Device) (f state hold : Nat) : d.reports (d.setFlag f state hold) :=
  Device.reports.trans (d.wr_reports ..) (Device.reports.trans (Device.wr_reports ..) (Device.wr_reports ..))

theorem Device.count_reports (d : Device) (f : Field) (i k : Nat) : d.reports (d.count f i k) := d.wr_reports ..

theorem Device.freeFlag_reports (d : Device) (f : Nat) : d.reports (d.freeFlag f) := d.setFlag_reports ..

theorem Device.publishFlag_reports (d : Device) (f mask : Nat) : d.reports (d.publishFlag f mask) := by
  unfold Device.publishFlag
  split
  · exact d.reports_refl
  · split
    · exact d.setFlag_reports ..
    · exact d.setFlag_reports ..

theorem Device.frameEvent_reports (d : Device) (f : Frame) (slot flags lines : Nat) :
    d.reports (d.frameEvent f slot flags lines) := by
  unfold Device.frameEvent
  split
  · exact d.ringPush_reports ..
  · exact d.reports_refl

/-- A receiver that drops its frame has none. -/
theorem Device.modCam_notReceiving (d : Device) (c : Nat) :
    ((d.modCam c (fun x => { x with receiving := none })).cam c).receiving = none := by
  change (nth Camera.reset c (modNth (fun x => { x with receiving := none }) c d.perc.cams)).receiving = none
  generalize d.perc.cams = l
  induction l generalizing c with
  | nil => cases c <;> rfl
  | cons x t ih =>
    cases c with
    | zero => rfl
    | succ c => exact ih c

theorem Device.cam_of_reports {d e : Device} (h : d.reports e) (c : Nat) : e.cam c = d.cam c := by
  simp only [Device.cam, h.perc]

/-- The end of a frame leaves its receiver without one: what follows the receiver's own change writes registers, rings and
the queue of the pyramids. -/
theorem Device.frameEnd_notReceiving (d : Device) (c : Nat) (r : FrameReport) :
    ((d.frameEnd c r).cam c).receiving = none := by
  unfold Device.frameEnd
  split
  · assumption
  · extract_lets lines f corrupt short d1 d2 d3 d4 d5 d6 flags d7 d8
    have h6 : (d6.cam c).receiving = none := d5.modCam_notReceiving c
    split
    · rw [Device.cam_of_reports (Device.frameEvent_reports ..), Device.cam_of_reports (Device.count_reports ..),
        Device.cam_of_reports (Device.freeFlag_reports ..), h6]
    · have h8 : d8.cam c = d7.cam c := rfl
      rw [Device.cam_of_reports (Device.camEvt_reports ..), Device.cam_of_reports (Device.frameEvent_reports ..), h8,
        Device.cam_of_reports (Device.publishFlag_reports ..), h6]

/-! ### Pyramids, corners and fields -/

theorem Device.cornersDone_empty {d : Device} {c : Nat} (h : nth [] c d.perc.cornerQ = []) : d.cornersDone c = d := by
  unfold Device.cornersDone
  rw [h]

theorem Device.bmDone_idle {d : Device} (h : d.perc.matcher.current = none) (mm : List Nat) : d.bmDone mm = d := by
  unfold Device.bmDone
  extract_lets m
  rw [show m.current = none from h]

/-! ### Neural jobs -/

theorem Device.jobOff_iff (d : Device) : (!d.on Reg.NE_CTRL.EN || !d.full || d.perc.job.isSome) = true
    ↔ (d.on Reg.NE_CTRL.EN = false ∨ d.full = false ∨ d.perc.job.isSome = true) := by
  simp only [Bool.or_eq_true, Bool.not_eq_true', or_assoc]

/-- The device once the heads of the job rings have been checked. -/
def Device.headsChecked (d : Device) : Device :=
  (List.range 3).foldl (fun e q => e.checkHeads q (e.jobEntries q).length) d

/-- A job that has begun goes down at once where no tile is left to run it. -/
def Device.begunOrDown (d : Device) : Device := if d.rd Reg.NE_STAT.ACTIVE = 0 then d.jobDown else d

theorem not_jobOff {d : Device} (hen : d.on Reg.NE_CTRL.EN = true) (hfull : d.full = true) (hnone : d.perc.job = none) :
    ¬ (!d.on Reg.NE_CTRL.EN || !d.full || d.perc.job.isSome) = true := by
  rw [hen, hfull, hnone]
  exact Bool.false_ne_true

section
variable {d : Device} (hen : d.on Reg.NE_CTRL.EN = true) (hfull : d.full = true) (hnone : d.perc.job = none)
include hen hfull hnone

theorem Device.jobStart_nothing (h : d.headsChecked.pickQueue = none) : d.jobStart = d.headsChecked := by
  unfold Device.jobStart
  rw [if_neg (not_jobOff hen hfull hnone)]
  extract_lets x
  rw [show x.pickQueue = none from h]
  rfl

/-- The head of the queue picked starts (R416). -/
theorem Device.jobStart_head {q : Nat} (h : d.headsChecked.pickQueue = some q) (hq : q ≠ 3) :
    d.jobStart = (d.headsChecked.startHead q).begunOrDown := by
  unfold Device.jobStart
  rw [if_neg (not_jobOff hen hfull hnone)]
  extract_lets x
  rw [show x.pickQueue = some q from h]
  dsimp only
  rw [if_neg hq]
  rfl

/-- The spotter's job starts where its queue is picked. -/
theorem Device.jobStart_spotter (h : d.headsChecked.pickQueue = some 3) {seg frames : Nat} {final : Bool}
    (hwaits : d.headsChecked.waitingSpotter = some (seg, frames, final)) :
    d.jobStart = (d.headsChecked.startSpotter seg (frames, final)).begunOrDown := by
  unfold Device.jobStart
  rw [if_neg (not_jobOff hen hfull hnone)]
  extract_lets x
  rw [show x.pickQueue = some 3 from h]
  dsimp only
  rw [if_pos rfl, show x.waitingSpotter = some (seg, frames, final) from hwaits]
  rfl

end

section
variable {d : Device} {j : Job} (hjob : d.perc.job = some j) (r : JobReport)
include hjob

theorem Device.jobDone_doomed (h : j.doomed = true) : d.jobDone r = d.jobDown := by
  unfold Device.jobDone
  rw [hjob]
  exact if_pos h

/-- A spotter's job ends with its score (R446). -/
theorem Device.jobDone_spotter (h : j.doomed = false) {seg : Nat} (hspot : j.spotter = some seg) : d.jobDone r =
    let a := (d.tileMismatches (r.mismatch.map (·.val))).modPerc (fun q => { q with job := none })
    let b := ((a.refreshNe.count Reg.NE_RUNS.COUNT).count Reg.RING_PI.PI 119).count Reg.RING_CI.CI 119
    ((b.latchEvent 343).neEvt 0).spotterEnded seg (some (nth 0 0 r.scores).toNat) := by
  unfold Device.jobDone
  rw [hjob]
  dsimp only
  rw [if_neg (by rw [h]; exact Bool.false_ne_true), hspot]

theorem Device.jobDone_unloaded (h : j.doomed = false) (hspot : j.spotter = none)
    (hbox : d.container (jobByte j.bytes 0) = none) : d.jobDone r = d.jobDown := by
  unfold Device.jobDone
  rw [hjob]
  dsimp only
  rw [if_neg (by rw [h]; exact Bool.false_ne_true), hspot]
  dsimp only
  rw [hbox]

end

/-! ### The rows -/

/-- Settles O55. -/
theorem perceptionRowsAct : Obligations.PerceptionRowsAct := by
  unfold Obligations.PerceptionRowsAct
  intro s c r mm job d
  have started (e : Device) (h : d.jobStart = e) : exec .neJobStart s = s.gives e := congrArg s.gives h
  have ended (e : Device) (h : d.jobDone job = e) : exec (.neJobDone job) s = s.gives e := congrArg s.gives h
  have notFull (h : d.full = false) : ¬ d.full = true := by
    rw [h]
    exact Bool.false_ne_true
  refine ⟨fun h => congrArg s.gives (if_pos ((d.frameOff_iff c).mpr h)), fun hen hfull hlasting hnone => ?_,
    fun h => congrArg s.gives ?_, fun _ => ⟨rfl, d.frameEnd_notReceiving c r⟩, fun f rest hnow hqueue hfull =>
      congrArg s.gives ?_, fun h => congrArg s.gives ?_, fun h => congrArg s.gives ?_, fun f h => congrArg s.gives ?_,
    fun h => ?_, fun f rest hfull _ => congrArg s.gives (if_pos hfull), fun h => ?_,
    fun hfull _ => congrArg s.gives (if_pos hfull), fun h => started d (if_pos (d.jobOff_iff.mpr h)), fun hen hfull hnone =>
      ⟨fun h => started _ (Device.jobStart_nothing hen hfull hnone h), fun q h hq =>
        started _ (Device.jobStart_head hen hfull hnone h hq), fun seg frames final h hwaits =>
        started _ (Device.jobStart_spotter hen hfull hnone h hwaits)⟩,
    fun h => ended d ?_, fun j hjob hdoomed => ended _ (Device.jobDone_doomed hjob job hdoomed),
    fun j seg hjob hdoomed hspot => ended _ (Device.jobDone_spotter hjob job hdoomed hspot), fun j hjob hdoomed hspot =>
      ⟨fun hbox => ended _ (Device.jobDone_unloaded hjob job hdoomed hspot hbox), fun x _ => rfl⟩,
    fun a bs x hx => d.perceptionWrite_byte hx⟩
  · intro f a
    have hstart := Device.frameStart_starts hen hfull hlasting hnone
    refine ⟨fun hslot => congrArg s.gives (?_ : d.frameStart c = _), fun k hslot => congrArg s.gives (?_ : d.frameStart c = _)⟩
    · rw [hstart]
      dsimp only
      rw [show (d.frameNumbered c).freeSlot c = none from hslot]
      rfl
    · rw [hstart]
      dsimp only
      rw [show (d.frameNumbered c).freeSlot c = some k from hslot]
      rfl
  · change d.frameEnd c r = d
    unfold Device.frameEnd
    rw [h]
  · beta_reduce
    rw [show s.dev.perc.pyrNow = none from hnow, show s.dev.perc.pyrQueue = f :: rest from hqueue]
    exact if_pos hfull
  · beta_reduce
    split
    · next f rest hnow hqueue =>
      rcases h with h | h | h
      · rw [show d.perc.pyrNow = none from hnow] at h
        exact absurd h Bool.false_ne_true
      · rw [show d.perc.pyrQueue = f :: rest from hqueue] at h
        cases h
      · exact if_neg (notFull h)
    · rfl
  · change d.pyramidDone = d
    unfold Device.pyramidDone
    rw [h]
  · change d.pyramidDone = _
    unfold Device.pyramidDone
    rw [h]
  · rcases h with h | h
    · exact congrArg s.gives (if_neg (notFull h))
    · refine congrArg s.gives (?_ : (if d.full = true then d.cornersDone c else d) = d)
      rw [Device.cornersDone_empty h, ite_self]
  · rcases h with h | h
    · exact congrArg s.gives (if_neg (notFull h))
    · refine congrArg s.gives (?_ : (if d.full = true then d.bmDone (mm.map (·.toNat)) else d) = d)
      rw [Device.bmDone_idle h, ite_self]
  · unfold Device.jobDone
    rw [h]

end Sys2Proof.Machine
end

section
/-! PROOFS. The rows of the audio front end and of fusion (R432 to R470). -/
namespace Sys2Proof.Machine

/-! ### The segment of a phrase -/

theorem Device.copySegment_idle {d : Device} (h : d.mode ≠ 3 ∨ ∀ g, d.audio.seg = some g → g.copied = true) :
    d.copySegment = d := by
  unfold Device.copySegment
  split
  · next g hg =>
    refine if_neg fun ⟨hmode, hcopied⟩ => ?_
    rcases h with h | h
    · exact h hmode
    · exact Bool.false_ne_true (hcopied.symm.trans (h g hg))
  · rfl

theorem Device.copySegment_copies {d : Device} {g : Segment} (hmode : d.mode = 3) (hseg : d.audio.seg = some g)
    (hcopied : g.copied = false) : d.copySegment =
      let a := (d.perceptionWrite d.segBase (d.preFrames g.len)).modSeg (fun x => { x with copied := true })
      if g.ended then a else a.setFlag 32 1 (2 ^ 8) := by
  unfold Device.copySegment
  rw [hseg]
  exact if_pos ⟨hmode, hcopied⟩

section
variable {s : State} {g : Segment} (hseg : s.dev.audio.seg = some g)
include hseg

/-- A spotter job that is due by the state of the segment (R446). -/
theorem exec_kwsJobDue : exec .kwsJobDue s = s.gives (
    if g.copied = false ∨ g.final = true then s.dev
    else if g.ended = true then (if s.dev.spotterRuns then s.dev.placeJob g.len true else s.dev.verdict 3)
    else if g.placed < g.len / s.dev.hop * s.dev.hop then
      (if s.dev.spotterRuns then s.dev.placeJob (g.len / s.dev.hop * s.dev.hop) false else s.dev.verdict 3)
    else s.dev) := by
  refine congrArg s.gives ?_
  beta_reduce
  rw [hseg]

theorem exec_kwsVerdict_none (h : g.result = none) : exec .kwsVerdict s = .next s := by
  refine congrArg s.gives (?_ : _ = s.dev)
  beta_reduce
  rw [hseg]
  dsimp only
  rw [h]

/-- A result is judged against the threshold, a final one for good. -/
theorem exec_kwsVerdict {frames : Nat} {final : Bool} (h : g.result = some (frames, final)) :
    exec .kwsVerdict s = s.gives (
      if s.dev.rd Reg.KWS_CFG.HIT_THR ≤ g.score then
        (s.dev.modSeg (fun x => { x with len := frames, ended := true })).verdict 1
      else if final = true then s.dev.verdict 0 else s.dev.modSeg (fun x => { x with result := none })) := by
  refine congrArg s.gives ?_
  beta_reduce
  rw [hseg]
  dsimp only
  rw [h]

end

theorem Device.stuck_iff (d : Device) (m : Nat) : (d.on Reg.AUD_CTRL.AUD_EN && bitOf (d.rd Reg.AUD_CFG.MIC_EN) m
      && !bitOf (d.rd Reg.AUD_STAT.STUCK) m) = true
    ↔ (d.on Reg.AUD_CTRL.AUD_EN = true ∧ bitOf (d.rd Reg.AUD_CFG.MIC_EN) m = true
      ∧ bitOf (d.rd Reg.AUD_STAT.STUCK) m = false) := by
  rw [Bool.and_eq_true, Bool.and_eq_true, Bool.not_eq_true', and_assoc]

/-! ### Fusion -/

theorem fusion_stopped {d : Device} (h : d.on Reg.FUS_CTRL.EN = false ∨ d.full = false) :
    (d.on Reg.FUS_CTRL.EN && d.full) = false := by
  rcases h with h | h <;> rw [h] <;> simp only [Bool.false_and, Bool.and_false]

theorem Device.fusionCycle_idle {d : Device} (h : d.on Reg.FUS_CTRL.EN = false ∨ d.full = false) : d.fusionCycle = d :=
  if_pos (by rcases h with h | h <;> rw [h] <;> simp only [Bool.not_false, Bool.true_or, Bool.or_true])

theorem Device.advExpire_idle {d : Device} (h : d.on Reg.FUS_CTRL.EN = false ∨ d.full = false) (c : Nat) :
    d.advExpire c = d :=
  if_neg (by rw [fusion_stopped h]; exact Bool.false_ne_true)

theorem Device.ageLimit_idle {d : Device} (h : d.on Reg.FUS_CTRL.EN = false ∨ d.full = false) (k : Nat) :
    d.ageLimit k = d :=
  if_neg (by rw [fusion_stopped h]; exact Bool.false_ne_true)

/-- A track without the marks that a cycle leaves on it. -/
def plainTracks (l : List Track) : List Track := l.map (fun t => { t with assigned := false, born := false })

section
variable {d : Device} (hen : d.on Reg.FUS_CTRL.EN = true) (hfull : d.full = true)
include hen hfull

/-- A fusion cycle samples, associates, advises, reports what has changed, and publishes (R456 to R470). -/
theorem Device.fusionCycle_runs : d.fusionCycle =
    let a := (d.modFusion (fun u => { u with cycle := d.ptime })).clearTracks
    let b := ((a.modFusion (fun u => { u with tracks := plainTracks u.tracks })).sampleStreams.updateEgos).takeLists
    let e := (List.range 8).foldl (fun x j => x.advise j) (b.2.foldl Device.associate b.1)
    let f := if e.on Reg.FUS_CFG2.TRK_EN && plainTracks e.fusion.tracks != plainTracks d.fusion.tracks
      then e.writeReport (b.2.foldl (fun m l => m ||| 2 ^ l.stream) 0) else e
    ((List.range 8).foldl (fun x j => x.placeImu j) f).refreshAges.publish true := by
  unfold Device.fusionCycle Device.each plainTracks
  rw [hen, hfull, if_neg (by exact Bool.false_ne_true)]

theorem Device.advDue_iff (c : Nat) : (d.on Reg.FUS_CTRL.EN && d.full && d.on Reg.ADV_CFG.EN c && decide (0 < (d.adv c).hold)
      && decide (d.rd Reg.ADV_CLEAR.HOLD_MS c ≤ (d.adv c).hold - 1)) = true
    ↔ d.on Reg.ADV_CFG.EN c = true ∧ 0 < (d.adv c).hold ∧ d.rd Reg.ADV_CLEAR.HOLD_MS c ≤ (d.adv c).hold - 1 := by
  rw [hen, hfull]
  simp only [Bool.true_and, Bool.and_eq_true, decide_eq_true_eq, and_assoc]

theorem Device.ageOver_iff (k : Nat) : (d.on Reg.FUS_CTRL.EN && d.full && d.streamKind k != 0
      && d.rd Reg.STR_CFG.AGE_LIM k != 0 && decide (d.rd Reg.STR_CFG.AGE_LIM k * 1000 < d.streamAge k)) = true
    ↔ d.streamKind k ≠ 0 ∧ d.rd Reg.STR_CFG.AGE_LIM k ≠ 0 ∧ d.rd Reg.STR_CFG.AGE_LIM k * 1000 < d.streamAge k := by
  rw [hen, hfull]
  simp only [Bool.true_and, Bool.and_eq_true, bne_iff_ne, decide_eq_true_eq, and_assoc]

end

/-! ### The rows -/

/-- Settles O56. -/
theorem audioAndFusionRowsAct : Obligations.AudioAndFusionRowsAct := by
  unfold Obligations.AudioAndFusionRowsAct
  refine ⟨fun s mics m => ?_, fun s c k => ?_⟩
  · intro d
    refine ⟨fun h => congrArg s.gives (if_neg ?_), fun hen hrst => congrArg s.gives (if_pos ?_),
      fun h => congrArg s.gives (Device.copySegment_idle h), fun g hmode hseg hcopied =>
        congrArg s.gives (Device.copySegment_copies hmode hseg hcopied), fun h => ⟨?_, ?_⟩, fun g hseg => ?_, rfl,
      ⟨fun h => congrArg s.gives (if_pos ((d.stuck_iff m).mpr h)), fun h => congrArg s.gives (if_neg (mt (d.stuck_iff m).mp h))⟩⟩
    · rcases h with h | h
      · rw [show s.dev.on Reg.AUD_CTRL.AUD_EN = false from h]
        exact Bool.false_ne_true
      · rw [show s.dev.power.devrst = true from h, Bool.not_true, Bool.and_false]
        exact Bool.false_ne_true
    · rw [show s.dev.on Reg.AUD_CTRL.AUD_EN = true from hen, show s.dev.power.devrst = false from hrst]
      rfl
    · refine congrArg s.gives (?_ : _ = d)
      beta_reduce
      rw [show s.dev.audio.seg = none from h]
    · refine congrArg s.gives (?_ : _ = d)
      beta_reduce
      rw [show s.dev.audio.seg = none from h]
    · have hjob := exec_kwsJobDue hseg
      have hgoes (hcopied : g.copied = true) (hfinal : g.final = false) : ¬ (g.copied = false ∨ g.final = true) := by
        rw [hcopied, hfinal]
        simp
      have hopen (hended : g.ended = false) : ¬ g.ended = true := by
        rw [hended]
        exact Bool.false_ne_true
      refine ⟨fun h => hjob.trans (congrArg s.gives (if_pos h)), fun hcopied hfinal hended =>
          hjob.trans (congrArg s.gives ((if_neg (hgoes hcopied hfinal)).trans (if_pos hended))),
        fun hcopied hfinal hended hplaced => hjob.trans (congrArg s.gives ((if_neg (hgoes hcopied hfinal)).trans
          ((if_neg (hopen hended)).trans (if_pos hplaced)))),
        fun hcopied hfinal hended hplaced => hjob.trans (congrArg s.gives ((if_neg (hgoes hcopied hfinal)).trans
          ((if_neg (hopen hended)).trans (if_neg (Nat.not_lt.mpr hplaced))))),
        fun h => exec_kwsVerdict_none hseg h, fun frames final hresult => ?_⟩
      have hverdict := exec_kwsVerdict hseg hresult
      refine ⟨fun h => hverdict.trans (congrArg s.gives (if_pos h)), fun h hfinal =>
        hverdict.trans (congrArg s.gives ((if_neg (Nat.not_le.mpr h)).trans (if_pos hfinal))), fun h hfinal =>
        hverdict.trans (congrArg s.gives ((if_neg (Nat.not_le.mpr h)).trans (if_neg ?_)))⟩
      rw [hfinal]
      exact Bool.false_ne_true
  · intro d
    refine ⟨fun h => ⟨congrArg s.gives (Device.fusionCycle_idle h), congrArg s.gives (Device.advExpire_idle h c),
      congrArg s.gives (Device.ageLimit_idle h k)⟩, fun hen hfull => ⟨?_, ?_, ?_⟩⟩
    · intro plain a b e f
      have hrow : exec .fusionCycle s = s.gives d.fusionCycle := rfl
      rw [hrow, Device.fusionCycle_runs hen hfull]
      unfold f e b a plain plainTracks
      dsimp only
    · exact ⟨fun h => congrArg s.gives (if_pos ((Device.advDue_iff hen hfull c).mpr h)),
        fun h => congrArg s.gives (if_neg (mt (Device.advDue_iff hen hfull c).mp h))⟩
    · exact ⟨fun h => congrArg s.gives (if_pos ((Device.ageOver_iff hen hfull k).mpr h)),
        fun h => congrArg s.gives (if_neg (mt (Device.ageOver_iff hen hfull k).mp h))⟩

end Sys2Proof.Machine
end

section
/-! PROOFS. The rows of the sensors and the fans (R473 to R493). -/
namespace Sys2Proof.Machine

/-! ### Thresholds -/

section
variable {s : State} (x : Fin 25) (k : Fin 3)

/-- A dwell that is over for a threshold whose raw state differs from its output (R477). -/
theorem exec_thresholdDwellDone_due {t0 : Nat} (hsince : (s.dev.threshold x k).since = some t0)
    (hdue : (s.dev.threshold x k).raw ≠ (s.dev.threshold x k).out ∧ (s.dev.threshold x k).hover = false
      ∧ s.dev.dwellTenths x ≤ (s.dev.grain - t0) * 10) :
    exec (.thresholdDwellDone x k) s = s.gives (s.dev.setOutput x k (s.dev.threshold x k).raw) := by
  refine congrArg s.gives ?_
  dsimp only
  rw [hsince]
  exact if_pos hdue

theorem exec_thresholdDwellDone_early (h : ¬ ∃ t0, (s.dev.threshold x k).since = some t0
    ∧ (s.dev.threshold x k).raw ≠ (s.dev.threshold x k).out ∧ (s.dev.threshold x k).hover = false
    ∧ s.dev.dwellTenths x ≤ (s.dev.grain - t0) * 10) : exec (.thresholdDwellDone x k) s = .next s := by
  refine congrArg s.gives (?_ : _ = s.dev)
  dsimp only
  split
  · next t0 hsince => exact if_neg fun hdue => h ⟨t0, hsince, hdue⟩
  · rfl

end

/-! ### Fans -/

/-- The current of fan `f` shows that it turns, though its tach is silent (R491). -/
def Device.fanTurns (d : Device) (f : Nat) : Bool :=
  match d.fanCurrent f 65536 with
  | some (code, clip) => decide (sext 24 (d.rd Reg.FAN_OPEN.I_OPEN f) ≤ code
      ∧ code ≤ sext 24 (d.rd Reg.FAN_STALL.I_STALL f)) && !clip
  | none => false

theorem Device.fanTurns_iff (d : Device) (f : Nat) : d.fanTurns f = true ↔ ∃ code clip, d.fanCurrent f 65536 = some (code, clip)
    ∧ sext 24 (d.rd Reg.FAN_OPEN.I_OPEN f) ≤ code ∧ code ≤ sext 24 (d.rd Reg.FAN_STALL.I_STALL f) ∧ clip = false := by
  unfold Device.fanTurns
  cases hcurrent : d.fanCurrent f 65536 with
  | none => simp
  | some p =>
    obtain ⟨code, clip⟩ := p
    simp only [Bool.and_eq_true, decide_eq_true_eq, Bool.not_eq_true', Option.some.injEq, Prod.mk.injEq]
    constructor
    · rintro ⟨⟨hlow, hhigh⟩, hclip⟩
      exact ⟨code, clip, ⟨rfl, rfl⟩, hlow, hhigh, hclip⟩
    · rintro ⟨_, _, ⟨rfl, rfl⟩, hlow, hhigh, hclip⟩
      exact ⟨⟨hlow, hhigh⟩, hclip⟩

/-- A silent tach acts only on a fan that runs at more than 200 per mille. -/
theorem exec_fanTachSilent {s : State} {f : Fin 6} (hstate : s.dev.rd Reg.FAN_STAT.STATE f = 4)
    (hduty : 200 < s.dev.rd Reg.FAN_STAT.DUTY f) : exec (.fanTachSilent f) s = s.gives (
      if s.dev.fanTurns f = true then
        (((((s.dev.wr Reg.FAN_STAT.CLASS f 5).setFan f 5 ((s.dev.fan f).openLoop (s.dev.rd Reg.FAN_SPEED.TARGET f))).fanEvt f
          3).occur 0x16 f).boostFans)
      else ((((s.dev.wr Reg.FAN_STAT.CLASS f 4).setFan f 3 0).fanEvt f 2).occur 0x15 f)) :=
  congrArg s.gives (if_neg (by omega))

/-- The device once the speed and the target of fan `f` are shown. -/
def Device.fanShown (d : Device) (f edges : Nat) : Device :=
  (d.wr Reg.FAN_SPEED.RPM f (d.fanRpm f edges)).wr Reg.FAN_SPEED.TARGET f (d.fanTarget f)

/-- The state of a fan is not among what is shown of its speed. -/
theorem Device.fanShown_state (d : Device) (f edges : Nat) :
    (d.fanShown f edges).rd Reg.FAN_STAT.STATE f = d.rd Reg.FAN_STAT.STATE f := by
  have hrpm : Reg.FAN_SPEED.RPM.key f = (0xA51C + 0x20 * f) * 8 := rfl
  have htarget : Reg.FAN_SPEED.TARGET.key f = (0xA51C + 0x20 * f) * 8 + 16 := rfl
  have hstate : Reg.FAN_STAT.STATE.key f = (0xA518 + 0x20 * f) * 8 := rfl
  unfold Device.fanShown
  rw [Device.rd_wr_other _ (.inr (by omega)), Device.rd_wr_other _ (.inr (by omega))]

theorem Device.updateFan_idle {d : Device} {f : Nat} (h : d.on Reg.FAN_CTRL.EN f = false ∨ d.power.grain = true
    ∨ d.power.devrst = true) (edges : Nat) : d.updateFan f edges = d :=
  if_pos (by rcases h with h | h | h <;> rw [h] <;> simp only [Bool.not_false, Bool.true_or, Bool.or_true])

/-- The update of a fan by its state (R484 to R487, R492). -/
theorem Device.updateFan_runs {d : Device} {f : Nat} (hen : d.on Reg.FAN_CTRL.EN f = true) (hgrain : d.power.grain = false)
    (hrst : d.power.devrst = false) (edges : Nat) : d.updateFan f edges =
      let a := d.fanShown f edges
      if d.rd Reg.FAN_STAT.STATE f = 6 then a
      else if d.fanTarget f = 0 then (a.setFan f 1 0).boostFans
      else if d.rd Reg.FAN_STAT.STATE f = 1 then a.startFan f
      else if d.rd Reg.FAN_STAT.STATE f = 4 then
        let b := a.modFan f (fun y => y.learn (a.rd Reg.FAN_STAT.DUTY f) (d.fanRpm f edges))
        (b.wr Reg.FAN_STAT.DUTY f (b.fanLoop f (d.fanRpm f edges) (d.fanTarget f))).boostFans
      else if d.rd Reg.FAN_STAT.STATE f = 5 then
        if 2 ≤ (a.fan f).edges + edges then
          ((((a.wr Reg.FAN_STAT.CLASS f 0).setFan f 4 (a.rd Reg.FAN_STAT.DUTY f)).fanEvt f 4).clearLatch 0x16 f).boostFans
        else ((a.wr Reg.FAN_STAT.DUTY f ((a.fan f).openLoop (d.fanTarget f))).modFan f (fun y => { y with
          edges := edges })).boostFans
      else a := by
  rw [← d.fanShown_state f edges]
  exact if_neg (by rw [hen, hgrain, hrst]; exact Bool.false_ne_true)

/-- Settles O57. -/
theorem thermalRowsAct : Obligations.ThermalRowsAct := by
  unfold Obligations.ThermalRowsAct
  intro s reading edges t x k f d st
  refine ⟨rfl, ?_, ?_, ?_, fun h => congrArg s.gives (if_pos h), fun h hedges =>
      congrArg s.gives ((if_neg (not_not.mpr h)).trans (if_pos hedges)), fun h hedges hattempt =>
      congrArg s.gives ((if_neg (not_not.mpr h)).trans ((if_neg (Nat.not_le.mpr hedges)).trans (if_pos hattempt))),
    fun h hedges hattempt =>
      congrArg s.gives ((if_neg (not_not.mpr h)).trans ((if_neg (Nat.not_le.mpr hedges)).trans (if_neg hattempt))),
    fun h => congrArg s.gives (if_pos h), fun h => congrArg s.gives (if_neg (not_not.mpr h)),
    fun h => congrArg s.gives (if_pos h), fun h hduty => ?_,
    fun h => congrArg s.gives (Device.updateFan_idle h edges.toNat), fun hen hgrain hrst => ?_⟩
  · intro a
    exact ⟨fun h => congrArg s.gives (if_pos h), fun h hnone => congrArg s.gives ((if_neg (not_not.mpr h)).trans (if_pos hnone)),
      fun h hsome => congrArg s.gives ((if_neg (not_not.mpr h)).trans (if_neg hsome))⟩
  · intro h due
    refine ⟨fun hdue => ?_, fun hearly => exec_thresholdDwellDone_early x k hearly⟩
    obtain ⟨t0, hsince, hover⟩ := hdue
    exact exec_thresholdDwellDone_due x k hsince hover
  · intro h due
    exact ⟨fun hdue => congrArg s.gives (if_pos hdue), fun hearly => congrArg s.gives (if_neg hearly)⟩
  · intro turning
    have hsilent := exec_fanTachSilent h hduty
    exact ⟨fun hturns => hsilent.trans (congrArg s.gives (if_pos ((d.fanTurns_iff f).mpr hturns))),
      fun hturns => hsilent.trans (congrArg s.gives (if_neg (mt (d.fanTurns_iff f).mp hturns)))⟩
  · intro rpm target a
    have hupdate := Device.updateFan_runs hen hgrain hrst edges.toNat
    have updated (e : Device) (h : d.updateFan f edges.toNat = e) : exec (.fanUpdate f edges) s = s.gives e :=
      congrArg s.gives h
    have running (h : st ≠ 6) (htarget : target ≠ 0) := hupdate.trans ((if_neg h).trans (if_neg htarget))
    refine ⟨fun h => updated _ (hupdate.trans (if_pos h)), fun h htarget =>
        updated _ (hupdate.trans ((if_neg h).trans (if_pos htarget))), fun h htarget =>
        updated _ ((running (by omega) htarget).trans (if_pos h)), fun h htarget => ?_, fun h htarget hedges => ?_,
      fun h htarget hedges => ?_, fun h htarget => ?_⟩
    · exact updated _ ((running (by omega) htarget).trans ((if_neg (by omega)).trans (if_pos h)))
    · exact updated _ ((running (by omega) htarget).trans ((if_neg (by omega)).trans ((if_neg (by omega)).trans
        ((if_pos h).trans (if_pos hedges)))))
    · exact updated _ ((running (by omega) htarget).trans ((if_neg (by omega)).trans ((if_neg (by omega)).trans
        ((if_pos h).trans (if_neg (Nat.not_le.mpr hedges))))))
    · exact updated _ ((running (by omega) htarget).trans ((if_neg (by omega)).trans ((if_neg (by omega)).trans
        (if_neg (by omega)))))

end Sys2Proof.Machine
end

section
/-! PROOFS. The rows of keeping and recovery: lines of the boot store, the record, the checker and lasting scruples
(R503 to R520, R552 to R565). -/
namespace Sys2Proof.Machine

/-! ### Lines of the boot store -/

theorem Device.mramLine_idle {d : Device} (hstore : d.keep.store = none) (himg : d.keep.img = none) (ok : Bool) :
    d.mramLine ok = d := by
  unfold Device.mramLine
  rw [hstore, himg]

theorem Device.mramLine_store {d : Device} {r : StoreRun} (hstore : d.keep.store = some r) (ok : Bool) :
    d.mramLine ok = d.storeLine r ok := by
  unfold Device.mramLine
  rw [hstore]

theorem Device.mramLine_image {d : Device} {r : ImgRun} (hstore : d.keep.store = none) (himg : d.keep.img = some r)
    (ok : Bool) : d.mramLine ok = d.imageLine r ok := by
  unfold Device.mramLine
  rw [hstore, himg]

/-- A line that is written for a store: the store ends at a bad line, at its last, or where it was told to (R503, R509). -/
theorem Device.storeLine_cons (d : Device) {r : StoreRun} {a : Nat} {bs : List Byte} {rest : List (Nat × List Byte)}
    (hlines : r.lines = (a, bs) :: rest) (ok : Bool) : d.storeLine r ok =
      let q := { r with lines := rest, written := r.written + 1 }
      let e := ((if ok then d.writeLine a bs else d.tearLine a bs).wr Reg.STORE_STAT.LINES 0 q.written).modKeep
        (fun k => { k with store := some q })
      if ok = false then e.storeBadLine q
      else if rest = [] then e.storeDone q else if q.stopping ≠ 0 then e.storeStopped q else e := by
  unfold Device.storeLine
  rw [hlines]
  simp only [Bool.not_eq_true', List.isEmpty_iff]

/-- A line that is written for an image write. -/
theorem Device.imageLine_cons (d : Device) {r : ImgRun} {a : Nat} {bs : List Byte} {rest : List (Nat × List Byte)}
    (hlines : r.lines = (a, bs) :: rest) (ok : Bool) : d.imageLine r ok =
      let q := { r with lines := rest }
      let e := (if ok then d.writeLine a bs else d.tearLine a bs).modKeep (fun k => { k with img := some q })
      if ok = false then (e.occur 0x17 0).endImage q .badParam 0x0B
      else if rest = [] then (e.imgEvt 0).endImage q .ok 0
      else if q.stopping ≠ 0 then e.endImage q .aborted 0x0C else e := by
  unfold Device.imageLine
  rw [hlines]
  simp only [Bool.not_eq_true', List.isEmpty_iff]

theorem Device.storeSafePoint_due {d : Device} {r : StoreRun} (hstore : d.keep.store = some r)
    (h : r.stopping ≠ 0 ∧ 1 < r.lines.length) : d.storeSafePoint = d.mramLine true := by
  rw [Device.mramLine_store hstore]
  unfold Device.storeSafePoint
  rw [hstore]
  exact if_pos h

theorem Device.storeSafePoint_idle {d : Device}
    (h : ¬ ∃ r, d.keep.store = some r ∧ r.stopping ≠ 0 ∧ 1 < r.lines.length) : d.storeSafePoint = d := by
  unfold Device.storeSafePoint
  split
  · next r hstore => exact if_neg fun hdue => h ⟨r, hstore, hdue⟩
  · rfl

/-! ### The record -/

theorem Device.appendNext_idle {d : Device} (h : d.keep.queue = [] ∨ d.mramReady = false) : d.appendNext = d := by
  unfold Device.appendNext
  split
  · rfl
  · next c rest hqueue =>
    rcases h with h | h
    · rw [h] at hqueue
      cases hqueue
    · exact if_pos (by rw [h]; rfl)

section
variable {d : Device} {c : RecCause} {rest : List RecCause} (hqueue : d.keep.queue = c :: rest) (hready : d.mramReady = true)
include hqueue hready

theorem Device.appendNext_full (hroom : d.recordRoom = false) :
    d.appendNext = if bitOf (d.rd Reg.STORE_EVT.CAUSE) 5 then d else (d.storeEvt 5).occur 0x18 0 := by
  unfold Device.appendNext
  rw [hqueue]
  exact (if_neg (by rw [hready]; exact Bool.false_ne_true)).trans (if_pos (by rw [hroom]; rfl))

/-- A record with room takes a mark for what was lost, or the next cause (R513). -/
theorem Device.appendNext_room (hroom : d.recordRoom = true) : d.appendNext =
    if d.rd Reg.REC_QUEUE.LOST ≠ 0 then
      (d.wr Reg.REC_QUEUE.LOST 0 0).appendEntry 0x0072 d.grain (leBytes 4 0 ++ leBytes 4 (d.rd Reg.REC_QUEUE.LOST))
    else match c.task with
      | some tag => (((d.modKeep (fun k => { k with queue := rest })).refreshQueue).appendEntry c.type c.grain c.data).ok tag
          false (leBytes 4 d.recHead)
      | none => ((d.modKeep (fun k => { k with queue := rest })).refreshQueue).appendEntry c.type c.grain c.data := by
  unfold Device.appendNext
  rw [hqueue]
  exact (if_neg (by rw [hready]; exact Bool.false_ne_true)).trans (if_neg (by rw [hroom]; exact Bool.false_ne_true))

end

/-! ### The rows -/

/-- Settles O58. -/
theorem keepingAndRecoveryRowsAct : Obligations.KeepingAndRecoveryRowsAct := by
  unfold Obligations.KeepingAndRecoveryRowsAct
  intro s ok pass cls unit n d
  have written (e : Device) (h : d.mramLine ok = e) : exec (.mramLineDone ok) s = s.gives e := congrArg s.gives h
  have appended (e : Device) (h : d.appendNext = e) : exec .recordAppend s = s.gives e := congrArg s.gives h
  refine ⟨fun hstore himg => written d (Device.mramLine_idle hstore himg ok), fun r a bs rest hstore hlines =>
      written _ ((Device.mramLine_store hstore ok).trans (d.storeLine_cons hlines ok)),
    fun r a bs rest hstore himg hlines =>
      written _ ((Device.mramLine_image hstore himg ok).trans (d.imageLine_cons hlines ok)),
    fun h => appended d (Device.appendNext_idle h), fun hqueue hready hroom => ?_, fun hqueue hready hroom hlost => ?_,
    fun c rest hqueue hready hroom hlost => ?_, ⟨fun h => ?_, fun h => congrArg s.gives (Device.storeSafePoint_idle h)⟩,
    fun h => congrArg s.gives (if_pos ?_), fun h => ⟨congrArg s.gives ?_, congrArg s.gives ?_⟩,
    fun h => congrArg s.gives (if_pos h), fun h => congrArg s.gives (if_neg ?_), rfl⟩
  · obtain ⟨c, rest, hcons⟩ := List.exists_cons_of_ne_nil hqueue
    exact appended _ (Device.appendNext_full hcons hready hroom)
  · obtain ⟨c, rest, hcons⟩ := List.exists_cons_of_ne_nil hqueue
    exact appended _ ((Device.appendNext_room hcons hready hroom).trans (if_pos hlost))
  · intro e
    have happend := (Device.appendNext_room hqueue hready hroom).trans (if_neg (not_not.mpr hlost))
    refine ⟨fun htask => appended _ ?_, fun tag htask => appended _ ?_⟩
    · rw [happend, htask]
    · rw [happend, htask]
  · obtain ⟨r, hstore, hdue⟩ := h
    exact congrArg s.gives (Device.storeSafePoint_due hstore hdue)
  · rw [show s.dev.events.checker.suspect = false from h]
    rfl
  · exact (if_neg (by rw [show s.dev.events.checker.suspect = true from h]; exact Bool.false_ne_true)).trans (if_pos rfl)
  · exact (if_neg (by rw [show s.dev.events.checker.suspect = true from h]; exact Bool.false_ne_true)).trans
      (if_neg Bool.false_ne_true)
  · rw [show (s.dev.scrUnit cls unit).due = false from h]
    exact Bool.false_ne_true

end Sys2Proof.Machine
end
